-- ==== Sys2Proof/Word.lean ====
section
/-! DEFINITION. The word types of the WT-832: bytes and two-byte fields of packets, key sets and latch
sets, and the indexes of slots, voices, banks and table entries. -/

namespace Sys2Proof

/-- One byte of a packet (R183); sequence numbers and generations are bytes too, since they are
counted modulo 256 (R1). -/
abbrev Byte := BitVec 8

/-- A two-byte field (R183): source tags, and report numbers and marks, counted modulo 65536 (R1). -/
abbrev Half := BitVec 16

/-- A set of canonical keys, or of raw positions: bit n is key or position n (R183). -/
abbrev KeySet := BitVec 24

/-- A set of latches: bit n is latch n of the latch table (R174, R183). -/
abbrev LatchSet := BitVec 16

/-- An instrument slot 0..7. -/
abbrev SlotIx := Fin 8

/-- A voice of the rack 0..31. -/
abbrev VoiceIx := Fin 32

/-- A table bank, 0 or 1. -/
abbrev BankIx := Fin 2

/-- A latch 0..15, numbered as R174 numbers them. -/
abbrev LatchIx := Fin 16

/-- An index of the fingering table (R60). -/
abbrev EntryIx := Fin 256

/-- An index of the voicing table (R68). -/
abbrev VoicingIx := Fin 64

end Sys2Proof
end

