-- ==== Sys2Proof/Syntax.lean ====
section
/-! DEFINITION. The commands of the WT-832: one constructor for each row of spec/opcode_table.json. -/

namespace Sys2Proof

/-- The two links of the part (11.1). -/
inductive Link where
  | collector
  | voice
deriving DecidableEq, Repr

/-- The code groups of the line code: one data group for each byte value, two delimiters and the idle group, 259
in all (R184). -/
inductive CodeGroup where
  | data (value : Byte)
  | startDelimiter
  | endDelimiter
  | idle
deriving DecidableEq, Repr

/-- What a receiver reads from ten symbols (R184): the symbol at which the group begins, counted modulo 10 on the
link, and the code group the ten symbols form, or none when they form none of the 259 (log 15). -/
structure Reading where
  alignment : Fin 10
  group : Option CodeGroup
deriving DecidableEq, Repr

/-- One command: an event the world brings to the part. A packet that has passed the envelope checks of
R185 is given by its field bytes; the eighteen management requests are given by the request id and the
argument bytes of the MANAGE packet that carries them (R159, R188). -/
inductive Instr where
  /-- POWER_ON (R173): the reset pin is released. -/
  | powerOn
  /-- SENSE (R4): a SENSE packet with these field bytes is delivered. -/
  | sense (fields : List Byte)
  /-- MANAGE (R161): a MANAGE packet with these field bytes is delivered. -/
  | manage (fields : List Byte)
  /-- REPLY_SENT (R161): the last byte of the immediate reply has left the collector link. -/
  | replySent
  /-- UNKNOWN_COMMAND (R159): a request whose command code names no command. -/
  | unknownCommand (id code : Byte) (args : List Byte)
  /-- STATUS (R166). -/
  | status (id : Byte) (args : List Byte)
  /-- CLEAR_NOTICES (R179). -/
  | clearNotices (id : Byte) (args : List Byte)
  /-- SET_NOTICES (R170). -/
  | setNotices (id : Byte) (args : List Byte)
  /-- READ_CAPTURE (R169). -/
  | readCapture (id : Byte) (args : List Byte)
  /-- BIND_SLOT (R10, R11). -/
  | bindSlot (id : Byte) (args : List Byte)
  /-- UNBIND_SLOT (R12). -/
  | unbindSlot (id : Byte) (args : List Byte)
  /-- SET_SLOT (R7, R8). -/
  | setSlot (id : Byte) (args : List Byte)
  /-- READ_SLOT (R23). -/
  | readSlot (id : Byte) (args : List Byte)
  /-- SET_ENGINE (R164). -/
  | setEngine (id : Byte) (args : List Byte)
  /-- READ_ENGINE (R165). -/
  | readEngine (id : Byte) (args : List Byte)
  /-- WRITE_TABLE (R145). -/
  | writeTable (id : Byte) (args : List Byte)
  /-- READ_TABLE (R167). -/
  | readTable (id : Byte) (args : List Byte)
  /-- COPY_LIVE (R149, R150). -/
  | copyLive (id : Byte) (args : List Byte)
  /-- COMMIT (R149, R151). -/
  | commit (id : Byte) (args : List Byte)
  /-- ABORT_WORK (R154). -/
  | abortWork (id : Byte) (args : List Byte)
  /-- READ_VOICES (R168). -/
  | readVoices (id : Byte) (args : List Byte)
  /-- PANIC (R171). -/
  | panic (id : Byte) (args : List Byte)
  /-- RESTART (R172). -/
  | restart (id : Byte) (args : List Byte)
  /-- LOSS_TIMER_EXPIRY (R17): the loss timer of this slot expires. -/
  | lossTimerExpiry (slot : SlotIx)
  /-- RELEASE_TIMER_EXPIRY (R116): the release timer of this voice expires. -/
  | releaseTimerExpiry (voice : VoiceIx)
  /-- STALL_TIMER_EXPIRY (R135). -/
  | stallTimerExpiry
  /-- NOTICE_INTERVAL_EXPIRY (R178). -/
  | noticeIntervalExpiry
  /-- COPY_COMPLETION (R150): the running COPY_LIVE completes. -/
  | copyCompletion
  /-- VERIFICATION_COMPLETION (R151): the verification of the running COMMIT completes. -/
  | verificationCompletion
  /-- TRANSMISSION (R130): the transmitter is free and the port looks at its head record. -/
  | transmission
  /-- GRANT (R133): a GRANT packet with these field bytes arrives on the voice link. -/
  | grant (fields : List Byte)
  /-- FREED (R119): a FREED packet with these field bytes arrives on the voice link. -/
  | freed (fields : List Byte)
  /-- ENVELOPE_DISCARD (R185): these bytes stood between the delimiters of a packet on this link. -/
  | envelopeDiscard (link : Link) (bytes : List Byte)
  /-- PACKET_CUT (R184): while a packet arrives on this link its receiver reads these groups, the first of which
  it cannot read in lock cuts the packet. -/
  | packetCut (link : Link) (readings : List Reading)
  /-- COLLECTOR_LINK_UP (R184): the collector receiver reads these groups, up to those that give it lock. -/
  | collectorLinkUp (readings : List Reading)
  /-- COLLECTOR_LINK_DOWN (R184, R162): the collector receiver reads these groups, until lock has been absent for
  too long. -/
  | collectorLinkDown (readings : List Reading)
  /-- ATTACHMENT (R184, R136): the voice receiver reads these groups, up to those that give it lock. -/
  | attachment (readings : List Reading)
  /-- DETACHMENT (R184, R137): the voice receiver reads these groups, until lock has been absent for too long. -/
  | detachment (readings : List Reading)
  /-- UPSTREAM_PACKET_SENT (R162): a completion reply or a NOTICE packet has been sent upstream. -/
  | upstreamPacketSent
deriving DecidableEq, Repr

end Sys2Proof
end

