-- ==== Sys2Proof/Machine/State.lean ====
section
/-! DEFINITION. The state of the WT-832, block by block as 00 section 2 lists its blocks, and its value
at power-on (R173). Plain data throughout. -/

namespace Sys2Proof.Machine

open Sys2Proof

/-! ### The slot table (R5, R6) -/

/-- The sixteen settings of a slot, with the defaults of R6. -/
structure Settings where
  profile : Fin 4 := 0
  curve : Fin 4 := 0
  zero : Nat := 0
  gain : Nat := 256
  onThreshold : Nat := 400
  offThreshold : Nat := 300
  velocityGain : Nat := 8
  confirmCount : Nat := 3
  priority : Fin 4 := 1
  transpose : Int := 0
  tune : Int := 0
  rollerCenter : Nat := 4
  lipCenter : Nat := 512
  bendRange : Nat := 128
  slew : Nat := 16383
  lossTime : Nat := 60
deriving DecidableEq, Repr

/-- The pending settings record of a slot: any of the three deferred settings (R8). -/
structure PendingSettings where
  profile : Option (Fin 4) := none
  transpose : Option Int := none
  rollerCenter : Option Nat := none
deriving DecidableEq, Repr

/-- The state of a slot (R77), in the order R5 lists the values. -/
inductive Phase where
  | unbound
  | absent
  | quiet
  | stalled
  | sounding
deriving DecidableEq, Repr

/-- Why a bound slot is in ABSENT (R20). -/
inductive AbsentCause where
  | bind
  | timeout
  | restart
deriving DecidableEq, Repr

/-- What a lookup returns when an entry matches (R66). -/
structure Resolution where
  entry : EntryIx
  note : Nat
  cent : Int
  voicing : VoicingIx
deriving DecidableEq, Repr

/-- The context of one slot (R5), with its power-on values. A running loss timer holds the loss time it
was started with (R16). -/
structure Slot where
  tag : Option Half := none
  phase : Phase := .unbound
  absentCause : Option AbsentCause := none
  expectedSeq : Option Byte := none
  lossTimer : Option Nat := none
  settings : Settings := {}
  pendingSettings : Option PendingSettings := none
  bank : Option BankIx := none
  candidate : KeySet := 0
  runCount : Nat := 0
  confirmed : KeySet := 0
  resolution : Option Resolution := none
  qPrev : Nat := 0
  outLevel : Nat := 0
  onsetVelocity : Nat := 1
  rearm : Bool := false
  layers : List (Option VoiceIx) := []
deriving DecidableEq, Repr

/-! ### The voice pool (R102, R104, R110) -/

/-- The state of a voice in the pool (R103). -/
inductive VoicePhase where
  | free
  | sounding
  | releasing
deriving DecidableEq, Repr

/-- What the rack is believed to hold for a voice (R106). -/
inductive DnState where
  | none
  | pending
  | opened
  | tail
deriving DecidableEq, Repr

/-- The owner of a SOUNDING voice (R102). -/
structure Owner where
  slot : SlotIx
  layer : Fin 4
  priority : Fin 4
deriving DecidableEq, Repr

/-- One voice record (R102), with its power-on values; its index is its place in the pool. A running
release timer holds the release timeout it was started with (R115). -/
structure Voice where
  phase : VoicePhase := .free
  owner : Option Owner := none
  generation : Byte := 0
  dn : DnState := .none
  dnGeneration : Byte := 0
  lastPitch : Nat := 0
  lastLevel : Nat := 0
  pitchOwed : Bool := false
  levelOwed : Bool := false
  releaseTimer : Option Nat := none
deriving DecidableEq, Repr

/-- The voice pool: thirty-two records, the two lists (head first) and the rotation pointer. -/
structure Pool where
  voices : Vector Voice 32 := Vector.replicate 32 {}
  ageList : List VoiceIx := []
  releaseList : List VoiceIx := []
  rotation : SlotIx := 7
deriving DecidableEq, Repr

/-! ### The emission queue and the voice port (R124) -/

/-- The kinds of STOP record (R124), in the order of their codes (R187). -/
inductive StopKind where
  | release
  | lost
  | flush
  | cut
deriving DecidableEq, Repr

/-- A voice record of the emission queue (R124). -/
inductive VoiceRecord where
  | start (voice : VoiceIx) (generation : Byte) (channel program pitch velocity level : Nat)
  | retune (voice : VoiceIx) (generation : Byte) (pitch : Nat)
  | level (voice : VoiceIx) (generation : Byte) (level : Nat)
  | stop (voice : VoiceIx) (generation : Byte) (kind : StopKind)
  | allStop
deriving DecidableEq, Repr

/-- The emission queue and the voice port (R124), with their power-on values. `sending` is the record of
the VOICE packet last put on the link (R130, log 4). -/
structure VoicePort where
  queue : List VoiceRecord := []
  credit : Nat := 0
  attached : Bool := false
  allStopOwed : Bool := false
  stallTimer : Option Nat := none
  sending : Option VoiceRecord := none
deriving DecidableEq, Repr

/-! ### The table store (R143) -/

/-- A key profile (02 section 2.1): the map of the twenty-four raw positions (none is NONE) and the
inversion set, with the power-on value of R27. -/
structure KeyProfile where
  map : Vector (Option (Fin 24)) 24 := Vector.replicate 24 none
  inversion : KeySet := 0
deriving DecidableEq, Repr

/-- A breath curve: the points P0..P8 (R42, R43). -/
abbrev Curve := Vector Nat 9

/-- A fingering entry (R60). -/
structure Fingering where
  valid : Bool := false
  care : KeySet := 0
  pattern : KeySet := 0
  note : Nat := 0
  cent : Int := 0
  voicing : VoicingIx := 0
deriving DecidableEq, Repr

/-- The mode of a voicing (R68). -/
inductive Mode where
  | legato
  | retrigger
deriving DecidableEq, Repr

/-- A layer record of a voicing (R68). -/
structure Layer where
  interval : Int
  program : Nat
  channel : Nat
  trim : Nat
  follow : Bool
deriving DecidableEq, Repr

/-- A voicing entry (R68); its layer count is the length of its list of layer records. -/
structure Voicing where
  mode : Mode := .legato
  fixedVelocity : Nat := 64
  layers : List Layer := []
deriving DecidableEq, Repr

/-- The state of a bank (R143), in the order the table lists them. -/
inductive BankState where
  | empty
  | staged
  | copying
  | verifying
  | live
  | draining
deriving DecidableEq, Repr

/-- A bank: its state and its four tables (R145), with the power-on values of R143. -/
structure Bank where
  state : BankState := .empty
  profiles : Vector KeyProfile 4 := Vector.replicate 4 {}
  curves : Vector Curve 4 := Vector.replicate 4 (Vector.replicate 9 0)
  fingerings : Vector Fingering 256 := Vector.replicate 256 {}
  voicings : Vector Voicing 64 := Vector.replicate 64 {}
deriving DecidableEq, Repr

/-- The operations of long work (R149), in the order of their codes (R187). -/
inductive WorkKind where
  | copyLive
  | commit
deriving DecidableEq, Repr

/-- One operation of the long-work queue with the request id it was asked with (R149). -/
structure Work where
  kind : WorkKind
  id : Byte
deriving DecidableEq, Repr

/-- The table store: two banks and the long-work queue, whose head is running (R149). `copied` counts
the entries, of the 328 of a bank, that the running copy has written (R150, log 5). -/
structure TableStore where
  banks : Vector Bank 2 := Vector.replicate 2 {}
  work : List Work := []
  copied : Nat := 0
deriving DecidableEq, Repr

/-! ### The management responder (R161, R163) -/

/-- The steal mode setting (R109), in the order of its codes (R164). -/
inductive StealMode where
  | fixed
  | rotating
deriving DecidableEq, Repr

/-- The engine settings with the defaults of R163. -/
structure Engine where
  stealMode : StealMode := .fixed
  releaseTimeout : Nat := 1500
  deadBand : Nat := 16
  stallTime : Nat := 20
  noticeInterval : Nat := 10
deriving DecidableEq, Repr

/-- A request of the request list (R159, R161). -/
structure Request where
  id : Byte
  code : Byte
  args : List Byte
deriving DecidableEq, Repr

/-- The management responder: the request list, oldest first, whether it waits for its reply to be sent
(R161), and the engine settings (R163). -/
structure Responder where
  requests : List Request := []
  waiting : Bool := false
  engine : Engine := {}
deriving DecidableEq, Repr

/-! ### The notice unit (R174) -/

/-- The reasons of a CORRUPT capture, in the order of their codes (R187). -/
inductive CorruptReason where
  | check
  | length
  | classByte
  | content
deriving DecidableEq, Repr

/-- The reasons a long operation fails, in the order of their codes (R187). -/
inductive FailReason where
  | noStaging
  | noSource
  | danglingVoicing (entry : EntryIx)
  | emptyFingering
  | aborted
deriving DecidableEq, Repr

/-- An event with its capture, one constructor for each latch in the order of R174. -/
inductive Capture where
  | corrupt (reason : CorruptReason) (origin : Link)
  | stray (tag : Half)
  | gap (slot : SlotIx) (expected received : Byte)
  | stale (slot : SlotIx) (expected received : Byte)
  | lost (slot : SlotIx) (left : Phase)
  | unmapped (slot : SlotIx) (pattern : KeySet)
  | thin (slot : SlotIx) (voicing : VoicingIx) (granted wanted : Nat)
  | steal (voice : VoiceIx) (victim requester : SlotIx)
  | evict (voice : VoiceIx) (retune : Bool)
  | stall (depth : Nat)
  | detach (discarded flushed : Nat)
  | attach (depth : Nat) (placed : Bool)
  | staleFreed (voice : VoiceIx) (generation : Byte)
  | clamp (slot : SlotIx) (layer : Nat) (value : Int)
  | workDone (kind : WorkKind) (bank : BankIx)
  | workFail (kind : WorkKind) (reason : FailReason)
deriving DecidableEq, Repr

/-- A latch (R174) with its power-on value. The latch is set exactly while it holds a first capture. -/
structure Latch where
  first : Option Capture := none
  repeats : Nat := 0
  lastMark : Half := 0
  isNew : Bool := false
deriving DecidableEq, Repr

/-- The latches of class FAULT (STALL, DETACH, WORK_FAIL): the default of both enable sets (R177). -/
def faultSet : LatchSet := 0x8600#16

/-- The notice unit (R174 to R178) with its power-on values. `lineLow` is the pin NOTICE_N: true while it
is driven low. -/
structure NoticeUnit where
  latches : Vector Latch 16 := Vector.replicate 16 {}
  reportNumber : Half := 0
  lineEnable : LatchSet := faultSet
  packetEnable : LatchSet := faultSet
  masterEnable : Bool := true
  timer : Option Nat := none
  owed : Bool := false
  lineLow : Bool := false
deriving DecidableEq, Repr

/-! ### The collector port (R162) -/

/-- The statuses of a reply, in the order of R160 and so of their codes (R187). -/
inductive Status where
  | ok
  | clamped
  | queued
  | busy
  | bankBusy
  | badArg
  | inUse
  | noSuch
  | unknown
  | failed
deriving DecidableEq, Repr

/-- A packet produced for the collector link (R162): an immediate reply, a completion reply or a NOTICE,
with the fields R187 gives it. -/
inductive Upstream where
  | immediate (id code : Byte) (status : Status) (payload : List Byte)
  | completion (id : Byte) (kind : WorkKind) (bank : Option BankIx) (failure : Option FailReason)
  | notice (number : Half) (latches : LatchSet) (captures : List Capture)
deriving DecidableEq, Repr

/-- The collector port: whether its link is up (R184) and the upstream packets, the head being sent
(R162). -/
structure CollectorPort where
  up : Bool := false
  upstream : List Upstream := []
deriving DecidableEq, Repr

/-! ### The receivers of the two links (R184) -/

/-- Where a receiver stands with a packet (R184): it receives none, it is inside one, or it has lost lock inside
one and the outcome is open until lock returns or the link goes down. -/
inductive PacketProgress where
  | none
  | inside
  | cut
deriving DecidableEq, Repr

/-- The receiver of a link (R184), with its power-on values: whether it holds symbol lock, the alignment at which
it last read a group, how many consecutive valid groups it has read there (counted up to the sixteen that give
lock), for how many symbol times lock has been absent (counted up to the 256 that end the link), and where it
stands with a packet. -/
structure Receiver where
  locked : Bool := false
  alignment : Fin 10 := 0
  validGroups : Nat := 0
  lockless : Nat := 0
  packet : PacketProgress := .none
deriving DecidableEq, Repr

/-- The two receivers of the part. -/
structure Receivers where
  collector : Receiver := {}
  voice : Receiver := {}
deriving DecidableEq, Repr

/-! ### The whole part -/

/-- The state of the part, one field for each block of 00 section 2 that holds state, the receivers of its two
links, and two fields of the model's own: the free values drawn so far (log 5) and the commands the world has yet
to send. -/
structure State where
  receivers : Receivers := {}
  collector : CollectorPort := {}
  slots : Vector Slot 8 := Vector.replicate 8 {}
  pool : Pool := {}
  port : VoicePort := {}
  store : TableStore := {}
  responder : Responder := {}
  notices : NoticeUnit := {}
  freeCount : Nat := 0
  pending : List Instr := []
deriving DecidableEq, Repr

/-- The part stops on no event ("None of these stops the part", 10): there is no fault. -/
inductive Fault where
deriving DecidableEq, Repr

/-- The reasons a command can be refused by the model. -/
inductive Refusal where
  /-- Raised by exec's arm of a command that has no meaning yet; no arm does so now. Safe: the machine
  stops where the part goes on. -/
  | notModelled (mnemonic : String)
deriving DecidableEq, Repr

/-- The part right after power-on (R173): every field of every block at the power-on value its rule
gives, and no command waiting. -/
def State.reset : State := {}

end Sys2Proof.Machine
end

