-- ==== Sys2Proof/Machine/Ops.lean ====
section
/-! DEFINITION. The named operations over the state: reading and writing one slot, voice, latch or bank,
clamping (R1), and the modular counters (R1). -/

namespace Sys2Proof.Machine

open Sys2Proof

/-- To clamp a value to lo..hi (R1). -/
def clamp (lo hi v : Int) : Int := if v < lo then lo else if hi < v then hi else v

/-- The distance from x forward to y on a counter of modulus 256 (R1). -/
def distance8 (x y : Byte) : Nat := (y - x).toNat

/-- A mark a is earlier than a mark b when the distance from a forward to b lies in 1..32767 (R1). -/
def earlier (a b : Half) : Bool :=
  let d := (b - a).toNat
  1 ≤ d && d ≤ 32767

/-- How many keys a set holds: the specificity of an entry is that of its care set (R62). -/
def keyCount (ks : KeySet) : Nat := (List.range 24).countP fun k => ks.getLsbD k

/-- The context of slot i. -/
def State.slot (s : State) (i : SlotIx) : Slot := s.slots[i]

/-- Replace the context of slot i. -/
def State.setSlot (s : State) (i : SlotIx) (x : Slot) : State := { s with slots := s.slots.set i x }

/-- Change the context of slot i by f. -/
def State.modSlot (s : State) (i : SlotIx) (f : Slot → Slot) : State := s.setSlot i (f (s.slot i))

/-- The record of voice v. -/
def State.voice (s : State) (v : VoiceIx) : Voice := s.pool.voices[v]

/-- Replace the record of voice v. -/
def State.setVoice (s : State) (v : VoiceIx) (x : Voice) : State :=
  { s with pool := { s.pool with voices := s.pool.voices.set v x } }

/-- Change the record of voice v by f. -/
def State.modVoice (s : State) (v : VoiceIx) (f : Voice → Voice) : State := s.setVoice v (f (s.voice v))

/-- The bank b. -/
def State.bank (s : State) (b : BankIx) : Bank := s.store.banks[b]

/-- Replace the bank b. -/
def State.setBank (s : State) (b : BankIx) (x : Bank) : State :=
  { s with store := { s.store with banks := s.store.banks.set b x } }

/-- Put the bank b into a state, its contents as they stand. -/
def State.setBankState (s : State) (b : BankIx) (x : BankState) : State :=
  s.setBank b { s.bank b with state := x }

/-- Replace the age list (R104). -/
def State.setAgeList (s : State) (l : List VoiceIx) : State := { s with pool := { s.pool with ageList := l } }

/-- Replace the release list (R104). -/
def State.setReleaseList (s : State) (l : List VoiceIx) : State :=
  { s with pool := { s.pool with releaseList := l } }

/-- Move the rotation pointer (R110). -/
def State.setRotation (s : State) (i : SlotIx) : State := { s with pool := { s.pool with rotation := i } }

/-- Replace the contents of the emission queue (R124). -/
def State.setQueue (s : State) (q : List VoiceRecord) : State := { s with port := { s.port with queue := q } }

/-- Replace the long-work queue (R149). -/
def State.setWork (s : State) (w : List Work) : State := { s with store := { s.store with work := w } }

/-- Replace the engine settings (R163). -/
def State.setEngine (s : State) (e : Engine) : State :=
  { s with responder := { s.responder with engine := e } }

/-- The receiver of a link (R184). -/
def State.receiver (s : State) : Link → Receiver
  | .collector => s.receivers.collector
  | .voice => s.receivers.voice

/-- Replace the receiver of a link. -/
def State.setReceiver (s : State) (link : Link) (r : Receiver) : State :=
  { s with receivers :=
      match link with
      | .collector => { s.receivers with collector := r }
      | .voice => { s.receivers with voice := r } }

/-- A link is up (R184); the voice port is ATTACHED while its link is up (R136, R137). -/
def State.linkUp (s : State) : Link → Bool
  | .collector => s.collector.up
  | .voice => s.port.attached

/-- A packet can be received on a link: the link is up and its receiver holds symbol lock (R184, log 16). -/
def State.receives (s : State) (link : Link) : Bool := s.linkUp link && (s.receiver link).locked

/-- The collector port takes a packet produced for upstream: it joins the packets that wait, in the
order produced, and is discarded when the link is down (R162). -/
def CollectorPort.push (c : CollectorPort) (p : Upstream) : CollectorPort :=
  if c.up then { c with upstream := c.upstream ++ [p] } else c

/-- Produce a packet upstream (R162). -/
def State.push (s : State) (p : Upstream) : State := { s with collector := s.collector.push p }

end Sys2Proof.Machine
end

