-- ==== Sys2Proof/Machine/Arith.lean ====
section
/-! DEFINITION. Breath and pitch arithmetic (chapter 3) and the lookup of the resolver (chapter 4). Every
division is floor division (R1) but the one of the lip bend, which truncates toward zero (R49). -/

namespace Sys2Proof.Machine

open Sys2Proof

/-! ### The breath path (R40 to R43) -/

/-- The offset and gain stages: the scaled pressure q of a raw sample (R40, R41). -/
def scaledPressure (st : Settings) (sample : Nat) : Nat := min 4095 ((sample - st.zero) * st.gain / 256)

/-- The point P[k] of a curve (R42). -/
def curvePoint (p : Curve) (k : Nat) : Nat := p[k]?.getD 0

/-- The curve stage: the expression value e of a scaled pressure (R42). -/
def curveValue (c : Curve) (q : Nat) : Nat :=
  let k := q / 512
  let f := q % 512
  ((curvePoint c k : Int) + ((curvePoint c (k + 1) : Int) - curvePoint c k) * f / 512).toNat

/-- The expression value of a scaled pressure under the curve in force, 0 when none is (R43). -/
def expression (c : Option Curve) (q : Nat) : Nat :=
  match c with
  | some c => curveValue c q
  | none => 0

/-! ### Levels and velocity (R45 to R47) -/

/-- The out level moved toward e by at most the slew setting (R45). -/
def slewed (slew out e : Nat) : Nat :=
  if out ≤ e then min e (out + slew) else max e (out - slew)

/-- The level of a layer: the out level scaled by its trim (R46). -/
def layerLevel (out trim : Nat) : Nat := out * trim / 127

/-- The onset velocity of a rise from qPrev to q (R47). -/
def onsetVelocityOf (gain : Nat) (q qPrev : Nat) : Nat :=
  (clamp 1 127 (((q : Int) - qPrev) * gain / 64)).toNat

/-! ### The pitch code (R48 to R50) -/

/-- The roller octave of a packet, in semitones (R48). -/
def rollerOctave (st : Settings) (roller : Option Nat) : Int :=
  match roller with
  | some r => ((r : Int) - st.rollerCenter) * 12
  | none => 0

/-- The lip bend of a packet, truncated toward zero and clamped to the bend range (R49). -/
def lipBend (st : Settings) (lip : Option Nat) : Int :=
  match lip with
  | some l => clamp (-(st.bendRange : Int)) st.bendRange (Int.tdiv (((l : Int) - st.lipCenter) * st.bendRange) 512)
  | none => 0

/-- A layer's pitch before the clamp, from the seven terms of R50. -/
def pitchValue (st : Settings) (roller lip : Option Nat) (note : Nat) (cent interval : Int) : Int :=
  ((note : Int) + rollerOctave st roller + st.transpose + interval) * 64 + (cent + st.tune + lipBend st lip)

/-- The pitch code: the value clamped to 0..8191 (R50). -/
def pitchCode (v : Int) : Nat := (clamp 0 8191 v).toNat

/-- A pitch value outside 0..8191 raises CLAMP (R51). -/
def pitchOutOfRange (v : Int) : Bool := decide (v < 0) || decide (8191 < v)

/-- The distance between two levels (R56). -/
def levelDistance (a b : Nat) : Nat := (a - b) + (b - a)

/-! ### The key profile (R24 to R26) -/

/-- Whether raw position p of a key word reads closed under a profile (R24). -/
def readsClosed (pr : KeyProfile) (raw : KeySet) (p : Fin 24) : Bool :=
  raw.getLsbD p != pr.inversion.getLsbD p

/-- The canonical key set of a key word under a profile (R26). -/
def canonicalKeys (pr : KeyProfile) (raw : KeySet) : KeySet :=
  (List.finRange 24).foldl
    (fun acc p =>
      if readsClosed pr raw p then
        match pr.map[p] with
        | some k => acc ||| (1#24 <<< k.val)
        | none => acc
      else acc) 0

/-! ### The lookup (R62, R63, R66) -/

/-- A fingering entry matches a key set when they agree on every key of its care set (R62). -/
def Fingering.matchesSet (f : Fingering) (ks : KeySet) : Bool := (ks ^^^ f.pattern) &&& f.care == 0

/-- The specificity of an entry: the number of keys in its care set (R62). -/
def Fingering.specificity (f : Fingering) : Nat := keyCount f.care

/-- One more entry is considered: a valid matching entry replaces the best so far only when it is more
specific, so that of equals the lowest index wins (R63). -/
def considerEntry (t : Vector Fingering 256) (ks : KeySet) (best : Option EntryIx) (i : EntryIx) :
    Option EntryIx :=
  if t[i].valid && t[i].matchesSet ks then
    match best with
    | some j => if t[j].specificity < t[i].specificity then some i else some j
    | none => some i
  else best

/-- The winning entry of a lookup, or no match (R63). -/
def lookupEntry (t : Vector Fingering 256) (ks : KeySet) : Option EntryIx :=
  (List.finRange 256).foldl (considerEntry t ks) none

/-- The resolution record of an entry (R66). -/
def resolutionOf (t : Vector Fingering 256) (i : EntryIx) : Resolution :=
  { entry := i, note := t[i].note, cent := t[i].cent, voicing := t[i].voicing }

/-- The lookup of a key set in a fingering table (R63, R66). -/
def lookupSet (t : Vector Fingering 256) (ks : KeySet) : Option Resolution :=
  (lookupEntry t ks).map (resolutionOf t)

end Sys2Proof.Machine
end

