-- ==== Sys2Proof/Config.lean ====
section
/-! DEFINITION. What the spec leaves to the part: free values, with no body, so that nothing can be
proved of the value itself. -/

namespace Sys2Proof

/-- FREE VALUE (log 5). How many more table entries a running COPY_LIVE has written since it was last
looked at. R150 and R154 speak of "what the copy had written so far" and give no rate; the argument is
the count of free values drawn before this one. -/
opaque Config.copyAdvance : Nat → Nat

end Sys2Proof
end

