-- ==== Sys2Proof/Machine/Flags.lean ====
section
/-! DEFINITION. The notice unit (chapter 10): latches, the report number, the notice line and NOTICE
packets. These are the part's status flags: every event another block reports is raised here. -/

namespace Sys2Proof.Machine

open Sys2Proof

/-- The latch an event is raised into (R174). -/
def Capture.latch : Capture → LatchIx
  | .corrupt .. => 0
  | .stray .. => 1
  | .gap .. => 2
  | .stale .. => 3
  | .lost .. => 4
  | .unmapped .. => 5
  | .thin .. => 6
  | .steal .. => 7
  | .evict .. => 8
  | .stall .. => 9
  | .detach .. => 10
  | .attach .. => 11
  | .staleFreed .. => 12
  | .clamp .. => 13
  | .workDone .. => 14
  | .workFail .. => 15

/-- Whether a latch is set: it holds its first capture exactly while it is set (R174). -/
def Latch.isSet (l : Latch) : Bool := l.first.isSome

/-- The classes of the latches, in the order R166 lists them. -/
inductive NoticeClass where
  | fault
  | degraded
  | advisory
deriving DecidableEq, Repr

/-- The class of a latch (R174). -/
def latchClass (l : LatchIx) : NoticeClass :=
  if l.val ∈ [9, 10, 15] then .fault else if l.val ∈ [4, 5, 6, 8] then .degraded else .advisory

/-- The latches that are set, as a latch set (R166, R178). -/
def NoticeUnit.setLatches (n : NoticeUnit) : LatchSet :=
  (List.finRange 16).foldl
    (fun acc l => if n.latches[l].isSet then acc ||| (1#16 <<< l.val) else acc) 0

/-- The level R177 gives the notice line: low when the master enable is on and a set latch is in the
line-enable set. -/
def NoticeUnit.line (n : NoticeUnit) : Bool :=
  n.masterEnable && (List.finRange 16).any fun l => n.latches[l].isSet && n.lineEnable.getLsbD l

/-- Re-evaluate the notice line (R177). -/
def NoticeUnit.evalLine (n : NoticeUnit) : NoticeUnit := { n with lineLow := n.line }

/-- The first captures a NOTICE carries: those of the set latches whose new flag is set (R178). That they stand in
ascending order of their latches is the model's choice (DESIGN CHOICE, log 31): R178 and R187 give no order. -/
def NoticeUnit.newCaptures (n : NoticeUnit) : List Capture :=
  (List.finRange 16).filterMap fun l => if n.latches[l].isNew then n.latches[l].first else none

/-- A report is produced: the report number advances and every new flag is cleared (R176). -/
def NoticeUnit.report (n : NoticeUnit) : NoticeUnit :=
  { n with
    reportNumber := n.reportNumber + 1
    latches := n.latches.map fun l => { l with isNew := false } }

/-- The NOTICE packet that is produced when the unit stands as n (R178). -/
def NoticeUnit.noticePacket (n : NoticeUnit) : Upstream :=
  .notice (n.reportNumber + 1) n.setLatches n.newCaptures

/-- An event is taken by its latch (R175): a clear latch is set with the event's capture, a set latch
counts a repeat; the last mark moves in both cases. The line is re-evaluated (R177). -/
def NoticeUnit.strike (n : NoticeUnit) (c : Capture) : NoticeUnit :=
  let l := n.latches[c.latch]
  let l' : Latch :=
    if l.isSet then { l with repeats := min 255 (l.repeats + 1), lastMark := n.reportNumber }
    else { first := some c, repeats := 0, lastMark := n.reportNumber, isNew := true }
  NoticeUnit.evalLine { n with latches := n.latches.set c.latch l' }

/-- Whether an event makes a NOTICE owed: its latch is clear and packet-enabled and the master enable
is on (R175). -/
def NoticeUnit.owes (n : NoticeUnit) (c : Capture) : Bool :=
  !n.latches[c.latch].isSet && n.masterEnable && n.packetEnable.getLsbD c.latch

/-- An event is raised into its latch (R175). A NOTICE it makes owed is produced at once while the
interval timer is stopped, and marked owed otherwise (R178). -/
def State.raise (s : State) (c : Capture) : State :=
  let n := s.notices.strike c
  if s.notices.owes c then
    if n.timer.isNone then
      { s with
        notices := { n.report with timer := some s.responder.engine.noticeInterval }
        collector := s.collector.push n.noticePacket }
    else { s with notices := { n with owed := true } }
  else { s with notices := n }

/-- A condition that raises an event only when it holds. -/
def State.raiseIf (s : State) (b : Bool) (c : Capture) : State := if b then s.raise c else s

/-- The notice interval timer expires (R178): an owed NOTICE is produced and the timer started anew; with
nothing owed the timer stops. A stopped timer has no expiry (log 3). -/
def State.noticeInterval (s : State) : State :=
  if s.notices.timer.isNone then s
  else if s.notices.owed then
    { s with
      notices :=
        { s.notices.report with timer := some s.responder.engine.noticeInterval, owed := false }
      collector := s.collector.push s.notices.noticePacket }
  else { s with notices := { s.notices with timer := none } }

/-- Whether CLEAR_NOTICES with mark m and set ls clears latch l: it is named, set, and its last mark is
earlier than m (R179). -/
def NoticeUnit.clears (n : NoticeUnit) (m : Half) (ls : LatchSet) (l : LatchIx) : Bool :=
  ls.getLsbD l && n.latches[l].isSet && earlier n.latches[l].lastMark m

/-- Whether CLEAR_NOTICES lists latch l as kept: it is named and set, and its last mark is not earlier
(R179). -/
def NoticeUnit.keeps (n : NoticeUnit) (m : Half) (ls : LatchSet) (l : LatchIx) : Bool :=
  ls.getLsbD l && n.latches[l].isSet && !earlier n.latches[l].lastMark m

/-- The latches CLEAR_NOTICES lists as kept (R179). -/
def NoticeUnit.keptLatches (n : NoticeUnit) (m : Half) (ls : LatchSet) : LatchSet :=
  (List.finRange 16).foldl (fun acc l => if n.keeps m ls l then acc ||| (1#16 <<< l.val) else acc) 0

/-- CLEAR_NOTICES against a mark (R179): each latch it clears keeps its last mark. -/
def NoticeUnit.clearAgainst (n : NoticeUnit) (m : Half) (ls : LatchSet) : NoticeUnit :=
  NoticeUnit.evalLine
    { n with
      latches := Vector.ofFn fun l =>
        if n.clears m ls l then { lastMark := n.latches[l].lastMark } else n.latches[l] }

/-- SET_NOTICES writes the two enable sets and the master enable whole (R170, R177). -/
def NoticeUnit.enable (n : NoticeUnit) (lineSet packetSet : LatchSet) (master : Bool) : NoticeUnit :=
  NoticeUnit.evalLine
    { n with lineEnable := lineSet, packetEnable := packetSet, masterEnable := master }

/-- RESTART clears every latch and the owed flag; the interval timer runs on (R181). -/
def NoticeUnit.clearAll (n : NoticeUnit) : NoticeUnit :=
  NoticeUnit.evalLine { n with latches := Vector.replicate 16 {}, owed := false }

end Sys2Proof.Machine
end

