-- ==== Sys2Proof/Machine/Store.lean ====
section
/-! DEFINITION. The table store (chapter 8): bank states, the staging bank, the bank switching rule, the
drain, writing, and long work with its swap. -/

namespace Sys2Proof.Machine

open Sys2Proof

/-! ### Banks (R144) -/

/-- The LIVE bank, when there is one (R143, R144). -/
def TableStore.liveBank (t : TableStore) : Option BankIx :=
  (List.finRange 2).find? fun b => t.banks[b].state == .live

/-- The staging bank (R144): bank 0 while no bank is LIVE, else the bank that is neither LIVE nor
DRAINING. -/
def TableStore.stagingBank (t : TableStore) : Option BankIx :=
  if t.liveBank.isNone then some 0
  else (List.finRange 2).find? fun b => t.banks[b].state != .live && t.banks[b].state != .draining

/-- The bank the running operation works on: the one that is COPYING or VERIFYING (R149). -/
def TableStore.workBank (t : TableStore) : Option BankIx :=
  (List.finRange 2).find? fun b => t.banks[b].state == .copying || t.banks[b].state == .verifying

/-! ### Which bank each slot reads (R147, R148) -/

/-- A slot uses bank b as its bank in use. -/
def State.bankUsed (s : State) (b : BankIx) : Bool := (List.finRange 8).any fun i => (s.slot i).bank == some b

/-- The drain test on one bank (R148): DRAINING and used by no slot, it becomes STAGED. -/
def State.drainBank (s : State) (b : BankIx) : State :=
  if (s.bank b).state = .draining ∧ s.bankUsed b = false then s.setBankState b .staged else s

/-- The drain test (R148). -/
def State.drain (s : State) : State := (s.drainBank 0).drainBank 1

/-- The effect of the bank switching rule on a slot, by its state (R147). -/
def switchedBank (live : Option BankIx) (x : Slot) : Option BankIx :=
  match x.phase with
  | .unbound => none
  | .sounding => x.bank
  | _ => live.or x.bank

/-- The bank switching rule applied to slot i (R147), followed by the drain test (R148). -/
def State.switchBank (s : State) (i : SlotIx) : State :=
  (s.modSlot i fun x => { x with bank := switchedBank s.store.liveBank x }).drain

/-- The bank switching rule applied to every slot, as a swap does (R152). -/
def State.switchAll (s : State) : State :=
  { s with slots := s.slots.map fun x => { x with bank := switchedBank s.store.liveBank x } }

/-! ### Copying (R150) -/

/-- How many entries a bank holds: 4 profiles, 4 curves, 64 voicings, 256 fingering entries (R145). -/
def bankEntries : Nat := 328

/-- The bank dst after the first n entries of src have been copied into it, in the order key profiles,
breath curves, voicings, fingering entries (R150). -/
def copyPart (n : Nat) (src dst : Bank) : Bank :=
  { dst with
    profiles := Vector.ofFn fun i => if i.val < n then src.profiles[i] else dst.profiles[i]
    curves := Vector.ofFn fun i => if 4 + i.val < n then src.curves[i] else dst.curves[i]
    voicings := Vector.ofFn fun i => if 8 + i.val < n then src.voicings[i] else dst.voicings[i]
    fingerings := Vector.ofFn fun i => if 72 + i.val < n then src.fingerings[i] else dst.fingerings[i] }

/-- The running copy is looked at while it runs: it has written some further entries, a free number of
them, and never more than a bank holds (R150, R154, log 5). With no COPYING bank nothing changes. -/
def State.advanceCopy (s : State) : State :=
  match s.store.workBank, s.store.liveBank with
  | some b, some l =>
    if (s.bank b).state = .copying then
      let n := min bankEntries (s.store.copied + Config.copyAdvance s.freeCount)
      let s1 := s.setBank b (copyPart n (s.bank l) (s.bank b))
      { s1 with store := { s1.store with copied := n }, freeCount := s.freeCount + 1 }
    else s
  | _, _ => s

/-! ### Completion (R153) -/

/-- An operation completes with success on a bank: its completion reply is produced, then WORK_DONE is
raised (R153, log 14). -/
def State.completeOk (s : State) (w : Work) (b : BankIx) : State :=
  (s.push (.completion w.id w.kind (some b) none)).raise (.workDone w.kind b)

/-- An operation completes as failed: its completion reply names the bank it acted on, or none when it
failed for want of a staging bank, and WORK_FAIL is raised (R153, log 10, log 14). -/
def State.completeFail (s : State) (w : Work) (b : Option BankIx) (r : FailReason) : State :=
  (s.push (.completion w.id w.kind b (some r))).raise (.workFail w.kind r)

/-! ### The start of an operation (R149 to R151) -/

/-- What the start of an operation comes to. -/
inductive WorkStart where
  | running (bank : BankIx) (state : BankState)
  | fails (bank : Option BankIx) (reason : FailReason)
deriving DecidableEq, Repr

/-- The start of an operation, from the banks as they stand: COPY_LIVE by R150, COMMIT by R151. -/
def TableStore.startOf (t : TableStore) (k : WorkKind) : WorkStart :=
  match k, t.stagingBank with
  | _, none => .fails none .noStaging
  | .copyLive, some b => if t.liveBank.isNone then .fails (some b) .noSource else .running b .copying
  | .commit, some b => if t.banks[b].state = .empty then .fails none .noStaging else .running b .verifying

/-- The head of the long-work queue starts; an operation that fails at its start completes at once and
the next one starts (R149). -/
def State.startWork : List Work → State → State
  | [], s => s.setWork []
  | w :: ws, s =>
    match s.store.startOf w.kind with
    | .running b x =>
      let t := (s.setWork (w :: ws)).setBankState b x
      { t with store := { t.store with copied := 0 } }
    | .fails b r => State.startWork ws ((s.setWork ws).completeFail w b r)

/-- COPY_LIVE or COMMIT is accepted: it joins the queue, and starts when the queue was empty (R149). -/
def State.queueWork (s : State) (w : Work) : State :=
  if s.store.work.isEmpty then s.startWork [w] else s.setWork (s.store.work ++ [w])

/-- The refusal of a COPY_LIVE or COMMIT request, if any (R149). -/
def TableStore.workRefusal (t : TableStore) : Option Status :=
  if t.stagingBank.isNone then some .bankBusy
  else if 2 ≤ t.work.length then some .busy
  else none

/-- The running COPY_LIVE completes (R150): the bank holds the LIVE contents and becomes STAGED, the
completion is reported and the next operation starts. With no COPY_LIVE running there is no completion
(log 3). -/
def State.copyCompletes (s : State) : State :=
  match s.store.work, s.store.workBank, s.store.liveBank with
  | w :: ws, some b, some l =>
    if w.kind = .copyLive then
      let s1 := (s.setBank b { copyPart bankEntries (s.bank l) (s.bank b) with state := .staged }).setWork ws
      State.startWork ws (s1.completeOk w b)
    else s
  | _, _, _ => s

/-! ### Verification and the swap (R151, R152) -/

/-- A valid fingering entry that names an empty voicing entry (R70). -/
def Bank.dangling (b : Bank) (i : EntryIx) : Bool :=
  b.fingerings[i].valid && b.voicings[b.fingerings[i].voicing].layers.isEmpty

/-- The verdict of COMMIT verification on a bank (R151): none when it passes. -/
def Bank.verdict (b : Bank) : Option FailReason :=
  match (List.finRange 256).find? b.dangling with
  | some i => some (.danglingVoicing i)
  | none => if (List.finRange 256).any fun i => b.fingerings[i].valid then none else some .emptyFingering

/-- The former LIVE bank, if any, becomes DRAINING and the verified bank LIVE (R152 steps 1 and 2). -/
def State.promote (s : State) (b : BankIx) : State :=
  let s1 := match s.store.liveBank with
    | some l => s.setBankState l .draining
    | none => s
  s1.setBankState b .live

/-- The swap (R152 steps 1 to 4): the bank goes live, every slot is switched by the rule and the drain is
tested. -/
def State.swap (s : State) (b : BankIx) : State := ((s.promote b).switchAll).drain

/-- The verification of the running COMMIT completes (R151): a bank that fails becomes STAGED, a bank that
passes is swapped in; the completion is reported and the next operation starts. With no COMMIT running
there is no completion (log 3). -/
def State.verificationCompletes (s : State) : State :=
  match s.store.work, s.store.workBank with
  | w :: ws, some b =>
    if w.kind = .commit then
      let s1 := s.setWork ws
      match (s.bank b).verdict with
      | some r => State.startWork ws ((s1.setBankState b .staged).completeFail w (some b) r)
      | none => State.startWork ws ((s1.swap b).completeOk w b)
    else s
  | _, _ => s

/-- Long work is abandoned (R154, R156): a COPYING bank keeps what the copy has written, the bank becomes
STAGED and the queue is emptied. -/
def State.abandonWork (s : State) : State :=
  let s1 := s.advanceCopy
  let s2 := match s1.store.workBank with
    | some b => s1.setBankState b .staged
    | none => s1
  s2.setWork []

/-! ### Entries of the four tables (R145, R167) -/

/-- The four kinds of table, in the order of their codes (R188). -/
inductive TableKind where
  | profile
  | curve
  | fingering
  | voicing
deriving DecidableEq, Repr

/-- The last index of a table (R145, R167). -/
def TableKind.lastIndex : TableKind → Nat
  | .profile => 3
  | .curve => 3
  | .fingering => 255
  | .voicing => 63

/-- One table entry. -/
inductive TableEntry where
  | profile (p : KeyProfile)
  | curve (c : Curve)
  | fingering (f : Fingering)
  | voicing (v : Voicing)
deriving DecidableEq, Repr

/-- A fingering entry as it is stored: its pattern masked to its care set (R61). -/
def Fingering.stored (f : Fingering) : Fingering := { f with pattern := f.pattern &&& f.care }

/-- An entry replaces the one at its index whole (R146). -/
def Bank.writeEntry (b : Bank) (i : Nat) : TableEntry → Bank
  | .profile p => { b with profiles := b.profiles.setIfInBounds i p }
  | .curve c => { b with curves := b.curves.setIfInBounds i c }
  | .fingering f => { b with fingerings := b.fingerings.setIfInBounds i f.stored }
  | .voicing v => { b with voicings := b.voicings.setIfInBounds i v }

/-- Entries are written in index order from the first index (R146). -/
def Bank.writeEntries (b : Bank) : Nat → List TableEntry → Bank
  | _, [] => b
  | i, e :: es => Bank.writeEntries (b.writeEntry i e) (i + 1) es

/-- An accepted write: the entries go into the bank, and an EMPTY bank becomes STAGED (R146). -/
def State.writeBank (s : State) (b : BankIx) (i : Nat) (es : List TableEntry) : State :=
  let x := (s.bank b).writeEntries i es
  s.setBank b { x with state := if x.state = .empty then .staged else x.state }

/-- The entry of a kind at an index, as it is stored (R76, R167). -/
def Bank.readEntry (b : Bank) (k : TableKind) (i : Nat) : Option TableEntry :=
  match k with
  | .profile => b.profiles[i]?.map .profile
  | .curve => b.curves[i]?.map .curve
  | .fingering => b.fingerings[i]?.map .fingering
  | .voicing => b.voicings[i]?.map .voicing

/-- The entries from an index, in index order (R167). -/
def Bank.readEntries (b : Bank) (k : TableKind) (i n : Nat) : List TableEntry :=
  (List.range n).filterMap fun j => b.readEntry k (i + j)

end Sys2Proof.Machine
end

