-- ==== Sys2Proof/Machine/Operands.lean ====
section
/-! DEFINITION. Reading the operands of the commands: the field bytes of packets (R187), the argument bytes
of requests and the entries of WRITE_TABLE (R188), and the envelope with its check (R183, R185). -/

namespace Sys2Proof.Machine

open Sys2Proof

/-! ### Fields (R183) -/

/-- A two-byte field, most significant byte first. -/
def half (hi lo : Byte) : Half := hi ++ lo

/-- A key set of three bytes, most significant byte first. -/
def keySet (b2 b1 b0 : Byte) : KeySet := b2 ++ b1 ++ b0

/-- The two-byte fields of a run of bytes. -/
def halves : List Byte → List Half
  | hi :: lo :: r => half hi lo :: halves r
  | _ => []

/-! ### SENSE packets (R2, R187) -/

/-- The fields of a SENSE packet. -/
structure Sense where
  tag : Half
  sequence : Byte
  keyWord : KeySet
  samples : List Nat
  lip : Option Nat
  roller : Option Nat
deriving DecidableEq, Repr

/-- The ranges of R2 on the fields of a SENSE packet. -/
def Sense.inRange (p : Sense) : Bool :=
  p.samples.all (fun x => decide (x ≤ 4095)) && p.lip.all (fun x => decide (x ≤ 1023)) &&
    p.roller.all (fun x => decide (x ≤ 7))

/-- The bytes the optional fields and samples of a SENSE packet take (R187). -/
def senseTail (count : Nat) (lip roller : Bool) : Nat :=
  2 * count + (if lip then 2 else 0) + (if roller then 1 else 0)

/-- The content check of a SENSE packet (R2): its fields, or none when it is a CONTENT discard. -/
def readSense : List Byte → Option Sense
  | t1 :: t0 :: sq :: k2 :: k1 :: k0 :: n :: fl :: rest =>
    let count := n.toNat
    let hasLip := fl.getLsbD 1
    let hasRoller := fl.getLsbD 0
    if 1 ≤ count ∧ count ≤ 4 ∧ rest.length = senseTail count hasLip hasRoller then
      let after := rest.drop (2 * count)
      let p : Sense :=
        { tag := half t1 t0
          sequence := sq
          keyWord := keySet k2 k1 k0
          samples := (halves (rest.take (2 * count))).map BitVec.toNat
          lip := if hasLip then (halves (after.take 2)).head?.map BitVec.toNat else none
          roller := if hasRoller then after.getLast?.map BitVec.toNat else none }
      if p.inRange then some p else none
    else none
  | _ => none

/-! ### Requests (R159) -/

/-- The request of a MANAGE packet, or none when its body is too short to hold an id and a command code
(R159). -/
def readRequest : List Byte → Option Request
  | id :: code :: args => some ⟨id, code, args⟩
  | _ => none

/-- A slot number 0..7, none above 7 (R7, R10, R12, R23). -/
def readSlotIx (b : Byte) : Option SlotIx := if h : b.toNat < 8 then some ⟨b.toNat, h⟩ else none

/-- Pair the bits set in a mask of n bits with the two-byte values that follow, in bit order; none when the
bytes differ in number from what the mask demands (R188). -/
def readMasked (mask : Nat → Bool) (n : Nat) (bs : List Byte) : Option (List (Nat × Half)) :=
  let bits := (List.range n).filter mask
  if bs.length = 2 * bits.length then some (bits.zip (halves bs)) else none

/-! ### The entries of WRITE_TABLE (R188) -/

/-- The kind a code names (R188). -/
def readKind (b : Byte) : Option TableKind :=
  match b.toNat with
  | 0 => some .profile
  | 1 => some .curve
  | 2 => some .fingering
  | 3 => some .voicing
  | _ => none

/-- A map entry: a key 0..23, NONE as 0xFF, and nothing else (R27, R188). -/
def readMapEntry (b : Byte) : Option (Option (Fin 24)) :=
  if h : b.toNat < 24 then some (some ⟨b.toNat, h⟩) else if b = 0xFF#8 then some none else none

/-- A key profile of 27 bytes (R27, R188). -/
def readProfile (bs : List Byte) : Option KeyProfile :=
  match (bs.take 24).mapM readMapEntry, bs.drop 24 with
  | some ms, [b2, b1, b0] =>
    if h : ms.length = 24 then some { map := ⟨ms.toArray, by simpa using h⟩, inversion := keySet b2 b1 b0 }
    else none
  | _, _ => none

/-- A breath curve of 18 bytes, each point within 0..16383 (R43, R188). -/
def readCurve (bs : List Byte) : Option Curve :=
  let ps := (halves bs).map BitVec.toNat
  if h : ps.length = 9 then
    if bs.length = 18 ∧ ps.all (fun x => decide (x ≤ 16383)) then some ⟨ps.toArray, by simpa using h⟩ else none
  else none

/-- A fingering entry of 10 bytes, its note, cent and voicing within range (R61, R188). -/
def readFingering : List Byte → Option Fingering
  | [fl, c2, c1, c0, p2, p1, p0, note, cent, vc] =>
    if h : note.toNat ≤ 127 ∧ -32 ≤ cent.toInt ∧ cent.toInt ≤ 31 ∧ vc.toNat < 64 then
      some
        { valid := fl.getLsbD 0
          care := keySet c2 c1 c0
          pattern := keySet p2 p1 p0
          note := note.toNat
          cent := cent.toInt
          voicing := ⟨vc.toNat, h.2.2.2⟩ }
    else none
  | _ => none

/-- The layer records of a voicing entry, each within the ranges of R69; none when a field is out of range
or the bytes run out. -/
def readLayers : Nat → List Byte → Option (List Layer × List Byte)
  | 0, bs => some ([], bs)
  | n + 1, iv :: pr :: ch :: tr :: fo :: bs =>
    if -48 ≤ iv.toInt ∧ iv.toInt ≤ 48 ∧ pr.toNat ≤ 127 ∧ ch.toNat ≤ 15 ∧ tr.toNat ≤ 127 ∧ fo.toNat ≤ 1 then
      (readLayers n bs).map fun r =>
        (⟨iv.toInt, pr.toNat, ch.toNat, tr.toNat, fo = 1#8⟩ :: r.1, r.2)
    else none
  | _ + 1, _ => none

/-- A voicing entry, the length of which its layer count decides (R69, R188). -/
def readVoicing : List Byte → Option (Voicing × List Byte)
  | lc :: md :: fv :: bs =>
    if lc.toNat ≤ 4 ∧ md.toNat ≤ 1 ∧ 1 ≤ fv.toNat ∧ fv.toNat ≤ 127 then
      (readLayers lc.toNat bs).map fun r =>
        (⟨if md = 0#8 then .legato else .retrigger, fv.toNat, r.1⟩, r.2)
    else none
  | _ => none

/-- One entry of a kind at the front of the bytes, with the bytes that follow it. -/
def readEntry (k : TableKind) (bs : List Byte) : Option (TableEntry × List Byte) :=
  match k with
  | .profile => (readProfile (bs.take 27)).map fun p => (.profile p, bs.drop 27)
  | .curve => (readCurve (bs.take 18)).map fun c => (.curve c, bs.drop 18)
  | .fingering => (readFingering (bs.take 10)).map fun f => (.fingering f, bs.drop 10)
  | .voicing => (readVoicing bs).map fun r => (.voicing r.1, r.2)

/-- So many entries of a kind, which take up the bytes exactly (R159, R188). -/
def readEntries (k : TableKind) : Nat → List Byte → Option (List TableEntry)
  | 0, bs => if bs.isEmpty then some [] else none
  | n + 1, bs =>
    match readEntry k bs with
    | some (e, r) => (readEntries k n r).map (e :: ·)
    | none => none

/-- The arguments of a WRITE_TABLE request. -/
structure TableWrite where
  kind : TableKind
  first : Nat
  entries : List TableEntry
deriving DecidableEq, Repr

/-- The arguments of WRITE_TABLE, or none for BAD_ARG (R145 check 1, R188). -/
def readTableWrite : List Byte → Option TableWrite
  | kb :: ib :: nb :: bs =>
    match readKind kb with
    | some k =>
      if 1 ≤ nb.toNat ∧ nb.toNat ≤ 16 ∧ ib.toNat + nb.toNat - 1 ≤ k.lastIndex then
        (readEntries k nb.toNat bs).map fun es => ⟨k, ib.toNat, es⟩
      else none
    | none => none
  | _ => none

/-! ### The envelope (R183, R185) -/

/-- The CRC register after one more bit of a byte, most significant first: polynomial x^16 + x^12 + x^5 + 1
(R183). -/
def crcBit (crc : Half) : Half := if crc.msb then (crc <<< 1) ^^^ 0x1021#16 else crc <<< 1

/-- The CRC register after one more byte (R183). -/
def crcByte (crc : Half) (b : Byte) : Half :=
  let c := crc ^^^ (b.setWidth 16 <<< 8)
  crcBit (crcBit (crcBit (crcBit (crcBit (crcBit (crcBit (crcBit c)))))))

/-- The 16-bit check over a run of bytes: initial value 0xFFFF, no final inversion (R183). -/
def crc16 (bs : List Byte) : Half := bs.foldl crcByte 0xFFFF#16

/-- The two bytes of a two-byte field, most significant first (R183). -/
def halfBytes (h : Half) : List Byte := [h.extractLsb' 8 8, h.extractLsb' 0 8]

/-- The class codes a link accepts (R185, R187). -/
def classAccepted : Link → Byte → Bool
  | .collector, c => c == 0x21#8 || c == 0x22#8
  | .voice, c => c == 0x51#8 || c == 0x52#8

/-- The envelope checks of a delimited packet, in order (R185): the reason of the first that fails, or none
when the packet passes them. The check is computed over the class byte, the length byte and the fields (DEDUCED,
log 32). -/
def envelopeFault (link : Link) (bytes : List Byte) : Option CorruptReason :=
  if bytes.length < 4 ∨ bytes.length ≠ (bytes.getD 1 0).toNat + 4 then some .length
  else if bytes.drop (bytes.length - 2) ≠ halfBytes (crc16 (bytes.take (bytes.length - 2))) then some .check
  else if classAccepted link (bytes.getD 0 0) then none
  else some .classByte

/-- The field bytes of a delimited packet: all but the class byte, the length byte and the check (R183). -/
def envelopeFields (bytes : List Byte) : List Byte := (bytes.drop 2).take (bytes.length - 4)

end Sys2Proof.Machine
end

