-- ==== Sys2Proof/Machine/Queue.lean ====
section
/-! DEFINITION. The emission queue and the voice port (chapter 7): appending, coalescing, removal,
eviction, transmission, credit, the stall timer, attachment and the ALL_STOP. -/

namespace Sys2Proof.Machine

open Sys2Proof

/-- How many records the emission queue holds at most (R128). -/
def queueCapacity : Nat := 64

/-- The voice a record names and its generation; an ALL_STOP names none (R124). -/
def VoiceRecord.key : VoiceRecord → Option (VoiceIx × Byte)
  | .start v g .. => some (v, g)
  | .retune v g _ => some (v, g)
  | .level v g _ => some (v, g)
  | .stop v g _ => some (v, g)
  | .allStop => none

/-- The record is a START. -/
def VoiceRecord.isStart : VoiceRecord → Bool
  | .start .. => true
  | _ => false

/-- The record is a LEVEL. -/
def VoiceRecord.isLevel : VoiceRecord → Bool
  | .level .. => true
  | _ => false

/-- The record is a RETUNE. -/
def VoiceRecord.isRetune : VoiceRecord → Bool
  | .retune .. => true
  | _ => false

/-- The record is an update, a LEVEL or a RETUNE: the kinds that may be evicted (R127, R129). -/
def VoiceRecord.isUpdate (r : VoiceRecord) : Bool := r.isLevel || r.isRetune

/-- The record names voice v at generation g. -/
def VoiceRecord.isFor (v : VoiceIx) (g : Byte) (r : VoiceRecord) : Bool := r.key == some (v, g)

/-- Cancellation (R127): the START for v at g, with everything merged into it, leaves the queue. -/
def cancelStart (v : VoiceIx) (g : Byte) (q : List VoiceRecord) : List VoiceRecord :=
  q.filter fun r => !(r.isStart && r.isFor v g)

/-- Release clean-up (R127): every RETUNE and LEVEL for v at g leaves the queue. -/
def removeUpdates (v : VoiceIx) (g : Byte) (q : List VoiceRecord) : List VoiceRecord :=
  q.filter fun r => !(r.isUpdate && r.isFor v g)

/-- Reallocation (R127): every record for v at g leaves the queue. -/
def removeAll (v : VoiceIx) (g : Byte) (q : List VoiceRecord) : List VoiceRecord :=
  q.filter fun r => !r.isFor v g

/-- Take the first element with a property out of a list, the others keeping their order. -/
def takeFirst {α : Type} (p : α → Bool) : List α → Option (α × List α)
  | [] => none
  | x :: xs => if p x then some (x, xs) else (takeFirst p xs).map fun r => (r.1, x :: r.2)

/-- What an eviction takes from a queue: the LEVEL nearest the head, else the RETUNE nearest the head
(R129). -/
def evictFrom (q : List VoiceRecord) : Option (VoiceRecord × List VoiceRecord) :=
  (takeFirst VoiceRecord.isLevel q).orElse fun _ => takeFirst VoiceRecord.isRetune q

/-- The refresh an evicted record's voice owes (R129). -/
def State.oweRefresh (s : State) : VoiceRecord → State
  | .level v _ _ => s.modVoice v fun x => { x with levelOwed := true }
  | .retune v _ _ => s.modVoice v fun x => { x with pitchOwed := true }
  | _ => s

/-- The EVICT event of an evicted record (R129). -/
def evictCapture : VoiceRecord → Option Capture
  | .level v _ _ => some (.evict v false)
  | .retune v _ _ => some (.evict v true)
  | _ => none

/-- An evicted record is accounted for: its voice owes the refresh and EVICT is raised (R129). -/
def State.noteEviction (s : State) (r : VoiceRecord) : State :=
  match evictCapture r with
  | some c => (s.oweRefresh r).raise c
  | none => s

/-- Make room for one record in a full queue by an eviction (R129). -/
def State.makeRoom (s : State) : State :=
  if s.port.queue.length < queueCapacity then s
  else
    match evictFrom s.port.queue with
    | some (r, q) => (s.setQueue q).noteEviction r
    | none => s

/-- Append a record at the tail, room being made first (R125, R129). By R128 room is always found; a
queue full of records that are never evicted is left as it is (log 12). -/
def State.enqueue (s : State) (r : VoiceRecord) : State :=
  let s := s.makeRoom
  if s.port.queue.length < queueCapacity then s.setQueue (s.port.queue ++ [r]) else s

/-- Place a record at the head, as R136 does with an owed ALL_STOP, room being made first (log 13). -/
def State.enqueueHead (s : State) (r : VoiceRecord) : State :=
  let s := s.makeRoom
  if s.port.queue.length < queueCapacity then s.setQueue (r :: s.port.queue) else s

/-- The stall condition (R135): ATTACHED, at least one record queued, and no credit. -/
def VoicePort.stalled (p : VoicePort) : Bool := p.attached && !p.queue.isEmpty && p.credit == 0

/-- The stall timer follows its condition (R135): started, with the stall time in force, when the
condition has become true, left running while it stays true, stopped when it is false (log 11). -/
def State.settleStall (s : State) : State :=
  { s with port :=
      { s.port with stallTimer :=
          if s.port.stalled then some (s.port.stallTimer.getD s.responder.engine.stallTime)
          else none } }

/-- The value of a RETUNE for v at g is merged into a queued START, or replaces that of a queued RETUNE
(R126 cases 1 and 2); none when neither is queued. -/
def mergeRetune (v : VoiceIx) (g : Byte) (pitch : Nat) (q : List VoiceRecord) :
    Option (List VoiceRecord) :=
  if q.any fun r => r.isStart && r.isFor v g then
    some (q.map fun r =>
      match r with
      | .start v' g' c p pc vel l => if v' = v ∧ g' = g then .start v' g' c p pitch vel l else .start v' g' c p pc vel l
      | r => r)
  else if q.any fun r => r.isRetune && r.isFor v g then
    some (q.map fun r => if r.isRetune && r.isFor v g then .retune v g pitch else r)
  else none

/-- The value of a LEVEL for v at g is merged into a queued START, or replaces that of a queued LEVEL
(R126 cases 1 and 2); none when neither is queued. -/
def mergeLevel (v : VoiceIx) (g : Byte) (level : Nat) (q : List VoiceRecord) :
    Option (List VoiceRecord) :=
  if q.any fun r => r.isStart && r.isFor v g then
    some (q.map fun r =>
      match r with
      | .start v' g' c p pc vel l => if v' = v ∧ g' = g then .start v' g' c p pc vel level else .start v' g' c p pc vel l
      | r => r)
  else if q.any fun r => r.isLevel && r.isFor v g then
    some (q.map fun r => if r.isLevel && r.isFor v g then .level v g level else r)
  else none

/-- The queue takes a RETUNE offered for v at its generation (R126), and the voice's last queued pitch
becomes its value (R55). -/
def State.offerRetune (s : State) (v : VoiceIx) (pitch : Nat) : State :=
  let g := (s.voice v).generation
  let s' :=
    match mergeRetune v g pitch s.port.queue with
    | some q => s.setQueue q
    | none => s.enqueue (.retune v g pitch)
  (s'.modVoice v fun x => { x with lastPitch := pitch }).settleStall

/-- The queue takes a LEVEL offered for v at its generation (R126), and the voice's last queued level
becomes its value (R56). -/
def State.offerLevel (s : State) (v : VoiceIx) (level : Nat) : State :=
  let g := (s.voice v).generation
  let s' :=
    match mergeLevel v g level s.port.queue with
    | some q => s.setQueue q
    | none => s.enqueue (.level v g level)
  (s'.modVoice v fun x => { x with lastLevel := level }).settleStall

/-- The report of a transmitted record to the pool (R118). -/
def State.transmitted (s : State) : VoiceRecord → State
  | .start v g .. =>
    s.modVoice v fun x => if x.dn = .pending ∧ x.dnGeneration = g then { x with dn := .opened } else x
  | .stop v g k =>
    if k = .cut then s
    else s.modVoice v fun x => if x.dn = .opened ∧ x.dnGeneration = g then { x with dn := .tail } else x
  | _ => s

/-- Whether the port takes its head record now (R130): ATTACHED, a credit, and a record. The fourth
condition, a free transmitter, is what a TRANSMISSION brings (log 4). -/
def VoicePort.canSend (p : VoicePort) : Bool := p.attached && decide (1 ≤ p.credit) && !p.queue.isEmpty

/-- TRANSMISSION (R130): when the conditions hold, the head record leaves the queue, a credit is used, the
record is sent as one VOICE packet and reported to the pool, all within the one event. -/
def State.transmit (s : State) : State :=
  match s.port.canSend, s.port.queue with
  | true, r :: q =>
    ((({ s with port :=
          { s.port with queue := q, credit := s.port.credit - 1, sending := some r } } :
        State).transmitted r)).settleStall
  | _, _ => { s with port := { s.port with sending := none } }

/-- A GRANT of n in 1..64 adds n to the credit count, which saturates at 255 (R133). -/
def State.addCredit (s : State) (n : Nat) : State :=
  ({ s with port := { s.port with credit := min 255 (s.port.credit + n) } } : State).settleStall

/-- The stall timer expires (R135): STALL is raised with the queue depth and the timer started anew with
the stall time then in force. A stopped timer has no expiry (log 3). -/
def State.stallExpiry (s : State) : State :=
  if s.port.stallTimer.isNone then s
  else
    ({ s with port :=
        { s.port with stallTimer := some s.responder.engine.stallTime } } : State).raise
      (.stall s.port.queue.length)

/-- The voice link comes up while DETACHED (R136). -/
def State.attach (s : State) : State :=
  if s.port.attached then s
  else
    let owed := s.port.allStopOwed
    let s1 : State := { s with port := { s.port with attached := true, credit := 0 } }
    let s2 : State :=
      if owed then
        let t := s1.enqueueHead .allStop
        { t with port := { t.port with allStopOwed := false } }
      else s1
    (s2.raise (.attach s2.port.queue.length owed)).settleStall

end Sys2Proof.Machine
end

