-- ==== Sys2Proof/Machine/Pool.lean ====
section
/-! DEFINITION. The voice pool (chapter 6): allocation by class, victims, taking a voice from its former
use, release and cancellation, release timers, FREED reports and the voice flush. -/

namespace Sys2Proof.Machine

open Sys2Proof

/-! ### Candidates (R108, R109) -/

/-- The four classes an allocation searches in order (R108). -/
inductive AllocClass where
  | class1
  | class2
  | class3
  | class4
deriving DecidableEq, Repr

/-- A voice no note needs and with no note downstream (R108 class 1). -/
def Voice.isClass1 (x : Voice) : Bool := x.phase == .free && x.dn == .none

/-- A FREE voice with a note or a tail downstream (R108 class 2). -/
def Voice.isClass2 (x : Voice) : Bool := x.phase == .free && (x.dn == .opened || x.dn == .tail)

/-- A SOUNDING voice whose owner priority is strictly below π (R108 class 4). -/
def Voice.isClass4 (π : Fin 4) (x : Voice) : Bool :=
  x.phase == .sounding && x.owner.any fun o => decide (o.priority < π)

/-- The voices class 4 considers, oldest allocation first (R109). -/
def Pool.considered (p : Pool) (π : Fin 4) : List VoiceIx := p.ageList.filter fun v => p.voices[v].isClass4 π

/-- The owner priority of a voice (R102). -/
def Pool.ownerPriority (p : Pool) (v : VoiceIx) : Option (Fin 4) := p.voices[v].owner.map (·.priority)

/-- The slot that owns a voice (R102). -/
def Pool.ownerSlot (p : Pool) (v : VoiceIx) : Option SlotIx := p.voices[v].owner.map (·.slot)

/-- Among the considered voices, those of the lowest owner priority λ, oldest first (R109). -/
def Pool.lowest (p : Pool) (π : Fin 4) : List VoiceIx :=
  (p.considered π).filter fun v =>
    (p.considered π).all fun w =>
      match p.ownerPriority v, p.ownerPriority w with
      | some a, some b => decide (a ≤ b)
      | _, _ => true

/-- The slot numbers that follow the rotation pointer, wrapping, the pointer last (R109). -/
def rotationOrder (r : SlotIx) : List SlotIx := (List.finRange 8).map fun k => r + 1 + k

/-- The victim slot of a ROTATING search: the first slot after the pointer that owns a voice of owner
priority λ (R109). -/
def Pool.victimSlot (p : Pool) (π : Fin 4) : Option SlotIx :=
  (rotationOrder p.rotation).find? fun i => (p.lowest π).any fun v => p.ownerSlot v == some i

/-- The class 4 victim (R109). FIXED: the oldest voice of priority λ. ROTATING: the oldest of the victim
slot's voices among those considered (log 24). -/
def Pool.victim (p : Pool) (mode : StealMode) (π : Fin 4) : Option VoiceIx :=
  match mode with
  | .fixed => (p.lowest π).head?
  | .rotating =>
    match p.victimSlot π with
    | some i => (p.considered π).find? fun v => p.ownerSlot v == some i
    | none => none

/-- The candidate an allocation at priority π takes: the first found in the classes, searched in order
(R108); none when no class holds one (R111). -/
def Pool.candidate (p : Pool) (mode : StealMode) (π : Fin 4) : Option (AllocClass × VoiceIx) :=
  match (List.finRange 32).find? fun v => p.voices[v].isClass1 with
  | some v => some (.class1, v)
  | none =>
    match (List.finRange 32).find? fun v => p.voices[v].isClass2 with
    | some v => some (.class2, v)
    | none =>
      match p.releaseList.head? with
      | some v => some (.class3, v)
      | none => (p.victim mode π).map fun v => (.class4, v)

/-! ### Taking a candidate from its former use (R112) -/

/-- Reallocation of a voice whose note is downstream: its records of the dn generation leave the queue and
a CUT of that generation is appended (R112). -/
def State.cutFormer (s : State) (v : VoiceIx) : State :=
  let g := (s.voice v).dnGeneration
  (s.setQueue (removeAll v g s.port.queue)).enqueue (.stop v g .cut)

/-- The layer-list entry that names the voice becomes absent (R93). -/
def dropVoice (v : VoiceIx) (x : Slot) : Slot :=
  { x with layers := x.layers.map fun e => if e = some v then none else e }

/-- A class 4 candidate is taken (R112): it leaves the age list, its layer-list entry becomes absent, its
START is cancelled or its note cut, STEAL is raised, and in ROTATING mode the pointer moves (R109). -/
def State.steal (s : State) (v : VoiceIx) (requester : SlotIx) : State :=
  match (s.voice v).owner with
  | none => s
  | some o =>
    let s1 := s.setAgeList (s.pool.ageList.erase v)
    let s2 := s1.modSlot o.slot (dropVoice v)
    let s3 := s2.modVoice v fun x => { x with owner := none }
    let s4 :=
      match (s.voice v).dn with
      | .pending => s3.setQueue (cancelStart v (s.voice v).generation s3.port.queue)
      | .opened => s3.cutFormer v
      | _ => s3
    let s5 := s4.raise (.steal v o.slot requester)
    if s.responder.engine.stealMode = .rotating then s5.setRotation o.slot else s5

/-- A candidate is taken from its former use (R112). -/
def State.takeVoice (s : State) (c : AllocClass) (v : VoiceIx) (requester : SlotIx) : State :=
  match c with
  | .class1 => s
  | .class2 => s.cutFormer v
  | .class3 =>
    ((s.setReleaseList (s.pool.releaseList.erase v)).modVoice v
      fun x => { x with releaseTimer := none }).cutFormer v
  | .class4 => s.steal v requester

/-- The allocation completes (R113 steps 1 to 3). -/
def State.giveVoice (s : State) (v : VoiceIx) (o : Owner) : State :=
  let s1 := s.modVoice v fun x =>
    { x with
      generation := x.generation + 1
      phase := .sounding
      owner := some o
      dn := .pending
      dnGeneration := x.generation + 1 }
  s1.setAgeList (s1.pool.ageList ++ [v])

/-- The START of an allocation is appended (R113 step 5), and the queue's taking it sets the last queued
values and clears both refresh flags (R53). -/
def State.placeStart (s : State) (v : VoiceIx) (channel program pitch velocity level : Nat) : State :=
  let s1 := s.enqueue (.start v (s.voice v).generation channel program pitch velocity level)
  (s1.modVoice v fun x =>
    { x with lastPitch := pitch, lastLevel := level, pitchOwed := false, levelOwed := false }).settleStall

/-! ### Release (R114, R115) -/

/-- Release of a voice whose START has not been sent: cancellation (R114). -/
def State.cancelVoice (s : State) (v : VoiceIx) : State :=
  let s1 := s.setQueue (cancelStart v (s.voice v).generation s.port.queue)
  let s2 := s1.setAgeList (s1.pool.ageList.erase v)
  (s2.modVoice v fun x =>
    { x with phase := .free, owner := none, dn := .none, pitchOwed := false, levelOwed := false }).settleStall

/-- Release of a voice whose note the rack holds: its updates leave the queue, a STOP of the kind is
appended, and it becomes RELEASING under its release timer (R115). -/
def State.stopVoice (s : State) (v : VoiceIx) (k : StopKind) : State :=
  let g := (s.voice v).generation
  let s1 := (s.setQueue (removeUpdates v g s.port.queue)).enqueue (.stop v g k)
  let s2 := s1.setAgeList (s1.pool.ageList.erase v)
  let s3 := s2.setReleaseList (s2.pool.releaseList ++ [v])
  (s3.modVoice v fun x =>
    { x with
      phase := .releasing
      owner := none
      pitchOwed := false
      levelOwed := false
      releaseTimer := some s.responder.engine.releaseTimeout }).settleStall

/-- A slot releases a voice with a stop kind (R114, R115). A SOUNDING voice has dn PENDING or OPEN (R106);
in any other dn state there is nothing to release (log 18). -/
def State.releaseVoice (s : State) (v : VoiceIx) (k : StopKind) : State :=
  match (s.voice v).dn with
  | .pending => s.cancelVoice v
  | .opened => s.stopVoice v k
  | _ => s

/-- The voices of a layer list are released in layer order, absent entries skipped (R12, R17, R85, R91). -/
def State.releaseLayers (k : StopKind) : List (Option VoiceIx) → State → State
  | [], s => s
  | none :: es, s => State.releaseLayers k es s
  | some v :: es, s => State.releaseLayers k es (s.releaseVoice v k)

/-! ### Timers and reports (R116, R119) -/

/-- A voice's release timer expires (R116). A stopped timer has no expiry (log 3). -/
def State.releaseExpiry (s : State) (v : VoiceIx) : State :=
  if (s.voice v).releaseTimer.isNone then s
  else
    (s.setReleaseList (s.pool.releaseList.erase v)).modVoice v fun x =>
      { x with phase := .free, releaseTimer := none }

/-- Whether a FREED report matches (R119): dn TAIL at its generation. -/
def Voice.freedMatches (x : Voice) (g : Byte) : Bool := x.dn == .tail && x.dnGeneration == g

/-- A FREED report names a voice and a generation (R119): a matching one ends the tail, and frees a
RELEASING voice of that generation; any other is stale and raises STALE_FREED. -/
def State.freedReport (s : State) (v : VoiceIx) (g : Byte) : State :=
  let x := s.voice v
  if x.freedMatches g then
    if x.phase = .releasing ∧ x.generation = g then
      (s.setReleaseList (s.pool.releaseList.erase v)).setVoice v
        { x with dn := .none, phase := .free, releaseTimer := none }
    else s.setVoice v { x with dn := .none }
  else s.raise (.staleFreed v g)

/-! ### The voice flush (R121) -/

/-- A voice taking a flush (R121 step 1); its last queued values are kept. -/
def Voice.flushed (x : Voice) : Voice :=
  { x with
    phase := .free
    owner := none
    generation := x.generation + 1
    dn := .none
    pitchOwed := false
    levelOwed := false
    releaseTimer := none }

/-- The pool and queue part of a voice flush (R121 steps 1 to 4). With `place` the ALL_STOP is queued at
once and none is owed (R139, R140); without it, on detachment, an ALL_STOP becomes owed. -/
def State.flushPool (s : State) (place : Bool) : State :=
  State.settleStall
    { s with
      pool := { s.pool with voices := s.pool.voices.map Voice.flushed, ageList := [], releaseList := [] }
      port := { s.port with queue := if place then [.allStop] else [], allStopOwed := !place } }

/-- The voices a detachment counts (R137 step 2): SOUNDING or RELEASING, or with dn other than NONE. -/
def Voice.counted (x : Voice) : Bool := x.phase != .free || x.dn != .none

/-- How many voices a detachment flushes (R137). -/
def Pool.countFlushed (p : Pool) : Nat := (List.finRange 32).countP fun v => p.voices[v].counted

end Sys2Proof.Machine
end

