-- ==== Sys2Proof/Machine/Phrase.lean ====
section
/-! DEFINITION. The slot's processing of a SENSE packet (chapters 1, 2 and 5): acceptance, key profile,
confirmation, resolution, the phrase machine and the per-packet updates, in the stages of R4. -/

namespace Sys2Proof.Machine

open Sys2Proof

/-- What a packet is taken with and stays so for all its stages (R50, R87, log 17): the slot's settings and
its curve in force, and the packet's own roller and lip values. -/
structure Packet where
  settings : Settings
  curve : Option Curve
  roller : Option Nat
  lip : Option Nat
deriving DecidableEq, Repr

/-! ### Settings and resolution -/

/-- The pending settings are applied (R9). -/
def Slot.applyPending (x : Slot) : Slot :=
  match x.pendingSettings with
  | none => x
  | some p =>
    { x with
      settings :=
        { x.settings with
          profile := p.profile.getD x.settings.profile
          transpose := p.transpose.getD x.settings.transpose
          rollerCenter := p.rollerCenter.getD x.settings.rollerCenter }
      pendingSettings := none }

/-- The lookup of a slot's confirmed pattern in its bank in use (R65); no match without a bank. -/
def State.resolve (s : State) (i : SlotIx) : Option Resolution :=
  match (s.slot i).bank with
  | some b => lookupSet (s.bank b).fingerings (s.slot i).confirmed
  | none => none

/-- The slot's resolution field takes the result of a fresh lookup (R36, R86). -/
def State.refreshResolution (s : State) (i : SlotIx) : State :=
  s.modSlot i fun x => { x with resolution := s.resolve i }

/-- The voicing a resolution names, read from the slot's bank in use (R75). -/
def State.voicingOf (s : State) (i : SlotIx) (r : Resolution) : Voicing :=
  match (s.slot i).bank with
  | some b => (s.bank b).voicings[r.voicing]
  | none => {}

/-! ### Starting a note (R81) -/

/-- The pitch value of a layer for a resolution and a packet (R50). -/
def Packet.pitch (pk : Packet) (r : Resolution) (l : Layer) : Int :=
  pitchValue pk.settings pk.roller pk.lip r.note r.cent l.interval

/-- The velocity a layer's START carries (R72). -/
def layerVelocity (onset fixedVelocity : Nat) (l : Layer) : Nat := if l.follow then onset else fixedVelocity

/-- One layer of a start (R81 step 4, R108 to R113): a voice is asked for; when one is granted, the layer's
entry names it and its START is placed. -/
def State.startLayer (s : State) (i : SlotIx) (pk : Packet) (r : Resolution) (vc : Voicing) (k : Nat)
    (l : Layer) : State :=
  match s.pool.candidate s.responder.engine.stealMode pk.settings.priority with
  | none => s
  | some (c, v) =>
    let s1 := (s.takeVoice c v i).giveVoice v ⟨i, Fin.ofNat 4 k, pk.settings.priority⟩
    let s2 := s1.modSlot i fun x => { x with layers := x.layers.set k (some v) }
    let p := pk.pitch r l
    (s2.raiseIf (pitchOutOfRange p) (.clamp i k p)).placeStart v l.channel l.program (pitchCode p)
      (layerVelocity (s.slot i).onsetVelocity vc.fixedVelocity l) (layerLevel (s.slot i).outLevel l.trim)

/-- The layers of a start, in layer order from layer k (R81 step 4). -/
def State.startLayers (i : SlotIx) (pk : Packet) (r : Resolution) (vc : Voicing) :
    Nat → List Layer → State → State
  | _, [], s => s
  | k, l :: ls, s => State.startLayers i pk r vc (k + 1) ls (s.startLayer i pk r vc k l)

/-- How many entries of a layer list name a voice. -/
def grantedCount (ls : List (Option VoiceIx)) : Nat := ls.countP Option.isSome

/-- The note is started under a resolution (R81 from step 2): the slot becomes SOUNDING with one entry for
each layer of the voicing, and a voice is asked for each; THIN is raised once if one was answered none
(R111). -/
def State.startNote (s : State) (i : SlotIx) (pk : Packet) (r : Resolution) : State :=
  let vc := s.voicingOf i r
  let n := vc.layers.length
  let s1 := s.modSlot i fun x => { x with phase := .sounding, layers := List.replicate n none }
  let s2 := State.startLayers i pk r vc 0 vc.layers s1
  let g := grantedCount (s2.slot i).layers
  s2.raiseIf (decide (g < n)) (.thin i r.voicing g n)

/-! ### Records for sounding layers (R54 to R56) -/

/-- A RETUNE is produced when the pitch code differs from the last queued one or a refresh is owed (R55). -/
def State.produceRetune (s : State) (v : VoiceIx) (pitch : Nat) : State :=
  if (s.voice v).lastPitch ≠ pitch ∨ (s.voice v).pitchOwed = true then
    (s.modVoice v fun x => { x with pitchOwed := false }).offerRetune v pitch
  else s

/-- A LEVEL is produced when the level lies further than the dead band from the last queued one or a
refresh is owed (R56). -/
def State.produceLevel (s : State) (v : VoiceIx) (level : Nat) : State :=
  if s.responder.engine.deadBand < levelDistance level (s.voice v).lastLevel ∨ (s.voice v).levelOwed = true then
    (s.modVoice v fun x => { x with levelOwed := false }).offerLevel v level
  else s

/-- A sounding layer's pitch is computed, CLAMP raised if it is out of range (R51), and its RETUNE decided
(R55). -/
def State.retuneLayer (s : State) (i : SlotIx) (pk : Packet) (r : Resolution) (k : Nat) (l : Layer)
    (v : VoiceIx) : State :=
  let p := pk.pitch r l
  (s.raiseIf (pitchOutOfRange p) (.clamp i k p)).produceRetune v (pitchCode p)

/-- The layers of a legato retune, in layer order (R90). -/
def State.retuneLayers (i : SlotIx) (pk : Packet) (r : Resolution) :
    Nat → List Layer → List (Option VoiceIx) → State → State
  | k, l :: ls, some v :: es, s => State.retuneLayers i pk r (k + 1) ls es (s.retuneLayer i pk r k l v)
  | k, _ :: ls, none :: es, s => State.retuneLayers i pk r (k + 1) ls es s
  | _, _, _, s => s

/-- The layers of stage 6, in layer order: each one's RETUNE, then its LEVEL (R54). -/
def State.updateLayers (i : SlotIx) (pk : Packet) (r : Resolution) (out : Nat) :
    Nat → List Layer → List (Option VoiceIx) → State → State
  | k, l :: ls, some v :: es, s =>
    State.updateLayers i pk r out (k + 1) ls es
      ((s.retuneLayer i pk r k l v).produceLevel v (layerLevel out l.trim))
  | k, _ :: ls, none :: es, s => State.updateLayers i pk r out (k + 1) ls es s
  | _, _, _, s => s

/-! ### Changes of fingering while a note sounds (R67, R89) -/

/-- What a confirmed change of fingering comes to (R67, R89). -/
inductive Change where
  | hold
  | retune
  | retrigger
deriving DecidableEq, Repr

/-- The action on the outcome of a lookup in SOUNDING (R67, R89). -/
def changeFor (current : Option Resolution) (new : Option Resolution) (mode : Resolution → Mode) : Change :=
  match new, current with
  | none, _ => .hold
  | some _, none => .retrigger
  | some n, some c =>
    if n.entry = c.entry then .hold
    else if n.voicing = c.voicing ∧ mode n = .legato then .retune
    else .retrigger

/-- A legato retune (R90). -/
def State.legatoRetune (s : State) (i : SlotIx) (pk : Packet) (r : Resolution) : State :=
  let s1 := s.modSlot i fun x => { x with resolution := some r }
  State.retuneLayers i pk r 0 (s1.voicingOf i r).layers (s1.slot i).layers s1

/-- A retrigger (R91). -/
def State.retrigger (s : State) (i : SlotIx) (pk : Packet) (r : Resolution) : State :=
  let s1 := State.releaseLayers .release (s.slot i).layers s
  let s2 := s1.modSlot i fun x => { x with layers := [], resolution := some r }
  s2.startNote i pk r

/-- Stage 4 of a packet taken in SOUNDING whose confirmation test passed (R89). -/
def State.changeFingering (s : State) (i : SlotIx) (pk : Packet) : State :=
  match s.resolve i with
  | none => s
  | some r =>
    match changeFor (s.slot i).resolution (some r) fun n => (s.voicingOf i n).mode with
    | .hold => s
    | .retune => s.legatoRetune i pk r
    | .retrigger => s.retrigger i pk r

/-! ### Confirmation (R30 to R34) -/

/-- The run of the candidate pattern is counted (R31, R32, R34). -/
def Slot.countRun (x : Slot) (gap : Bool) (ks : KeySet) : Slot :=
  if gap = false ∧ ks = x.candidate then { x with runCount := min 8 (x.runCount + 1) }
  else { x with candidate := ks, runCount := 1 }

/-- Confirmation on the packet that leaves ABSENT (R30). -/
def Slot.confirmFirst (x : Slot) (ks : KeySet) : Slot :=
  { x with candidate := ks, confirmed := ks, runCount := 1 }

/-- Confirmation in QUIET and STALLED (R31). -/
def Slot.confirmQuiet (x : Slot) (gap : Bool) (ks : KeySet) : Slot :=
  { x.countRun gap ks with confirmed := ks }

/-- The confirmation test (R33). -/
def Slot.testPasses (x : Slot) : Bool :=
  decide (x.settings.confirmCount ≤ x.runCount) && x.candidate != x.confirmed

/-- Stages 3 and 4 of a packet taken in SOUNDING (R32, R33, R89). -/
def State.confirmSounding (s : State) (i : SlotIx) (pk : Packet) (gap : Bool) (ks : KeySet) : State :=
  let s1 := s.modSlot i fun x => x.countRun gap ks
  if (s1.slot i).testPasses then
    (s1.modSlot i fun x => { x with confirmed := x.candidate }).changeFingering i pk
  else s1

/-- A STALLED slot whose resolution is present starts its note (R83). -/
def State.stalledStart (s : State) (i : SlotIx) (pk : Packet) : State :=
  match (s.slot i).phase, (s.slot i).resolution with
  | .stalled, some r => s.startNote i pk r
  | _, _ => s

/-- Stages 3 and 4 of a packet: confirmation, resolution, and what the phrase machine does at stage 4. -/
def State.confirm (s : State) (i : SlotIx) (pk : Packet) (first gap : Bool) (ks : KeySet) : State :=
  if first then (s.modSlot i fun x => x.confirmFirst ks).refreshResolution i
  else
    match (s.slot i).phase with
    | .sounding => s.confirmSounding i pk gap ks
    | _ => ((s.modSlot i fun x => x.confirmQuiet gap ks).refreshResolution i).stalledStart i pk

/-! ### Samples (R78) -/

/-- An onset (R80): the velocity is computed, and the note starts or the slot stalls (R81, R82). -/
def State.onset (s : State) (i : SlotIx) (pk : Packet) (q e : Nat) : State :=
  let s1 := s.modSlot i fun x =>
    { x with onsetVelocity := onsetVelocityOf pk.settings.velocityGain q x.qPrev }
  match (s.slot i).resolution with
  | some r => (s1.modSlot i fun x => { x with outLevel := e }).startNote i pk r
  | none =>
    ((s1.modSlot i fun x => { x with phase := .stalled }).switchBank i).raise
      (.unmapped i (s.slot i).confirmed)

/-- A stalled onset is abandoned (R84); the switching rule for entering QUIET applies (R147, log 19). -/
def State.abandonOnset (s : State) (i : SlotIx) : State :=
  (s.modSlot i fun x => { x with phase := .quiet }).switchBank i

/-- A release (R85, R86). -/
def State.releaseNote (s : State) (i : SlotIx) : State :=
  let s1 := State.releaseLayers .release (s.slot i).layers s
  let s2 := s1.modSlot i fun x => Slot.applyPending { x with layers := [], phase := .quiet }
  (s2.switchBank i).refreshResolution i

/-- The test of one sample by the slot's state (R78). -/
def State.testSample (s : State) (i : SlotIx) (pk : Packet) (q e : Nat) : State :=
  match (s.slot i).phase with
  | .quiet =>
    if (s.slot i).rearm then
      if q < pk.settings.offThreshold then s.modSlot i fun x => { x with rearm := false } else s
    else if pk.settings.onThreshold ≤ q then s.onset i pk q e
    else s
  | .stalled => if q < pk.settings.offThreshold then s.abandonOnset i else s
  | .sounding => if q < pk.settings.offThreshold then s.releaseNote i else s
  | _ => s

/-- One breath sample (R44): scaled, curved, tested, and then its q becomes q_prev. -/
def State.sample (i : SlotIx) (pk : Packet) (s : State) (raw : Nat) : State :=
  let q := scaledPressure pk.settings raw
  (s.testSample i pk q (expression pk.curve q)).modSlot i fun x => { x with qPrev := q }

/-! ### Per-packet updates (R45, R54) -/

/-- The out level at stage 6 (R45). -/
def Slot.updateOut (x : Slot) (slew e : Nat) : Slot :=
  { x with outLevel := if x.phase = .sounding then slewed slew x.outLevel e else e }

/-- Stage 6 (R45, R54): the out level is updated, then a SOUNDING slot's layers. -/
def State.perPacket (s : State) (i : SlotIx) (pk : Packet) (e : Nat) : State :=
  let s1 := s.modSlot i fun x => x.updateOut pk.settings.slew e
  match (s1.slot i).phase, (s1.slot i).resolution with
  | .sounding, some r =>
    State.updateLayers i pk r (s1.slot i).outLevel 0 (s1.voicingOf i r).layers (s1.slot i).layers s1
  | _, _ => s1

/-! ### A packet (R4) -/

/-- What a packet is taken with: the slot's settings and its curve, read from the bank in use (R43). -/
def State.packetOf (s : State) (i : SlotIx) (p : Sense) : Packet :=
  let x := s.slot i
  { settings := x.settings
    curve := x.bank.map fun b => (s.bank b).curves[x.settings.curve]
    roller := p.roller
    lip := p.lip }

/-- The canonical key set of a packet (R25, R26): empty without a bank in use. -/
def State.keysOf (s : State) (i : SlotIx) (p : Sense) : KeySet :=
  match (s.slot i).bank with
  | some b => canonicalKeys (s.bank b).profiles[(s.slot i).settings.profile] p.keyWord
  | none => 0

/-- The stages 2 to 6 of an accepted packet (R4). -/
def State.processPacket (s : State) (i : SlotIx) (first gap : Bool) (p : Sense) : State :=
  let pk := s.packetOf i p
  let s1 := s.confirm i pk first gap (s.keysOf i p)
  let s2 := p.samples.foldl (State.sample i pk) s1
  s2.perPacket i pk (expression pk.curve (scaledPressure pk.settings (p.samples.getLast?.getD 0)))

/-- The expected seq and the loss timer at an acceptance (R13, R14, R16). -/
def Slot.accept (x : Slot) (sequence : Byte) : Slot :=
  { x with expectedSeq := some (sequence + 1), lossTimer := some x.settings.lossTime }

/-- Acceptance in ABSENT (R13). -/
def State.leaveAbsent (s : State) (i : SlotIx) (p : Sense) : State :=
  (s.modSlot i fun x =>
    { x.accept p.sequence with phase := .quiet, qPrev := 0, absentCause := none }).switchBank i

/-- The judgement of a packet by its slot and its processing (R13, R14). A slot that has no expected seq
outside ABSENT, which no run reaches, takes the packet as in order (log 18). -/
def State.takePacket (s : State) (i : SlotIx) (p : Sense) : State :=
  let x := s.slot i
  if x.phase = .absent then (s.leaveAbsent i p).processPacket i true false p
  else
    let e := x.expectedSeq.getD p.sequence
    let d := distance8 e p.sequence
    let s1 := s.modSlot i fun x => x.accept p.sequence
    if d = 0 then s1.processPacket i false false p
    else if d ≤ 127 then (s1.raise (.gap i e p.sequence)).processPacket i false true p
    else s.raise (.stale i e p.sequence)

/-- The bound slot that holds a tag (R3). -/
def State.route (s : State) (t : Half) : Option SlotIx :=
  (List.finRange 8).find? fun i => (s.slot i).phase != .unbound && (s.slot i).tag == some t

/-- A SENSE packet that has passed the envelope checks is content-checked, routed and processed (R2, R3,
R4). -/
def State.deliverSense (s : State) (fields : List Byte) : State :=
  match readSense fields with
  | none => s.raise (.corrupt .content .collector)
  | some p =>
    match s.route p.tag with
    | none => s.raise (.stray p.tag)
    | some i => s.takePacket i p

end Sys2Proof.Machine
end

