-- ==== Sys2Proof/Machine/Slots.lean ====
section
/-! DEFINITION. The slot table outside a packet (chapter 1): binding, settings, the loss timer, the voice
flush and RESTART as the slots take them. -/

namespace Sys2Proof.Machine

open Sys2Proof

/-! ### Binding (R10 to R12) -/

/-- Steps 2 to 6 of an unbind, on the slot alone (R12); its settings stay, pending values applied. -/
def Slot.unbound (x : Slot) : Slot :=
  { settings := x.applyPending.settings, bank := x.bank }

/-- UNBIND_SLOT's effect on a bound slot (R12). -/
def State.unbind (s : State) (i : SlotIx) : State :=
  let s1 := State.releaseLayers .flush (s.slot i).layers s
  (s1.modSlot i Slot.unbound).switchBank i

/-- The fields a binding sets (R11). -/
def Slot.bound (x : Slot) (t : Half) : Slot :=
  { x with
    tag := some t
    phase := .absent
    absentCause := some .bind
    expectedSeq := none
    lossTimer := none
    candidate := 0
    confirmed := 0
    runCount := 0
    resolution := none
    qPrev := 0
    outLevel := 0
    onsetVelocity := 1
    rearm := false
    layers := [] }

/-- BIND_SLOT's effect once its checks have passed: a bound slot is first unbound (R11). -/
def State.bind (s : State) (i : SlotIx) (t : Half) : State :=
  let s1 := if (s.slot i).phase = .unbound then s else s.unbind i
  (s1.modSlot i fun x => x.bound t).switchBank i

/-- A tag is held by a bound slot other than i (R10 check 3). -/
def State.tagInUse (s : State) (i : SlotIx) (t : Half) : Bool :=
  (List.finRange 8).any fun j => j != i && (s.slot j).phase != .unbound && (s.slot j).tag == some t

/-! ### The loss timer (R17) -/

/-- Steps 1 to 4 of a loss-timer expiry, on the slot alone (R17). -/
def Slot.lostController (x : Slot) : Slot :=
  Slot.applyPending
    { x with
      layers := []
      rearm := false
      phase := .absent
      absentCause := some .timeout
      expectedSeq := none
      lossTimer := none }

/-- A slot's loss timer expires (R17). A stopped timer has no expiry (R18, log 3). -/
def State.lossExpiry (s : State) (i : SlotIx) : State :=
  if (s.slot i).lossTimer.isNone then s
  else
    let s1 := State.releaseLayers .lost (s.slot i).layers s
    ((s1.modSlot i Slot.lostController).switchBank i).raise (.lost i (s.slot i).phase)

/-! ### The voice flush and RESTART (R94, R21) -/

/-- A slot taking a voice flush (R94), before the switching rule. -/
def Slot.flushed (x : Slot) : Slot :=
  match x.phase with
  | .sounding => Slot.applyPending { x with layers := [], phase := .quiet, rearm := true }
  | .stalled => { x with phase := .quiet, rearm := true }
  | _ => x

/-- Slot i takes a voice flush (R94). A QUIET, ABSENT or UNBOUND slot is left as it is. -/
def State.flushSlot (s : State) (i : SlotIx) : State :=
  match (s.slot i).phase with
  | .sounding | .stalled => (s.modSlot i Slot.flushed).switchBank i
  | _ => s

/-- A voice flush (R121): the pool and the queue, then every slot. -/
def State.voiceFlush (s : State) (place : Bool) : State :=
  (List.finRange 8).foldl State.flushSlot (s.flushPool place)

/-- A bound slot taking RESTART (R21, third column of R5), before the switching rule. -/
def Slot.restarted (x : Slot) : Slot :=
  { x.applyPending with
    phase := .absent
    absentCause := some .restart
    expectedSeq := none
    lossTimer := none
    candidate := 0
    runCount := 0
    confirmed := 0
    resolution := none
    qPrev := 0
    outLevel := 0
    onsetVelocity := 1
    rearm := false
    layers := [] }

/-- Slot i takes RESTART: an UNBOUND slot is not touched (R21). -/
def State.restartSlot (s : State) (i : SlotIx) : State :=
  if (s.slot i).phase = .unbound then s else (s.modSlot i Slot.restarted).switchBank i

/-! ### Writing settings (R7, R8) -/

/-- The range of setting n of the R6 table, counted from profile = 0 to loss time = 15. -/
def settingRange (n : Nat) : Int × Int :=
  match n with
  | 0 => (0, 3)
  | 1 => (0, 3)
  | 2 => (0, 4095)
  | 3 => (0, 1023)
  | 4 => (1, 4095)
  | 5 => (0, 4094)
  | 6 => (0, 255)
  | 7 => (1, 8)
  | 8 => (0, 3)
  | 9 => (-24, 24)
  | 10 => (-64, 63)
  | 11 => (0, 7)
  | 12 => (0, 1023)
  | 13 => (0, 768)
  | 14 => (1, 16383)
  | _ => (5, 1000)

/-- The value a two-byte argument names for setting n: transpose and tune are signed (R188). -/
def namedValue (n : Nat) (h : Half) : Int := if n = 9 ∨ n = 10 then h.toInt else h.toNat

/-- The value written for setting n: the named one clamped to its range (R7). -/
def clampedSetting (n : Nat) (v : Int) : Int := clamp (settingRange n).1 (settingRange n).2 v

/-- Setting n of the current settings takes a value. -/
def Settings.put (st : Settings) (n : Nat) (v : Int) : Settings :=
  match n with
  | 0 => { st with profile := Fin.ofNat 4 v.toNat }
  | 1 => { st with curve := Fin.ofNat 4 v.toNat }
  | 2 => { st with zero := v.toNat }
  | 3 => { st with gain := v.toNat }
  | 4 => { st with onThreshold := v.toNat }
  | 5 => { st with offThreshold := v.toNat }
  | 6 => { st with velocityGain := v.toNat }
  | 7 => { st with confirmCount := v.toNat }
  | 8 => { st with priority := Fin.ofNat 4 v.toNat }
  | 9 => { st with transpose := v }
  | 10 => { st with tune := v }
  | 11 => { st with rollerCenter := v.toNat }
  | 12 => { st with lipCenter := v.toNat }
  | 13 => { st with bendRange := v.toNat }
  | 14 => { st with slew := v.toNat }
  | 15 => { st with lossTime := v.toNat }
  | _ => st

/-- The deferred settings: profile, transpose and roller center (R8). -/
def isDeferred (n : Nat) : Bool := n == 0 || n == 9 || n == 11

/-- A deferred setting goes into the pending record, which is made when absent (R8). -/
def PendingSettings.put (p : PendingSettings) (n : Nat) (v : Int) : PendingSettings :=
  match n with
  | 0 => { p with profile := some (Fin.ofNat 4 v.toNat) }
  | 9 => { p with transpose := some v }
  | 11 => { p with rollerCenter := some v.toNat }
  | _ => p

/-- One clamped setting is written: into the pending record when it is deferred and the slot SOUNDING,
into the current settings otherwise (R8). -/
def Slot.writeSetting (x : Slot) (n : Nat) (v : Int) : Slot :=
  if isDeferred n = true ∧ x.phase = .sounding then
    { x with pendingSettings := some ((x.pendingSettings.getD {}).put n v) }
  else { x with settings := x.settings.put n v }

/-- The settings a request names are written in bit order, each clamped (R7). -/
def Slot.writeSettings (x : Slot) (vs : List (Nat × Half)) : Slot :=
  vs.foldl (fun x p => x.writeSetting p.1 (clampedSetting p.1 (namedValue p.1 p.2))) x

/-- Whether a request names setting n. -/
def namesSetting (vs : List (Nat × Half)) (n : Nat) : Bool := vs.any fun p => p.1 == n

/-- The last check of R7: the off threshold is brought below the on threshold, when the request names
either of them. -/
def Slot.fitThreshold (x : Slot) (vs : List (Nat × Half)) : Slot :=
  if (namesSetting vs 4 || namesSetting vs 5) = true ∧ x.settings.onThreshold ≤ x.settings.offThreshold then
    { x with settings := { x.settings with offThreshold := x.settings.onThreshold - 1 } }
  else x

/-- SET_SLOT's effect on a slot (R7, R8). -/
def Slot.applySettings (x : Slot) (vs : List (Nat × Half)) : Slot := (x.writeSettings vs).fitThreshold vs

/-- Whether SET_SLOT answers CLAMPED: a value written differs from the value named, or the off threshold
was brought below the on threshold (R7). -/
def Slot.settingsClamped (x : Slot) (vs : List (Nat × Half)) : Bool :=
  (vs.any fun p => clampedSetting p.1 (namedValue p.1 p.2) != namedValue p.1 p.2) ||
    (x.writeSettings vs).fitThreshold vs != x.writeSettings vs

/-! ### The engine settings (R163, R164) -/

/-- The range of numeric engine setting n of R163, counted from steal mode = 0. -/
def engineRange (n : Nat) : Int × Int :=
  match n with
  | 1 => (10, 5000)
  | 2 => (0, 255)
  | 3 => (1, 255)
  | 4 => (1, 255)
  | _ => (0, 1)

/-- Engine setting n takes a value; steal mode is given as a code (R164). -/
def Engine.put (e : Engine) (n : Nat) (v : Nat) : Engine :=
  match n with
  | 0 => { e with stealMode := if v = 0 then .fixed else .rotating }
  | 1 => { e with releaseTimeout := v }
  | 2 => { e with deadBand := v }
  | 3 => { e with stallTime := v }
  | 4 => { e with noticeInterval := v }
  | _ => e

/-- The value written for engine setting n: the named one clamped (R164). -/
def clampedEngine (n : Nat) (v : Half) : Nat := (clamp (engineRange n).1 (engineRange n).2 v.toNat).toNat

/-- A steal mode code that names no mode (R164). -/
def badStealMode (vs : List (Nat × Half)) : Bool := vs.any fun p => p.1 == 0 && decide (1 < p.2.toNat)

/-- SET_ENGINE's effect on the engine settings (R164). -/
def Engine.applySettings (e : Engine) (vs : List (Nat × Half)) : Engine :=
  vs.foldl (fun e p => e.put p.1 (clampedEngine p.1 p.2)) e

/-- Whether SET_ENGINE answers CLAMPED (R164). -/
def engineClamped (vs : List (Nat × Half)) : Bool := vs.any fun p => clampedEngine p.1 p.2 != p.2.toNat

end Sys2Proof.Machine
end

