-- ==== Sys2Proof/Machine/Wire.lean ====
section
/-! DEFINITION. The bytes of the packets the part sends (R186, R187, R188): field encodings, captures, read
payloads, table entries and VOICE packets. -/

namespace Sys2Proof.Machine

open Sys2Proof

/-! ### Fields (R183, R186) -/

/-- A number of one byte. -/
def byte1 (n : Nat) : List Byte := [BitVec.ofNat 8 n]

/-- A number of two bytes. -/
def byte2 (n : Nat) : List Byte := halfBytes (BitVec.ofNat 16 n)

/-- A signed number of one byte, two's complement. -/
def signed1 (v : Int) : List Byte := [BitVec.ofInt 8 v]

/-- A signed number of two bytes, two's complement. -/
def signed2 (v : Int) : List Byte := halfBytes (BitVec.ofInt 16 v)

/-- A key set of three bytes. -/
def keySetBytes (ks : KeySet) : List Byte := [ks.extractLsb' 16 8, ks.extractLsb' 8 8, ks.extractLsb' 0 8]

/-- A yes or no, or a set or clear, as 1 or 0 (log 6). -/
def flag1 (b : Bool) : List Byte := [if b then 1#8 else 0#8]

/-- A field that is not applicable, all ones in its width of n bytes (R186). -/
def allOnes (n : Nat) : List Byte := List.replicate n 0xFF#8

/-- A one-byte field that may be not applicable (R186). -/
def optional1 (o : Option Nat) : List Byte := o.elim (allOnes 1) byte1

/-! ### Codes (R187) -/

/-- Status codes 0 to 9 in the order of R160. -/
def Status.code : Status → Nat
  | .ok => 0
  | .clamped => 1
  | .queued => 2
  | .busy => 3
  | .bankBusy => 4
  | .badArg => 5
  | .inUse => 6
  | .noSuch => 7
  | .unknown => 8
  | .failed => 9

/-- States of a slot in the order of R5 (log 9). -/
def Phase.code : Phase → Nat
  | .unbound => 0
  | .absent => 1
  | .quiet => 2
  | .stalled => 3
  | .sounding => 4

/-- Absent causes in the order of R5. -/
def AbsentCause.code : AbsentCause → Nat
  | .bind => 0
  | .timeout => 1
  | .restart => 2

/-- States of a voice in the order of R102. -/
def VoicePhase.code : VoicePhase → Nat
  | .free => 0
  | .sounding => 1
  | .releasing => 2

/-- dn states in the order of R102. -/
def DnState.code : DnState → Nat
  | .none => 0
  | .pending => 1
  | .opened => 2
  | .tail => 3

/-- Bank states in the order of R143. -/
def BankState.code : BankState → Nat
  | .empty => 0
  | .staged => 1
  | .copying => 2
  | .verifying => 3
  | .live => 4
  | .draining => 5

/-- Stop kinds (R187). -/
def StopKind.code : StopKind → Nat
  | .release => 0
  | .lost => 1
  | .flush => 2
  | .cut => 3

/-- CORRUPT reasons (R187). -/
def CorruptReason.code : CorruptReason → Nat
  | .check => 0
  | .length => 1
  | .classByte => 2
  | .content => 3

/-- Origins of CORRUPT (R187). -/
def linkCode : Link → Nat
  | .collector => 0
  | .voice => 1

/-- Operations (R187). -/
def WorkKind.code : WorkKind → Nat
  | .copyLive => 0
  | .commit => 1

/-- The command code of an operation's request (R188). -/
def WorkKind.command : WorkKind → Byte
  | .copyLive => 0x22#8
  | .commit => 0x23#8

/-- Failure reasons (R187). -/
def FailReason.code : FailReason → Nat
  | .noStaging => 0
  | .noSource => 1
  | .danglingVoicing _ => 2
  | .emptyFingering => 3
  | .aborted => 4

/-- Steal modes (R164). -/
def StealMode.code : StealMode → Nat
  | .fixed => 0
  | .rotating => 1

/-- Notice classes in the order of R166. -/
def NoticeClass.code : NoticeClass → Nat
  | .fault => 0
  | .degraded => 1
  | .advisory => 2

/-! ### Captures (R187) -/

/-- The size of a latch's capture. -/
def captureSize (l : LatchIx) : Nat :=
  [2, 2, 3, 3, 2, 4, 4, 3, 2, 1, 2, 2, 2, 4, 2, 5].getD l 0

/-- The table a WORK_FAIL capture names, with the entry's index (R153): the fingering table for a verdict,
none otherwise. -/
def failTable : FailReason → List Byte
  | .danglingVoicing e => byte1 2 ++ byte2 e
  | .emptyFingering => byte1 2 ++ allOnes 2
  | _ => allOnes 1 ++ allOnes 2

/-- The bytes of a capture (R187). -/
def Capture.bytes : Capture → List Byte
  | .corrupt r o => byte1 r.code ++ byte1 (linkCode o)
  | .stray t => halfBytes t
  | .gap i e r => byte1 i ++ [e, r]
  | .stale i e r => byte1 i ++ [e, r]
  | .lost i p => byte1 i ++ byte1 p.code
  | .unmapped i ks => byte1 i ++ keySetBytes ks
  | .thin i vc g w => byte1 i ++ byte1 vc ++ byte1 g ++ byte1 w
  | .steal v x r => byte1 v ++ byte1 x ++ byte1 r
  | .evict v re => byte1 v ++ flag1 re
  | .stall d => byte1 d
  | .detach q v => byte1 q ++ byte1 v
  | .attach d p => byte1 d ++ flag1 p
  | .staleFreed v g => byte1 v ++ [g]
  | .clamp i k v => byte1 i ++ byte1 k ++ signed2 v
  | .workDone k b => byte1 k.code ++ byte1 b
  | .workFail k r => byte1 k.code ++ failTable r ++ byte1 r.code

/-! ### Upstream packets (R187) -/

/-- The payload of a completion reply: bank, reason and index, all ones where they do not apply (R187,
log 10). -/
def completionPayload (b : Option BankIx) (f : Option FailReason) : List Byte :=
  optional1 (b.map (·.val)) ++ optional1 (f.map FailReason.code) ++
    match f with
    | some (.danglingVoicing e) => byte2 e
    | _ => allOnes 2

/-- The class code of an upstream packet (R187). -/
def Upstream.classCode : Upstream → Byte
  | .immediate .. => 0x31#8
  | .completion .. => 0x31#8
  | .notice .. => 0x32#8

/-- The field bytes of an upstream packet (R187). -/
def Upstream.fields : Upstream → List Byte
  | .immediate id code st pl => [id, code] ++ byte1 0 ++ byte1 st.code ++ pl
  | .completion id k b f =>
    [id, k.command] ++ byte1 1 ++ byte1 (if f.isNone then Status.ok else Status.failed).code ++
      completionPayload b f
  | .notice n ls cs =>
    halfBytes n ++ halfBytes ls ++ byte1 cs.length ++
      cs.flatMap fun c => byte1 c.latch ++ c.bytes

/-- The class byte, the length byte, the fields and the check of a packet (R183, R186). The check is computed over
the length byte too, which stands between the class byte and the fields (DEDUCED, log 32). -/
def envelope (classCode : Byte) (fields : List Byte) : List Byte :=
  let body := classCode :: BitVec.ofNat 8 fields.length :: fields
  body ++ halfBytes (crc16 body)

/-- An upstream packet as it goes on the collector link (R186). -/
def Upstream.wire (p : Upstream) : List Byte := envelope p.classCode p.fields

/-! ### VOICE packets (R187) -/

/-- The field bytes of a VOICE packet. -/
def VoiceRecord.fields : VoiceRecord → List Byte
  | .start v g c p pc vel l =>
    byte1 1 ++ byte1 v ++ [g] ++ byte1 c ++ byte1 p ++ byte2 pc ++ byte1 vel ++ byte2 l
  | .retune v g pc => byte1 2 ++ byte1 v ++ [g] ++ byte2 pc
  | .level v g l => byte1 3 ++ byte1 v ++ [g] ++ byte2 l
  | .stop v g k => byte1 4 ++ byte1 v ++ [g] ++ byte1 k.code
  | .allStop => byte1 5

/-- A VOICE packet as it goes on the voice link (R130, R186). -/
def VoiceRecord.wire (r : VoiceRecord) : List Byte := envelope 0x41#8 r.fields

/-! ### Table entries (R188) -/

/-- The bytes of a table entry. -/
def TableEntry.bytes : TableEntry → List Byte
  | .profile p =>
    (p.map.toList.flatMap fun e => optional1 (e.map (·.val))) ++ keySetBytes p.inversion
  | .curve c => c.toList.flatMap byte2
  | .fingering f =>
    flag1 f.valid ++ keySetBytes f.care ++ keySetBytes f.pattern ++ byte1 f.note ++ signed1 f.cent ++
      byte1 f.voicing
  | .voicing v =>
    byte1 v.layers.length ++ byte1 (if v.mode = .legato then 0 else 1) ++ byte1 v.fixedVelocity ++
      v.layers.flatMap fun l =>
        signed1 l.interval ++ byte1 l.program ++ byte1 l.channel ++ byte1 l.trim ++ flag1 l.follow

/-! ### Read payloads (R187) -/

/-- The sixteen current settings, in the order of R6. -/
def settingsBytes (st : Settings) : List Byte :=
  byte1 st.profile ++ byte1 st.curve ++ byte2 st.zero ++ byte2 st.gain ++ byte2 st.onThreshold ++
    byte2 st.offThreshold ++ byte1 st.velocityGain ++ byte1 st.confirmCount ++ byte1 st.priority ++
    signed2 st.transpose ++ signed2 st.tune ++ byte1 st.rollerCenter ++ byte2 st.lipCenter ++
    byte2 st.bendRange ++ byte2 st.slew ++ byte2 st.lossTime

/-- A field preceded by its presence byte, zero when absent (R186). -/
def presence (n : Nat) (o : Option (List Byte)) : List Byte :=
  o.elim (byte1 0 ++ List.replicate n 0#8) (byte1 1 ++ ·)

/-- The pending record, field by field (R186). -/
def pendingBytes (p : PendingSettings) : List Byte :=
  presence 1 (p.profile.map fun x => byte1 x) ++ presence 2 (p.transpose.map signed2) ++
    presence 1 (p.rollerCenter.map byte1)

/-- The resolution, preceded by its presence byte (R186). -/
def resolutionBytes (r : Option Resolution) : List Byte :=
  presence 5 (r.map fun r => byte1 r.entry ++ byte1 r.note ++ signed2 r.cent ++ byte1 r.voicing)

/-- The payload of READ_SLOT: the whole slot context in the order of R23 (log 6, log 7). -/
def slotBytes (x : Slot) : List Byte :=
  x.tag.elim (allOnes 2) halfBytes ++ byte1 x.phase.code ++ optional1 (x.absentCause.map AbsentCause.code) ++
    presence 1 (x.expectedSeq.map fun b => [b]) ++ flag1 x.lossTimer.isSome ++
    settingsBytes x.settings ++ pendingBytes (x.pendingSettings.getD {}) ++
    optional1 (x.bank.map (·.val)) ++
    keySetBytes x.candidate ++ byte1 x.runCount ++ keySetBytes x.confirmed ++
    resolutionBytes x.resolution ++
    byte2 x.qPrev ++ byte2 x.outLevel ++ byte1 x.onsetVelocity ++ flag1 x.rearm ++
    x.layers.flatMap fun e => optional1 (e.map (·.val))

/-- A voice's position in the list that holds it, counted from 0 at the head (R123). -/
def Pool.position (p : Pool) (v : VoiceIx) : Option Nat :=
  match p.voices[v].phase with
  | .sounding => p.ageList.idxOf? v
  | .releasing => p.releaseList.idxOf? v
  | .free => none

/-- One voice record of READ_VOICES, in the order of R123 (log 28). -/
def Pool.voiceBytes (p : Pool) (v : VoiceIx) : List Byte :=
  let x := p.voices[v]
  byte1 v ++ byte1 x.phase.code ++ optional1 (x.owner.map (·.slot.val)) ++
    optional1 (x.owner.map (·.layer.val)) ++ optional1 (x.owner.map (·.priority.val)) ++
    [x.generation] ++ byte1 x.dn.code ++ [x.dnGeneration] ++ byte2 x.lastPitch ++ byte2 x.lastLevel ++
    flag1 x.pitchOwed ++ flag1 x.levelOwed ++ flag1 x.releaseTimer.isSome ++ optional1 (p.position v)

/-- The payload of READ_ENGINE, in the order of R165. -/
def engineBytes (e : Engine) (rotation : SlotIx) : List Byte :=
  byte1 e.stealMode.code ++ byte2 e.releaseTimeout ++ byte1 e.deadBand ++ byte1 e.stallTime ++
    byte1 e.noticeInterval ++ byte1 rotation

/-- The worst class among the set latches, or none (R166). -/
def NoticeUnit.worst (n : NoticeUnit) : Option NoticeClass :=
  [NoticeClass.fault, .degraded, .advisory].find? fun c =>
    (List.finRange 16).any fun l => n.latches[l].isSet && latchClass l == c

/-- The long-work queue in STATUS: each operation's kind, request id and whether it is running, the head
running (R149, R166, log 7). -/
def workBytes : List Work → List Byte
  | [] => []
  | w :: ws => byte1 w.kind.code ++ [w.id] ++ flag1 true ++ ws.flatMap fun w =>
      byte1 w.kind.code ++ [w.id] ++ flag1 false

/-- The payload of STATUS, in the order of R166 (log 7, log 8). The state is that after the report number
has been advanced. -/
def statusBytes (s : State) : List Byte :=
  halfBytes s.notices.reportNumber ++ halfBytes s.notices.setLatches ++
    optional1 (s.notices.worst.map NoticeClass.code) ++
    ((List.finRange 8).flatMap fun i =>
      byte1 (s.slot i).phase.code ++ optional1 ((s.slot i).absentCause.map AbsentCause.code)) ++
    byte1 s.port.queue.length ++ byte1 s.port.credit ++ flag1 s.port.attached ++ flag1 s.port.allStopOwed ++
    byte1 (s.bank 0).state.code ++ byte1 (s.bank 1).state.code ++
    optional1 (s.store.liveBank.map (·.val)) ++ workBytes s.store.work

/-- The payload of READ_CAPTURE (R169, R187). -/
def captureBytes (l : LatchIx) (x : Latch) : List Byte :=
  byte1 l ++ flag1 x.isSet ++ halfBytes x.lastMark ++ byte1 (if x.isSet then x.repeats else 0) ++
    x.first.elim (allOnes (captureSize l)) Capture.bytes

end Sys2Proof.Machine
end

