-- ==== Sys2Proof/Machine/Manage.lean ====
section
/-! DEFINITION. The management responder (chapter 9): the request list, the taking of a request and the
eighteen commands with their replies. -/

namespace Sys2Proof.Machine

open Sys2Proof

/-- How many requests may wait (R161). -/
def requestCapacity : Nat := 4

/-- The immediate reply of a request: its id, its code, a status and a payload (R160). -/
def State.reply (s : State) (r : Request) (st : Status) (payload : List Byte) : State :=
  s.push (.immediate r.id r.code st payload)

/-- A refused request changes nothing, and its reply has no payload (R160, log 25). -/
def State.refuse (s : State) (r : Request) (st : Status) : State := s.reply r st []

/-! ### Notices and status -/

/-- STATUS (R166): a report, so the report number advances and the new flags are cleared (R176). -/
def cmdStatus (r : Request) (s : State) : State :=
  match r.args with
  | [] =>
    let s1 : State := { s with notices := s.notices.report }
    s1.reply r .ok (statusBytes s1)
  | _ => s.refuse r .badArg

/-- CLEAR_NOTICES (R170, R179). -/
def cmdClearNotices (r : Request) (s : State) : State :=
  match r.args with
  | [m1, m0, l1, l0] =>
    ({ s with notices := s.notices.clearAgainst (half m1 m0) (half l1 l0) } : State).reply r .ok
      (halfBytes (s.notices.keptLatches (half m1 m0) (half l1 l0)))
  | _ => s.refuse r .badArg

/-- SET_NOTICES (R170, R177). A master byte other than 0 or 1 is BAD_ARG (R188). -/
def cmdSetNotices (r : Request) (s : State) : State :=
  match r.args with
  | [a1, a0, b1, b0, m] =>
    if m.toNat ≤ 1 then
      ({ s with notices := s.notices.enable (half a1 a0) (half b1 b0) (m == 1#8) } : State).reply r .ok []
    else s.refuse r .badArg
  | _ => s.refuse r .badArg

/-- READ_CAPTURE (R169). -/
def cmdReadCapture (r : Request) (s : State) : State :=
  match r.args with
  | [l] =>
    if h : l.toNat < 16 then s.reply r .ok (captureBytes ⟨l.toNat, h⟩ s.notices.latches[l.toNat])
    else s.refuse r .badArg
  | _ => s.refuse r .badArg

/-! ### Slots -/

/-- BIND_SLOT (R10, R11). -/
def cmdBindSlot (r : Request) (s : State) : State :=
  match r.args with
  | [b, t1, t0] =>
    match readSlotIx b with
    | none => s.refuse r .badArg
    | some i =>
      let t := half t1 t0
      if t = 0#16 ∨ t = 0xFFFF#16 then s.refuse r .badArg
      else if s.tagInUse i t then s.refuse r .inUse
      else (s.bind i t).reply r .ok []
  | _ => s.refuse r .badArg

/-- UNBIND_SLOT (R12). -/
def cmdUnbindSlot (r : Request) (s : State) : State :=
  match r.args with
  | [b] =>
    match readSlotIx b with
    | none => s.refuse r .badArg
    | some i => (if (s.slot i).phase = .unbound then s else s.unbind i).reply r .ok []
  | _ => s.refuse r .badArg

/-- SET_SLOT (R7, R8). -/
def cmdSetSlot (r : Request) (s : State) : State :=
  match r.args with
  | b :: m1 :: m0 :: vs =>
    match readSlotIx b, readMasked (half m1 m0).getLsbD 16 vs with
    | some i, some ps =>
      (s.modSlot i fun x => x.applySettings ps).reply r
        (if (s.slot i).settingsClamped ps then .clamped else .ok) []
    | _, _ => s.refuse r .badArg
  | _ => s.refuse r .badArg

/-- READ_SLOT (R23). -/
def cmdReadSlot (r : Request) (s : State) : State :=
  match r.args with
  | [b] =>
    match readSlotIx b with
    | none => s.refuse r .badArg
    | some i => s.reply r .ok (slotBytes (s.slot i))
  | _ => s.refuse r .badArg

/-! ### The engine -/

/-- SET_ENGINE (R164). A mask with bits 5 to 7 set is BAD_ARG (R188). -/
def cmdSetEngine (r : Request) (s : State) : State :=
  match r.args with
  | m :: vs =>
    match readMasked m.getLsbD 5 vs with
    | none => s.refuse r .badArg
    | some ps =>
      if 32 ≤ m.toNat ∨ badStealMode ps = true then s.refuse r .badArg
      else
        (s.setEngine (s.responder.engine.applySettings ps)).reply r
          (if engineClamped ps then .clamped else .ok) []
  | _ => s.refuse r .badArg

/-- READ_ENGINE (R165). -/
def cmdReadEngine (r : Request) (s : State) : State :=
  match r.args with
  | [] => s.reply r .ok (engineBytes s.responder.engine s.pool.rotation)
  | _ => s.refuse r .badArg

/-! ### Tables and long work -/

/-- WRITE_TABLE (R145, R146). -/
def cmdWriteTable (r : Request) (s : State) : State :=
  match readTableWrite r.args with
  | none => s.refuse r .badArg
  | some w =>
    match s.store.stagingBank with
    | none => s.refuse r .bankBusy
    | some b =>
      if s.store.work.isEmpty then (s.writeBank b w.first w.entries).reply r .ok []
      else s.refuse r .busy

/-- The most entries of a kind one READ_TABLE may ask for (R167). -/
def TableKind.maxRead : TableKind → Nat
  | .voicing => 10
  | _ => 16

/-- READ_TABLE (R167, R76). A COPYING bank reads back with the part copied so far, which the read first
brings up to date (log 5). -/
def cmdReadTable (r : Request) (s : State) : State :=
  match r.args with
  | [b, k, i, n] =>
    match readKind k with
    | none => s.refuse r .badArg
    | some k =>
      if h : b.toNat < 2 then
        if n.toNat = 0 ∨ k.maxRead < n.toNat then s.refuse r .badArg
        else if k.lastIndex < i.toNat ∨ k.lastIndex < i.toNat + n.toNat - 1 then s.refuse r .noSuch
        else
          let s1 := if (s.bank ⟨b.toNat, h⟩).state = .copying then s.advanceCopy else s
          s1.reply r .ok
            (((s1.bank ⟨b.toNat, h⟩).readEntries k i.toNat n.toNat).flatMap TableEntry.bytes)
      else s.refuse r .badArg
  | _ => s.refuse r .badArg

/-- A request for long work (R149): refused, or answered QUEUED and then queued. -/
def requestWork (k : WorkKind) (r : Request) (s : State) : State :=
  match r.args with
  | [] =>
    match s.store.workRefusal with
    | some st => s.refuse r st
    | none => (s.reply r .queued []).queueWork ⟨k, r.id⟩
  | _ => s.refuse r .badArg

/-- COPY_LIVE (R149, R150). -/
def cmdCopyLive (r : Request) (s : State) : State := requestWork .copyLive r s

/-- COMMIT (R149, R151). -/
def cmdCommit (r : Request) (s : State) : State := requestWork .commit r s

/-- ABORT_WORK (R154): the running operation is stopped and answered FAILED with ABORTED, ahead of the
reply, and a waiting one is dropped. -/
def cmdAbortWork (r : Request) (s : State) : State :=
  match r.args with
  | [] =>
    match s.store.work with
    | [] => s.reply r .ok (flag1 false ++ byte1 0)
    | w :: ws =>
      (s.abandonWork.push (.completion w.id w.kind s.store.workBank (some .aborted))).reply r .ok
        (flag1 true ++ byte1 ws.length)
  | _ => s.refuse r .badArg

/-! ### Voices -/

/-- READ_VOICES (R168, R123). -/
def cmdReadVoices (r : Request) (s : State) : State :=
  match r.args with
  | [f, n] =>
    if n.toNat = 0 ∨ 8 < n.toNat then s.refuse r .badArg
    else if 31 < f.toNat ∨ 31 < f.toNat + n.toNat - 1 then s.refuse r .noSuch
    else
      s.reply r .ok
        ((List.range n.toNat).flatMap fun j => s.pool.voiceBytes (Fin.ofNat 32 (f.toNat + j)))
  | _ => s.refuse r .badArg

/-- PANIC (R171). -/
def cmdPanic (r : Request) (s : State) : State :=
  match r.args with
  | [] => (s.voiceFlush true).reply r .ok []
  | _ => s.refuse r .badArg

/-- The effect of RESTART up to its reply (R172 steps 1 to 4). -/
def State.warmRestart (s : State) : State :=
  let s1 := s.abandonWork.voiceFlush true
  let s2 := (List.finRange 8).foldl State.restartSlot s1
  { s2 with notices := s2.notices.clearAll }

/-- RESTART (R172). -/
def cmdRestart (r : Request) (s : State) : State :=
  match r.args with
  | [] => s.warmRestart.reply r .ok []
  | _ => s.refuse r .badArg

/-! ### Taking requests (R159, R161) -/

/-- A request is carried out and answered, by its command code (R159, R188); a code that names no command
is answered UNKNOWN. -/
def carryOut (r : Request) (s : State) : State :=
  match r.code.toNat with
  | 0x01 => cmdStatus r s
  | 0x02 => cmdClearNotices r s
  | 0x03 => cmdSetNotices r s
  | 0x04 => cmdReadCapture r s
  | 0x10 => cmdBindSlot r s
  | 0x11 => cmdUnbindSlot r s
  | 0x12 => cmdSetSlot r s
  | 0x13 => cmdReadSlot r s
  | 0x14 => cmdSetEngine r s
  | 0x15 => cmdReadEngine r s
  | 0x20 => cmdWriteTable r s
  | 0x21 => cmdReadTable r s
  | 0x22 => cmdCopyLive r s
  | 0x23 => cmdCommit r s
  | 0x24 => cmdAbortWork r s
  | 0x30 => cmdReadVoices r s
  | 0x31 => cmdPanic r s
  | 0x32 => cmdRestart r s
  | _ => s.refuse r .unknown

/-- An idle responder takes the request at the head of its list: the request leaves the list, the responder
waits for its reply to be sent, and the request is carried out (R161). -/
def State.serve (s : State) : State :=
  match s.responder.waiting, s.responder.requests with
  | false, r :: rest =>
    carryOut r { s with responder := { s.responder with requests := rest, waiting := true } }
  | _, _ => s

/-- A request arrives on the collector link: it is discarded when four wait, and otherwise joins the list,
from which an idle responder takes it at once (R161, log 2). While the link is down or its receiver holds no
lock no packet arrives (R19, R184, log 16). -/
def State.submit (s : State) (r : Request) : State :=
  if s.receives .collector then
    if requestCapacity ≤ s.responder.requests.length then s
    else State.serve { s with responder := { s.responder with requests := s.responder.requests ++ [r] } }
  else s

/-- A MANAGE packet is delivered (R159): a body too short for an id and a code is a CONTENT discard. -/
def State.deliverManage (s : State) (fields : List Byte) : State :=
  match readRequest fields with
  | none => s.raise (.corrupt .content .collector)
  | some r => s.submit r

/-- The last byte of the immediate reply has left the collector link: the responder becomes idle and takes
the next request, if one waits (R161). Only a reply being sent can end so (log 3). -/
def State.replySent (s : State) : State :=
  match s.collector.upstream with
  | .immediate .. :: rest =>
    State.serve
      { s with
        collector := { s.collector with upstream := rest }
        responder := { s.responder with waiting := false } }
  | _ => s

/-- A completion reply or a NOTICE has been sent upstream, and the next packet is sent (R162). -/
def State.upstreamSent (s : State) : State :=
  match s.collector.upstream with
  | .completion .. :: rest => { s with collector := { s.collector with upstream := rest } }
  | .notice .. :: rest => { s with collector := { s.collector with upstream := rest } }
  | _ => s

end Sys2Proof.Machine
end

