-- ==== Sys2Proof/Machine/Links.lean ====
section
/-! DEFINITION. The two links (chapters 7 and 11): the lock criteria, link up and down, packets from the
rack, envelope discards and cut packets. -/

namespace Sys2Proof.Machine

open Sys2Proof

/-- How many consecutive valid code groups give symbol lock (R184). -/
abbrev lockGroups : Nat := 16

/-- For how many consecutive symbol times lock is absent when a link goes down (R184). -/
abbrev lossSymbols : Nat := 256

/-- The symbol times from the last group a receiver read to the next one: the ten of one group at the same
alignment, and the symbols the alignment moves on by when it changes (R184, log 15). -/
def Receiver.elapsed (r : Receiver) (x : Reading) : Nat :=
  if x.alignment = r.alignment then 10 else (x.alignment - r.alignment).val

/-- How many consecutive valid groups at one alignment a reading makes (R184): one more at the same alignment, the
first at another, none when the group is not valid. -/
def Receiver.run (r : Receiver) (x : Reading) : Nat :=
  if x.group.isNone then 0
  else if x.alignment = r.alignment then min lockGroups (r.validGroups + 1)
  else 1

/-- A locked receiver reads a valid group at its alignment, which keeps lock (R184). -/
def Receiver.keepsLock (r : Receiver) (x : Reading) : Bool := x.group.isSome && x.alignment == r.alignment

/-- A receiver reads one group (R184). Lock is gained with the sixteenth consecutive valid group at one alignment
and lost at the first group that is invalid or out of alignment, which cuts a packet that is being received; while
it is absent the symbol times are counted. -/
def Receiver.read (r : Receiver) (x : Reading) : Receiver :=
  if r.locked then
    if r.keepsLock x then r
    else
      { locked := false
        alignment := x.alignment
        validGroups := r.run x
        lockless := 0
        packet := if r.packet = .inside then .cut else r.packet }
  else
    { r with
      locked := decide (lockGroups ≤ r.run x)
      alignment := x.alignment
      validGroups := r.run x
      lockless := if lockGroups ≤ r.run x then 0 else min lossSymbols (r.lockless + r.elapsed x) }

/-- The collector link goes down (R162): upstream packets and waiting requests are discarded and the
responder becomes idle. -/
def State.collectorDown (s : State) : State :=
  { s with
    collector := { up := false, upstream := [] }
    responder := { s.responder with requests := [], waiting := false } }

/-- The collector link comes up (R184). -/
def State.collectorUp (s : State) : State := { s with collector := { s.collector with up := true } }

/-- The voice link goes down (R137): a link that goes down while DETACHED is no event of the port (R138). -/
def State.detach (s : State) : State :=
  if s.port.attached then
    let s1 : State :=
      { s with port :=
          { s.port with attached := false, credit := 0, stallTimer := none, sending := none } }
    (s1.voiceFlush false).raise (.detach s.port.queue.length s.pool.countFlushed)
  else s

/-- A GRANT packet (R133, R185): its count is added, or it is a CONTENT discard. -/
def State.deliverGrant (s : State) (fields : List Byte) : State :=
  match fields with
  | [n] =>
    if 1 ≤ n.toNat ∧ n.toNat ≤ 64 then s.addCredit n.toNat else s.raise (.corrupt .content .voice)
  | _ => s.raise (.corrupt .content .voice)

/-- A FREED packet (R141, R185): a voice above 31 is a CONTENT discard, and any other report goes to the
pool (R119). -/
def State.deliverFreed (s : State) (fields : List Byte) : State :=
  match fields with
  | [v, g] =>
    if h : v.toNat < 32 then s.freedReport ⟨v.toNat, h⟩ g else s.raise (.corrupt .content .voice)
  | _ => s.raise (.corrupt .content .voice)

/-- A delimited packet is received on a link that is up (R185): the first envelope check that fails
discards it with CORRUPT, and a packet that passes goes to its class's content check (log 22). -/
def State.receive (s : State) (link : Link) (bytes : List Byte) : State :=
  match envelopeFault link bytes with
  | some reason => s.raise (.corrupt reason link)
  | none =>
    match (bytes.getD 0 0).toNat with
    | 0x21 => s.deliverSense (envelopeFields bytes)
    | 0x22 => s.deliverManage (envelopeFields bytes)
    | 0x51 => s.deliverGrant (envelopeFields bytes)
    | 0x52 => s.deliverFreed (envelopeFields bytes)
    | _ => s

/-- The receiver of a link is done with a packet: it is inside none, and none is cut (R184). -/
def State.endPacket (s : State) (link : Link) : State :=
  s.setReceiver link { s.receiver link with packet := .none }

/-- Lock has been absent for 256 consecutive symbol times: a link that is up goes down, and a packet that was cut
raises nothing further (R184). -/
def State.lineDown (s : State) (link : Link) : State :=
  if s.linkUp link then
    match link with
    | .collector => (s.endPacket link).collectorDown
    | .voice => (s.endPacket link).detach
  else s

/-- A receiver has gained lock: a link that is down comes up; on a link that has stayed up nothing happens but
that a packet that was cut raises CORRUPT with reason LENGTH (R184). -/
def State.lineUp (s : State) (link : Link) : State :=
  if s.linkUp link then
    (s.endPacket link).raiseIf (decide ((s.receiver link).packet = .cut)) (.corrupt .length link)
  else
    match link with
    | .collector => (s.endPacket link).collectorUp
    | .voice => (s.endPacket link).attach

/-- The receiver of a link reads one group, and the link follows its lock (R184): it goes down when lock has been
absent for 256 symbol times, and a receiver that gains lock brings it up. -/
def State.hear (link : Link) (s : State) (x : Reading) : State :=
  let r := s.receiver link
  let t := s.setReceiver link (r.read x)
  if r.locked then t
  else
    let u := if lossSymbols ≤ r.lockless + r.elapsed x then t.lineDown link else t
    if (r.read x).locked then u.lineUp link else u

/-- The receiver of a link reads these groups, in order (R184). -/
def State.hearAll (s : State) (link : Link) (xs : List Reading) : State := xs.foldl (State.hear link) s

/-- The receiver of a link reads these groups while a packet arrives (R184): the packet is cut where lock is lost,
and is not delivered. A packet arrives only where one can be received (log 16). -/
def State.packetCut (s : State) (link : Link) (xs : List Reading) : State :=
  let s1 := if s.receives link then s.setReceiver link { s.receiver link with packet := .inside } else s
  let s2 := s1.hearAll link xs
  if (s2.receiver link).packet = .inside then s2.endPacket link else s2

end Sys2Proof.Machine
end

