-- ==== Sys2Proof/Machine/Exec.lean ====
section
/-! DEFINITION. The meaning of each command, one definition per constructor of Instr. The part stops on no
event, so each answers a next state. -/

namespace Sys2Proof.Machine

open Sys2Proof

/-- POWER_ON (R173): every state of the part takes its power-on value. The model's own two fields stay: the
commands waiting and the count of free values (log 21). -/
def execPowerOn (s : State) : Host.Outcome State Fault Refusal :=
  .next { State.reset with pending := s.pending, freeCount := s.freeCount }

/-- SENSE (R4): a SENSE packet is delivered while the collector link is up and in lock (R19, log 16). -/
def execSense (fields : List Byte) (s : State) : Host.Outcome State Fault Refusal :=
  .next (if s.receives .collector then s.deliverSense fields else s)

/-- MANAGE (R161): a MANAGE packet is delivered while the collector link is up and in lock (R19, log 16). -/
def execManage (fields : List Byte) (s : State) : Host.Outcome State Fault Refusal :=
  .next (if s.receives .collector then s.deliverManage fields else s)

/-- REPLY_SENT (R161). -/
def execReplySent (s : State) : Host.Outcome State Fault Refusal := .next s.replySent

/-- UNKNOWN_COMMAND (R159): a request with a command code that names no command arrives. -/
def execUnknownCommand (id code : Byte) (args : List Byte) (s : State) : Host.Outcome State Fault Refusal :=
  .next (s.submit ⟨id, code, args⟩)

/-- STATUS (R166): the MANAGE request with code 0x01 arrives (R161, R188). -/
def execStatus (id : Byte) (args : List Byte) (s : State) : Host.Outcome State Fault Refusal :=
  .next (s.submit ⟨id, 0x01#8, args⟩)

/-- CLEAR_NOTICES (R179): the MANAGE request with code 0x02 arrives (R161, R188). -/
def execClearNotices (id : Byte) (args : List Byte) (s : State) : Host.Outcome State Fault Refusal :=
  .next (s.submit ⟨id, 0x02#8, args⟩)

/-- SET_NOTICES (R170): the MANAGE request with code 0x03 arrives (R161, R188). -/
def execSetNotices (id : Byte) (args : List Byte) (s : State) : Host.Outcome State Fault Refusal :=
  .next (s.submit ⟨id, 0x03#8, args⟩)

/-- READ_CAPTURE (R169): the MANAGE request with code 0x04 arrives (R161, R188). -/
def execReadCapture (id : Byte) (args : List Byte) (s : State) : Host.Outcome State Fault Refusal :=
  .next (s.submit ⟨id, 0x04#8, args⟩)

/-- BIND_SLOT (R10, R11): the MANAGE request with code 0x10 arrives (R161, R188). -/
def execBindSlot (id : Byte) (args : List Byte) (s : State) : Host.Outcome State Fault Refusal :=
  .next (s.submit ⟨id, 0x10#8, args⟩)

/-- UNBIND_SLOT (R12): the MANAGE request with code 0x11 arrives (R161, R188). -/
def execUnbindSlot (id : Byte) (args : List Byte) (s : State) : Host.Outcome State Fault Refusal :=
  .next (s.submit ⟨id, 0x11#8, args⟩)

/-- SET_SLOT (R7, R8): the MANAGE request with code 0x12 arrives (R161, R188). -/
def execSetSlot (id : Byte) (args : List Byte) (s : State) : Host.Outcome State Fault Refusal :=
  .next (s.submit ⟨id, 0x12#8, args⟩)

/-- READ_SLOT (R23): the MANAGE request with code 0x13 arrives (R161, R188). -/
def execReadSlot (id : Byte) (args : List Byte) (s : State) : Host.Outcome State Fault Refusal :=
  .next (s.submit ⟨id, 0x13#8, args⟩)

/-- SET_ENGINE (R164): the MANAGE request with code 0x14 arrives (R161, R188). -/
def execSetEngine (id : Byte) (args : List Byte) (s : State) : Host.Outcome State Fault Refusal :=
  .next (s.submit ⟨id, 0x14#8, args⟩)

/-- READ_ENGINE (R165): the MANAGE request with code 0x15 arrives (R161, R188). -/
def execReadEngine (id : Byte) (args : List Byte) (s : State) : Host.Outcome State Fault Refusal :=
  .next (s.submit ⟨id, 0x15#8, args⟩)

/-- WRITE_TABLE (R145, R146): the MANAGE request with code 0x20 arrives (R161, R188). -/
def execWriteTable (id : Byte) (args : List Byte) (s : State) : Host.Outcome State Fault Refusal :=
  .next (s.submit ⟨id, 0x20#8, args⟩)

/-- READ_TABLE (R167): the MANAGE request with code 0x21 arrives (R161, R188). -/
def execReadTable (id : Byte) (args : List Byte) (s : State) : Host.Outcome State Fault Refusal :=
  .next (s.submit ⟨id, 0x21#8, args⟩)

/-- COPY_LIVE (R149, R150): the MANAGE request with code 0x22 arrives (R161, R188). -/
def execCopyLive (id : Byte) (args : List Byte) (s : State) : Host.Outcome State Fault Refusal :=
  .next (s.submit ⟨id, 0x22#8, args⟩)

/-- COMMIT (R149, R151): the MANAGE request with code 0x23 arrives (R161, R188). -/
def execCommit (id : Byte) (args : List Byte) (s : State) : Host.Outcome State Fault Refusal :=
  .next (s.submit ⟨id, 0x23#8, args⟩)

/-- ABORT_WORK (R154): the MANAGE request with code 0x24 arrives (R161, R188). -/
def execAbortWork (id : Byte) (args : List Byte) (s : State) : Host.Outcome State Fault Refusal :=
  .next (s.submit ⟨id, 0x24#8, args⟩)

/-- READ_VOICES (R168): the MANAGE request with code 0x30 arrives (R161, R188). -/
def execReadVoices (id : Byte) (args : List Byte) (s : State) : Host.Outcome State Fault Refusal :=
  .next (s.submit ⟨id, 0x30#8, args⟩)

/-- PANIC (R171): the MANAGE request with code 0x31 arrives (R161, R188). -/
def execPanic (id : Byte) (args : List Byte) (s : State) : Host.Outcome State Fault Refusal :=
  .next (s.submit ⟨id, 0x31#8, args⟩)

/-- RESTART (R172): the MANAGE request with code 0x32 arrives (R161, R188). -/
def execRestart (id : Byte) (args : List Byte) (s : State) : Host.Outcome State Fault Refusal :=
  .next (s.submit ⟨id, 0x32#8, args⟩)

/-- LOSS_TIMER_EXPIRY (R17). -/
def execLossTimerExpiry (slot : SlotIx) (s : State) : Host.Outcome State Fault Refusal :=
  .next (s.lossExpiry slot)

/-- RELEASE_TIMER_EXPIRY (R116). -/
def execReleaseTimerExpiry (voice : VoiceIx) (s : State) : Host.Outcome State Fault Refusal :=
  .next (s.releaseExpiry voice)

/-- STALL_TIMER_EXPIRY (R135). -/
def execStallTimerExpiry (s : State) : Host.Outcome State Fault Refusal := .next s.stallExpiry

/-- NOTICE_INTERVAL_EXPIRY (R178). -/
def execNoticeIntervalExpiry (s : State) : Host.Outcome State Fault Refusal := .next s.noticeInterval

/-- COPY_COMPLETION (R150). -/
def execCopyCompletion (s : State) : Host.Outcome State Fault Refusal := .next s.copyCompletes

/-- VERIFICATION_COMPLETION (R151, R152). -/
def execVerificationCompletion (s : State) : Host.Outcome State Fault Refusal :=
  .next s.verificationCompletes

/-- TRANSMISSION (R130). -/
def execTransmission (s : State) : Host.Outcome State Fault Refusal := .next s.transmit

/-- GRANT (R133): a GRANT packet arrives while the port is ATTACHED and in lock (R136, log 16). -/
def execGrant (fields : List Byte) (s : State) : Host.Outcome State Fault Refusal :=
  .next (if s.receives .voice then s.deliverGrant fields else s)

/-- FREED (R119, R141): a FREED packet arrives while the port is ATTACHED and in lock (R136, log 16). -/
def execFreed (fields : List Byte) (s : State) : Host.Outcome State Fault Refusal :=
  .next (if s.receives .voice then s.deliverFreed fields else s)

/-- ENVELOPE_DISCARD (R185): a delimited packet is received on a link that is up and in lock. -/
def execEnvelopeDiscard (link : Link) (bytes : List Byte) (s : State) : Host.Outcome State Fault Refusal :=
  .next (if s.receives link then s.receive link bytes else s)

/-- PACKET_CUT (R184): the receiver reads these groups while a packet arrives. -/
def execPacketCut (link : Link) (readings : List Reading) (s : State) : Host.Outcome State Fault Refusal :=
  .next (s.packetCut link readings)

/-- COLLECTOR_LINK_UP (R184): the collector receiver reads these groups. -/
def execCollectorLinkUp (readings : List Reading) (s : State) : Host.Outcome State Fault Refusal :=
  .next (s.hearAll .collector readings)

/-- COLLECTOR_LINK_DOWN (R162, R184): the collector receiver reads these groups. -/
def execCollectorLinkDown (readings : List Reading) (s : State) : Host.Outcome State Fault Refusal :=
  .next (s.hearAll .collector readings)

/-- ATTACHMENT (R136, R184): the voice receiver reads these groups. -/
def execAttachment (readings : List Reading) (s : State) : Host.Outcome State Fault Refusal :=
  .next (s.hearAll .voice readings)

/-- DETACHMENT (R137, R184): the voice receiver reads these groups. -/
def execDetachment (readings : List Reading) (s : State) : Host.Outcome State Fault Refusal :=
  .next (s.hearAll .voice readings)

/-- UPSTREAM_PACKET_SENT (R162). -/
def execUpstreamPacketSent (s : State) : Host.Outcome State Fault Refusal := .next s.upstreamSent

end Sys2Proof.Machine
end

