-- ==== Sys2Proof/Machine/Dispatch.lean ====
section
/-! DEFINITION. The dispatch of a command to its meaning: one arm per constructor of Instr. -/

namespace Sys2Proof.Machine

open Sys2Proof

def exec (i : Instr) (s : State) : Host.Outcome State Fault Refusal :=
  match i with
  | .powerOn => Sys2Proof.Machine.execPowerOn s
  | .sense fields => Sys2Proof.Machine.execSense fields s
  | .manage fields => Sys2Proof.Machine.execManage fields s
  | .replySent => Sys2Proof.Machine.execReplySent s
  | .unknownCommand id code args => Sys2Proof.Machine.execUnknownCommand id code args s
  | .status id args => Sys2Proof.Machine.execStatus id args s
  | .clearNotices id args => Sys2Proof.Machine.execClearNotices id args s
  | .setNotices id args => Sys2Proof.Machine.execSetNotices id args s
  | .readCapture id args => Sys2Proof.Machine.execReadCapture id args s
  | .bindSlot id args => Sys2Proof.Machine.execBindSlot id args s
  | .unbindSlot id args => Sys2Proof.Machine.execUnbindSlot id args s
  | .setSlot id args => Sys2Proof.Machine.execSetSlot id args s
  | .readSlot id args => Sys2Proof.Machine.execReadSlot id args s
  | .setEngine id args => Sys2Proof.Machine.execSetEngine id args s
  | .readEngine id args => Sys2Proof.Machine.execReadEngine id args s
  | .writeTable id args => Sys2Proof.Machine.execWriteTable id args s
  | .readTable id args => Sys2Proof.Machine.execReadTable id args s
  | .copyLive id args => Sys2Proof.Machine.execCopyLive id args s
  | .commit id args => Sys2Proof.Machine.execCommit id args s
  | .abortWork id args => Sys2Proof.Machine.execAbortWork id args s
  | .readVoices id args => Sys2Proof.Machine.execReadVoices id args s
  | .panic id args => Sys2Proof.Machine.execPanic id args s
  | .restart id args => Sys2Proof.Machine.execRestart id args s
  | .lossTimerExpiry slot => Sys2Proof.Machine.execLossTimerExpiry slot s
  | .releaseTimerExpiry voice => Sys2Proof.Machine.execReleaseTimerExpiry voice s
  | .stallTimerExpiry => Sys2Proof.Machine.execStallTimerExpiry s
  | .noticeIntervalExpiry => Sys2Proof.Machine.execNoticeIntervalExpiry s
  | .copyCompletion => Sys2Proof.Machine.execCopyCompletion s
  | .verificationCompletion => Sys2Proof.Machine.execVerificationCompletion s
  | .transmission => Sys2Proof.Machine.execTransmission s
  | .grant fields => Sys2Proof.Machine.execGrant fields s
  | .freed fields => Sys2Proof.Machine.execFreed fields s
  | .envelopeDiscard link bytes => Sys2Proof.Machine.execEnvelopeDiscard link bytes s
  | .packetCut link readings => Sys2Proof.Machine.execPacketCut link readings s
  | .collectorLinkUp readings => Sys2Proof.Machine.execCollectorLinkUp readings s
  | .collectorLinkDown readings => Sys2Proof.Machine.execCollectorLinkDown readings s
  | .attachment readings => Sys2Proof.Machine.execAttachment readings s
  | .detachment readings => Sys2Proof.Machine.execDetachment readings s
  | .upstreamPacketSent => Sys2Proof.Machine.execUpstreamPacketSent s

end Sys2Proof.Machine
end

