-- ==== Sys2Proof/Safety.lean ====
section
/-! DEFINITION. What a good state of the part is: the ranges and laws the rules state of each block's state.
Each is a decidable property; the certificates state that every step keeps them. -/

namespace Sys2Proof.Machine

open Sys2Proof

/-! ### The slot table -/

/-- The settings lie in the ranges of R6, and the off threshold below the on threshold (R7). -/
abbrev Settings.Ok (st : Settings) : Prop :=
  st.zero ≤ 4095 ∧ st.gain ≤ 1023 ∧ st.onThreshold ≤ 4095 ∧ st.offThreshold < st.onThreshold ∧
    st.velocityGain ≤ 255 ∧ (1 ≤ st.confirmCount ∧ st.confirmCount ≤ 8) ∧
    (-24 ≤ st.transpose ∧ st.transpose ≤ 24) ∧ (-64 ≤ st.tune ∧ st.tune ≤ 63) ∧ st.rollerCenter ≤ 7 ∧
    st.lipCenter ≤ 1023 ∧ st.bendRange ≤ 768 ∧ (1 ≤ st.slew ∧ st.slew ≤ 16383) ∧
    (5 ≤ st.lossTime ∧ st.lossTime ≤ 1000)

/-- Pending values lie in the ranges of R6 (R8). -/
abbrev PendingSettings.Ok (p : PendingSettings) : Prop :=
  (p.transpose.all fun t => decide (-24 ≤ t ∧ t ≤ 24)) = true ∧
    (p.rollerCenter.all fun r => decide (r ≤ 7)) = true

/-- The slot is in one of the three states in which its controller is heard (R77). -/
abbrev Slot.Heard (x : Slot) : Prop := x.phase = .quiet ∨ x.phase = .stalled ∨ x.phase = .sounding

/-- The laws of one slot: a tag exactly while bound (R5), and one that may be bound (R10); an absent cause
exactly in ABSENT (R20); the expected seq known and the loss timer running exactly while the controller is
heard (R5, R16); layers and pending settings in SOUNDING alone (R77, R9); rearm in QUIET alone (R79). -/
abbrev Slot.Ok (x : Slot) : Prop :=
  (x.phase = .unbound ↔ x.tag = none) ∧ x.tag ≠ some 0 ∧ x.tag ≠ some 0xFFFF#16 ∧
    (x.absentCause.isSome = true ↔ x.phase = .absent) ∧
    (x.expectedSeq.isSome = true ↔ x.Heard) ∧ (x.lossTimer.isSome = true ↔ x.Heard) ∧
    (x.phase = .sounding ∨ x.layers = []) ∧ (x.phase = .sounding ∨ x.pendingSettings = none) ∧
    (x.rearm = true → x.phase = .quiet)

/-- The ranges of a slot's fields (R5, R6). -/
abbrev Slot.InRange (x : Slot) : Prop :=
  x.settings.Ok ∧ (x.pendingSettings.all fun p => decide p.Ok) = true ∧ x.runCount ≤ 8 ∧ x.qPrev ≤ 4095 ∧
    x.outLevel ≤ 16383 ∧ (1 ≤ x.onsetVelocity ∧ x.onsetVelocity ≤ 127) ∧ x.layers.length ≤ 4

/-- Every slot obeys the laws of its context. -/
abbrev State.SlotLaws (s : State) : Prop := ∀ i : SlotIx, (s.slot i).Ok

/-- No two bound slots hold the same source tag (R10). -/
abbrev State.TagsDistinct (s : State) : Prop :=
  ∀ i j : SlotIx, (s.slot i).tag = (s.slot j).tag → (s.slot i).tag ≠ none → i = j

/-! ### The tables -/

/-- A fingering entry within its ranges, its pattern within its care set (R60, R61). -/
abbrev Fingering.Ok (f : Fingering) : Prop :=
  f.pattern &&& f.care = f.pattern ∧ f.note ≤ 127 ∧ (-32 ≤ f.cent ∧ f.cent ≤ 31)

/-- A layer record within its ranges (R68, R69). -/
abbrev Layer.Ok (l : Layer) : Prop :=
  (-48 ≤ l.interval ∧ l.interval ≤ 48) ∧ l.program ≤ 127 ∧ l.channel ≤ 15 ∧ l.trim ≤ 127

/-- A voicing entry within its ranges (R68, R69). -/
abbrev Voicing.Ok (v : Voicing) : Prop :=
  (1 ≤ v.fixedVelocity ∧ v.fixedVelocity ≤ 127) ∧ v.layers.length ≤ 4 ∧ ∀ l ∈ v.layers, l.Ok

/-- Every entry of a bank lies within its ranges (R27, R43, R60, R68). -/
abbrev Bank.Ok (b : Bank) : Prop :=
  (∀ i : Fin 4, ∀ k : Fin 9, b.curves[i][k] ≤ 16383) ∧ (∀ i : EntryIx, b.fingerings[i].Ok) ∧
    ∀ i : VoicingIx, b.voicings[i].Ok

/-- The contents of both banks lie within their ranges (R145). -/
abbrev State.TablesOk (s : State) : Prop := ∀ b : BankIx, (s.bank b).Ok

/-- The ranges of every slot, and of the tables it reads. -/
abbrev State.SlotRanges (s : State) : Prop := s.TablesOk ∧ ∀ i : SlotIx, (s.slot i).InRange

/-! ### The bank laws -/

/-- The long-work queue and the bank states agree (R143, R149): with nothing queued no bank is COPYING or
VERIFYING; while an operation runs, the staging bank, and no other, is in its state; at most two
operations are queued. -/
abbrev State.WorkLaws (s : State) : Prop :=
  s.store.work.length ≤ 2 ∧
    (∀ b : BankIx, (s.bank b).state = .copying →
      (s.store.work.head?.map (·.kind)) = some .copyLive ∧ s.store.stagingBank = some b ∧
        s.store.liveBank ≠ none) ∧
    (∀ b : BankIx, (s.bank b).state = .verifying →
      (s.store.work.head?.map (·.kind)) = some .commit ∧ s.store.stagingBank = some b) ∧
    (s.store.work ≠ [] → s.store.workBank ≠ none)

/-- The laws of R144 and R147: at most one bank LIVE and at most one DRAINING, the latter only beside a LIVE
one and only while a SOUNDING slot uses it (R148); a slot uses a LIVE or DRAINING bank; a slot that is
bound and not SOUNDING uses the LIVE bank, and an UNBOUND slot none. -/
abbrev State.BankLaws (s : State) : Prop :=
  (∀ b c : BankIx, (s.bank b).state = .live → (s.bank c).state = .live → b = c) ∧
    (∀ b c : BankIx, (s.bank b).state = .draining → (s.bank c).state = .draining → b = c) ∧
    (∀ b : BankIx, (s.bank b).state = .draining →
      s.store.liveBank ≠ none ∧ ∃ i : SlotIx, (s.slot i).phase = .sounding ∧ (s.slot i).bank = some b) ∧
    (∀ i : SlotIx, ∀ b : BankIx, (s.slot i).bank = some b →
      (s.bank b).state = .live ∨ (s.bank b).state = .draining) ∧
    (∀ i : SlotIx, (s.slot i).phase = .unbound → (s.slot i).bank = none) ∧
    ∀ i : SlotIx, (s.slot i).phase ≠ .unbound → (s.slot i).phase ≠ .sounding →
      (s.slot i).bank = s.store.liveBank

/-! ### The voice pool -/

/-- The laws of one voice record (R102, R103, R106): an owner exactly while SOUNDING, the release timer
running exactly while RELEASING, and the dn states each pool state allows, at the voice's generation. -/
abbrev Voice.Ok (x : Voice) : Prop :=
  (x.owner.isSome = true ↔ x.phase = .sounding) ∧ (x.releaseTimer.isSome = true ↔ x.phase = .releasing) ∧
    (x.phase = .sounding → (x.dn = .pending ∨ x.dn = .opened) ∧ x.dnGeneration = x.generation) ∧
    (x.phase = .releasing → (x.dn = .opened ∨ x.dn = .tail) ∧ x.dnGeneration = x.generation) ∧
    (x.phase = .free → x.dn ≠ .pending)

/-- The age list holds each SOUNDING voice exactly once and nothing else, and the release list each RELEASING
voice (R104); every voice record obeys its laws. -/
abbrev State.PoolLaws (s : State) : Prop :=
  s.pool.ageList.Nodup ∧ s.pool.releaseList.Nodup ∧
    (∀ v : VoiceIx, v ∈ s.pool.ageList ↔ (s.voice v).phase = .sounding) ∧
    (∀ v : VoiceIx, v ∈ s.pool.releaseList ↔ (s.voice v).phase = .releasing) ∧
    ∀ v : VoiceIx, (s.voice v).Ok

/-- A SOUNDING voice is named in exactly one layer-list entry of exactly one slot, the entry of its owner slot
and owner layer, and no other voice is named in any layer list (R103). -/
abbrev State.LayersAgree (s : State) : Prop :=
  ∀ i : SlotIx, ∀ k : Fin 4, ∀ v : VoiceIx,
    (s.slot i).layers[k.val]? = some (some v) ↔
      ((s.voice v).owner.any fun o => o.slot == i && o.layer == k) = true

/-! ### The emission queue and the voice port -/

/-- The capacity of the queue (R128) and the range of the credit count (R134). -/
abbrev State.PortBounds (s : State) : Prop := s.port.queue.length ≤ 64 ∧ s.port.credit ≤ 255

/-- The stall timer runs exactly while the link is ATTACHED, a record waits and there is no credit (R135). -/
abbrev State.StallLaw (s : State) : Prop := s.port.stallTimer.isSome = s.port.stalled

/-- While DETACHED there is no credit (R134, R137). -/
abbrev State.DetachedLaw (s : State) : Prop := s.port.attached = false → s.port.credit = 0

/-- Every START in the queue belongs to a SOUNDING voice with dn PENDING at the START's generation, and a
voice has at most one (R126, R128). -/
abbrev State.StartsPending (s : State) : Prop :=
  (∀ r ∈ s.port.queue, r.isStart = true →
    ∀ v : VoiceIx, ∀ g, r.key = some (v, g) →
      (s.voice v).phase = .sounding ∧ (s.voice v).dn = .pending ∧ (s.voice v).dnGeneration = g) ∧
    ∀ v : VoiceIx, (s.port.queue.countP fun r => r.isStart && (r.key.map (·.1)) == some v) ≤ 1

/-- The record is a STOP of kind RELEASE, LOST or FLUSH: one that begins a tail (R118). -/
def VoiceRecord.isTailStop : VoiceRecord → Bool
  | .stop _ _ k => k != .cut
  | _ => false

/-- Every STOP of kind RELEASE, LOST or FLUSH in the queue belongs to a voice that is no longer SOUNDING, with dn
OPEN at the STOP's generation, and a voice has at most one (R118, R128). -/
abbrev State.StopsOpen (s : State) : Prop :=
  (∀ r ∈ s.port.queue, r.isTailStop = true →
    ∀ v : VoiceIx, ∀ g, r.key = some (v, g) →
      (s.voice v).phase ≠ .sounding ∧ (s.voice v).dn = .opened ∧ (s.voice v).dnGeneration = g) ∧
    ∀ v : VoiceIx, (s.port.queue.countP fun r => r.isTailStop && (r.key.map (·.1)) == some v) ≤ 1

/-- The START and STOP records that the queue holds for one voice, in order (R128). -/
def State.noteRecords (s : State) (v : VoiceIx) : List VoiceRecord :=
  s.port.queue.filter fun r => !r.isUpdate && r.key.map (·.1) == some v

/-- The START and STOP records that one voice can have queued (R128): none, a START, a STOP, a CUT followed by a
START, or a CUT alone. -/
def notesInOrder : List VoiceRecord → Bool
  | [] => true
  | [.start ..] => true
  | [.stop ..] => true
  | [.stop _ _ .cut, .start ..] => true
  | _ => false

/-- The records of R128, voice by voice: what the queue holds of a voice's START and STOP records is one of the five
cases, and a CUT is queued only for a voice with dn NONE or PENDING. -/
abbrev State.NotesInOrder (s : State) : Prop :=
  ∀ v : VoiceIx, notesInOrder (s.noteRecords v) = true ∧
    ∀ g, VoiceRecord.stop v g .cut ∈ s.port.queue → (s.voice v).dn = .none ∨ (s.voice v).dn = .pending

/-- Every LEVEL and RETUNE in the queue belongs to a SOUNDING voice at its current generation, whose START has been
sent, and a voice has at most one of each (R126). -/
abbrev State.UpdatesSounding (s : State) : Prop :=
  (∀ r ∈ s.port.queue, r.isUpdate = true →
    ∀ v : VoiceIx, ∀ g, r.key = some (v, g) →
      (s.voice v).phase = .sounding ∧ (s.voice v).generation = g ∧ (s.voice v).dn = .opened) ∧
    ∀ v : VoiceIx,
      (s.port.queue.countP fun r => r.isLevel && r.key.map (·.1) == some v) ≤ 1 ∧
        (s.port.queue.countP fun r => r.isRetune && r.key.map (·.1) == some v) ≤ 1

/-- A voice with dn PENDING has its START in the queue (R106). -/
abbrev State.PendingQueued (s : State) : Prop :=
  ∀ v : VoiceIx, (s.voice v).dn = .pending →
    ∃ r ∈ s.port.queue, (r.isStart && r.isFor v (s.voice v).dnGeneration) = true

/-- At most one ALL_STOP is queued, at the head, and none is owed while one is queued; one is owed only while
DETACHED (R136, R137, R140). -/
abbrev State.AllStopLaw (s : State) : Prop :=
  VoiceRecord.allStop ∉ s.port.queue.tail ∧
    (s.port.allStopOwed = true → VoiceRecord.allStop ∉ s.port.queue ∧ s.port.attached = false)

/-- While an ALL_STOP is queued or owed, every voice has dn NONE or PENDING, and the queue holds STARTs beside it and
nothing else (R128). -/
abbrev State.AllStopEnds (s : State) : Prop :=
  s.port.allStopOwed = true ∨ VoiceRecord.allStop ∈ s.port.queue →
    (∀ v : VoiceIx, (s.voice v).dn = .none ∨ (s.voice v).dn = .pending) ∧
      ∀ r ∈ s.port.queue, r = .allStop ∨ r.isStart = true

/-- The laws of what the queue holds (R126, R128, R140). -/
abbrev State.QueueLaws (s : State) : Prop :=
  s.NotesInOrder ∧ s.UpdatesSounding ∧ s.PendingQueued ∧ s.AllStopLaw ∧ s.AllStopEnds

/-- The values a record carries lie in their ranges: the pitch code of a START or RETUNE, the level of a START or LEVEL
and the velocity of a START (R58), and the channel and program of a START, which its layer record gives (R68). -/
def VoiceRecord.inRange : VoiceRecord → Bool
  | .start _ _ channel program pitch velocity value =>
    decide (channel ≤ 15) && decide (program ≤ 127) && decide (pitch ≤ 8191) &&
      (decide (1 ≤ velocity) && decide (velocity ≤ 127)) && decide (value ≤ 16383)
  | .retune _ _ pitch => decide (pitch ≤ 8191)
  | .level _ _ value => decide (value ≤ 16383)
  | .stop .. => true
  | .allStop => true

/-- Every record in the queue carries values within their ranges (R58), and so do the last queued pitch and level of
each voice (R102). -/
abbrev State.RecordRanges (s : State) : Prop :=
  (∀ r ∈ s.port.queue, r.inRange = true) ∧
    ∀ v : VoiceIx, (s.voice v).lastPitch ≤ 8191 ∧ (s.voice v).lastLevel ≤ 16383

/-! ### The receivers of the links -/

/-- The laws of a receiver and its link (R184): lock is held exactly after sixteen valid groups, and only on a link
that is up; a link stays up without lock for less than 256 symbol times; a packet is cut only on such a link, and
between commands none is arriving (log 16). -/
abbrev Receiver.Ok (r : Receiver) (up : Bool) : Prop :=
  (r.locked = true ↔ r.validGroups = 16) ∧ r.validGroups ≤ 16 ∧ (r.locked = true → up = true ∧ r.lockless = 0) ∧
    r.lockless ≤ 256 ∧ (up = true → r.lockless < 256) ∧ r.packet ≠ .inside ∧
    (r.packet = .cut → up = true ∧ r.locked = false)

/-- Both receivers obey their laws. -/
abbrev State.ReceiverLaws (s : State) : Prop :=
  s.receivers.collector.Ok s.collector.up ∧ s.receivers.voice.Ok s.port.attached

/-! ### The responder and the notice unit -/

/-- An upstream packet that is an immediate reply (R162). -/
def Upstream.isImmediate : Upstream → Bool
  | .immediate .. => true
  | _ => false

/-- At most four requests wait (R161), and none while the responder is idle. -/
abbrev State.RequestLaws (s : State) : Prop :=
  s.responder.requests.length ≤ 4 ∧ (s.responder.waiting = false → s.responder.requests = [])

/-- At most one immediate reply waits at a time (R162): there is one upstream while the responder waits for its reply
to be sent, and none while it is idle (R161). -/
abbrev State.ReplyLaw (s : State) : Prop :=
  s.collector.upstream.countP Upstream.isImmediate = if s.responder.waiting then 1 else 0

/-- The engine settings lie in the ranges of R163. -/
abbrev State.EngineRanges (s : State) : Prop :=
  let e := s.responder.engine
  (10 ≤ e.releaseTimeout ∧ e.releaseTimeout ≤ 5000) ∧ e.deadBand ≤ 255 ∧ (1 ≤ e.stallTime ∧ e.stallTime ≤ 255) ∧
    1 ≤ e.noticeInterval ∧ e.noticeInterval ≤ 255

/-- The collector port holds nothing and no request waits while its link is down (R162). -/
abbrev State.DownLaw (s : State) : Prop :=
  s.collector.up = false →
    s.collector.upstream = [] ∧ s.responder.requests = [] ∧ s.responder.waiting = false

/-- The notice line stands as R177 gives it. -/
abbrev State.LineLaw (s : State) : Prop := s.notices.lineLow = s.notices.line

/-- The laws of the latches (R174): a capture is held by its own latch, the repeat count stays within
0..255, and a clear latch counts nothing and is not new; a NOTICE is owed only while the interval timer
runs (R178). -/
abbrev State.LatchLaws (s : State) : Prop :=
  (∀ l : LatchIx, (s.notices.latches[l].first.all fun c => c.latch == l) = true ∧
    s.notices.latches[l].repeats ≤ 255 ∧
    (s.notices.latches[l].first = none →
      s.notices.latches[l].repeats = 0 ∧ s.notices.latches[l].isNew = false)) ∧
    (s.notices.owed = true → s.notices.timer ≠ none)

/-! ### What the certificates speak of -/

/-- The collector link is up and in lock and the responder idle with no request waiting: a request that arrives is
taken at once (R161, R184). -/
abbrev State.Ready (s : State) : Prop :=
  s.receives .collector = true ∧ s.responder.waiting = false ∧ s.responder.requests = []

/-- The state after a request taken in a ready state has been answered: the immediate reply stands behind the
packets that waited, and the responder waits for it to be sent (R160, R161, R162). -/
def State.answered (s : State) (id code : Byte) (st : Status) (payload : List Byte) : State :=
  { s with
    collector := { s.collector with upstream := s.collector.upstream ++ [.immediate id code st payload] }
    responder := { s.responder with waiting := true } }

/-- The same state with other requests waiting in the list and with receivers that stand otherwise. -/
def State.beside (s : State) (requests : List Request) (receivers : Receivers) : State :=
  { s with receivers := receivers, responder := { s.responder with requests := requests } }

/-- Numeric setting n of the table of R6, from profile = 0 to loss time = 15. -/
def Settings.value (st : Settings) : Nat → Int
  | 0 => st.profile
  | 1 => st.curve
  | 2 => st.zero
  | 3 => st.gain
  | 4 => st.onThreshold
  | 5 => st.offThreshold
  | 6 => st.velocityGain
  | 7 => st.confirmCount
  | 8 => st.priority
  | 9 => st.transpose
  | 10 => st.tune
  | 11 => st.rollerCenter
  | 12 => st.lipCenter
  | 13 => st.bendRange
  | 14 => st.slew
  | _ => st.lossTime

/-- The value the pending record holds for a deferred setting, if any (R8). -/
def PendingSettings.value (p : PendingSettings) : Nat → Option Int
  | 0 => p.profile.map fun x => (x : Int)
  | 9 => p.transpose
  | 11 => p.rollerCenter.map fun x => (x : Int)
  | _ => none

/-- A table entry that can be stored: its fields lie in their ranges (R27, R43, R61, R69). -/
def TableEntry.Storable : TableEntry → Prop
  | .profile _ => True
  | .curve pts => ∀ k : Fin 9, pts[k] ≤ 16383
  | .fingering f => f.Ok
  | .voicing v => v.Ok

/-- An entry as a bank stores it: a fingering with its pattern masked to its care set (R61, R146). -/
def TableEntry.stored : TableEntry → TableEntry
  | .fingering f => .fingering f.stored
  | e => e

/-- The kind of a table entry (R145). -/
def TableEntry.kind : TableEntry → TableKind
  | .profile _ => .profile
  | .curve _ => .curve
  | .fingering _ => .fingering
  | .voicing _ => .voicing

/-! ### What the certificates say of SENSE packets -/

/-- The canonical key set of a packet for slot context x under a bank (R25, R26): empty without a bank. -/
def State.keysIn (s : State) (x : Slot) (bank : Option BankIx) (p : Sense) : KeySet :=
  match bank with
  | some b => canonicalKeys (s.bank b).profiles[x.settings.profile] p.keyWord
  | none => 0

/-- What the lookup of a key set gives in a bank (R63, R65): no match without a bank. -/
def State.foundIn (s : State) (bank : Option BankIx) (ks : KeySet) : Option Resolution :=
  match bank with
  | some b => lookupSet (s.bank b).fingerings ks
  | none => none

/-- The expression value of a raw sample for slot context x under a bank (R40 to R43): 0 without a bank. -/
def State.expressionIn (s : State) (x : Slot) (bank : Option BankIx) (a : Nat) : Nat :=
  match bank with
  | some b => curveValue (s.bank b).curves[x.settings.curve] (scaledPressure x.settings a)
  | none => 0

/-- How a slot takes a packet that it accepts (R13, R14): as the first out of ABSENT, in order, or after a gap. -/
inductive Taking where
  | first
  | inOrder
  | afterGap
deriving DecidableEq, Repr

/-- How slot i takes packet p (R13, R14): not at all when p lies 128 or more ahead of the number it expects. -/
def State.taking (s : State) (i : SlotIx) (p : Sense) : Option Taking :=
  if (s.slot i).phase = .absent then some .first
  else
    match (s.slot i).expectedSeq with
    | none => none
    | some e =>
      if (p.sequence - e).toNat = 0 then some .inOrder
      else if (p.sequence - e).toNat ≤ 127 then some .afterGap
      else none

/-- Packet p is received on a link in lock, its last sample is `last`, and slot i takes it that way (R2, R3, R13,
R14). -/
abbrev State.Takes (s : State) (fields : List Byte) (p : Sense) (i : SlotIx) (way : Taking) (last : Nat) : Prop :=
  s.receives .collector = true ∧ readSense fields = some p ∧ s.route p.tag = some i ∧ s.taking i p = some way ∧
    p.samples.getLast? = some last

/-- The state in which slot i handles packet p from stage 2 on (R13, R14): after a gap GAP has been raised with both
numbers. A slot that leaves ABSENT is QUIET with q_prev 0 and no absent cause, in the bank that the switching rule
gives for entering QUIET (R147), and the drain has been tested (R148). -/
def State.takenAs (s : State) (i : SlotIx) (p : Sense) : Taking → State
  | .first =>
    State.drain (s.setSlot i
      { s.slot i with
        phase := .quiet, absentCause := none, qPrev := 0, bank := s.store.liveBank.or (s.slot i).bank })
  | .inOrder => s
  | .afterGap => s.raise (.gap i ((s.slot i).expectedSeq.getD 0) p.sequence)

/-- A slot context after the acceptance of a packet and the count of its run (R13, R14, R16, R30 to R32, R34): out of
ABSENT and after a gap the run restarts at 1. -/
def Slot.hears (x : Slot) (sequence : Byte) (way : Taking) (ks : KeySet) : Slot :=
  { x with
    expectedSeq := some (sequence + 1)
    lossTimer := some x.settings.lossTime
    candidate := ks
    runCount := if way = .inOrder ∧ ks = x.candidate then min 8 (x.runCount + 1) else 1 }

/-- The samples make no onset in QUIET (R78): while rearm is set, the first below the off threshold clears it, and
with rearm clear each stays below the on threshold. -/
def Settings.noOnset (st : Settings) : Bool → List Nat → Bool
  | _, [] => true
  | true, a :: as => st.noOnset (decide (st.offThreshold ≤ scaledPressure st a)) as
  | false, a :: as => decide (scaledPressure st a < st.onThreshold) && st.noOnset false as

/-- Every sample lies at or above the off threshold: in SOUNDING and STALLED such samples do nothing (R78). -/
def Settings.allHeld (st : Settings) (samples : List Nat) : Bool :=
  samples.all fun a => decide (st.offThreshold ≤ scaledPressure st a)

/-- Every sample lies below the on threshold. -/
def Settings.allLow (st : Settings) (samples : List Nat) : Bool :=
  samples.all fun a => decide (scaledPressure st a < st.onThreshold)

/-- The velocity of an onset whose scaled pressure is q after one of qPrev (R47). -/
def Settings.velocity (st : Settings) (q qPrev : Nat) : Nat :=
  (clamp 1 127 (((q : Int) - qPrev) * st.velocityGain / 64)).toNat

/-- The expression value of a raw sample for a packet (R40 to R43): 0 without a curve. -/
def Packet.expressionOf (pk : Packet) (a : Nat) : Nat :=
  match pk.curve with
  | some c => curveValue c (scaledPressure pk.settings a)
  | none => 0

/-- What the samples of a packet make of a note that sounds in m (R78, R85 to R88), where `out` is the packet's outcome,
`rest` the samples that are still to be tested and `last` the packet's last one. They hold the note, and stage 6
follows. Or one of them releases it: its voices are released with RELEASE in layer order, the slot is QUIET with an
empty layer list and pending settings applied, it reads the LIVE bank, its resolution is made afresh there, and the
drain is tested. Or a later one then starts a new note with the settings of the packet, from that resolution. -/
def State.SoundingCourses (m : State) (i : SlotIx) (pk : Packet) (rest : List Nat) (last : Nat)
    (out : Host.Outcome State Fault Refusal) : Prop :=
  let y := m.slot i
  let st := pk.settings
  let q := scaledPressure st
  let e := pk.expressionOf
  let live := m.store.liveBank.or y.bank
  let found := m.foundIn live y.confirmed
  let released := State.releaseLayers .release y.layers m
  let ended : Slot :=
    { y with
      phase := .quiet, settings := y.applyPending.settings, pendingSettings := none, bank := live, layers := []
      resolution := found }
  (st.allHeld rest = true → out = .next (State.perPacket (m.setSlot i { y with qPrev := q last }) i pk (e last))) ∧
    (∀ (before after : List Nat) (c : Nat), rest = before ++ c :: after → y.rearm = false →
      st.allHeld before = true → q c < st.offThreshold → st.allLow after = true →
      out = .next (State.drain (released.setSlot i { ended with qPrev := q last, outLevel := e last }))) ∧
    ∀ (before low after : List Nat) (c a : Nat) (r : Resolution),
      rest = before ++ c :: (low ++ a :: after) → y.rearm = false → st.allHeld before = true →
      q c < st.offThreshold → st.allLow low = true → st.onThreshold ≤ q a → st.allHeld after = true →
      found = some r →
      let prior := (low.getLast?.map q).getD (q c)
      let begun := State.drain (released.setSlot i
        { ended with qPrev := prior, onsetVelocity := st.velocity (q a) prior, outLevel := e a })
      out =
        .next (State.perPacket ((begun.startNote i pk r).modSlot i fun z => { z with qPrev := q last }) i pk (e last))

end Sys2Proof.Machine
end

