-- ==== Sys2Proof/WellFormed.lean ====
section
/-! DEFINITION. Which commands can come to the part: the bounds that the packet formats and the link criteria
set on their operands. -/

namespace Sys2Proof

open Sys2Proof.Machine

/-- The length byte bounds the field bytes of a packet (R183, R188). -/
def fieldsFit (fields : List Byte) : Bool := decide (fields.length ≤ 255)

/-- The argument bytes of a MANAGE request follow its id and its command code (R187). -/
def argsFit (args : List Byte) : Bool := decide (args.length ≤ 253)

/-- The command codes of R188. -/
def commandCodes : List Nat :=
  [0x01, 0x02, 0x03, 0x04, 0x10, 0x11, 0x12, 0x13, 0x14, 0x15, 0x20, 0x21, 0x22, 0x23, 0x24, 0x30, 0x31, 0x32]

/-- The last group read is a valid one, as the group that gives lock is (R184). -/
def endsInLock (readings : List Reading) : Bool := readings.getLast?.any fun x => x.group.isSome

/-- Some group is read: lock is lost at a group, and is absent while groups are read (R184). -/
def readsSome (readings : List Reading) : Bool := !readings.isEmpty

/-- A command can come to the part: packets are no longer than their length byte can say, an unknown command
has a code that names none (R159), a discarded packet fails an envelope check (R185), and the groups read can make
the link event (R184). -/
def Instr.wf : Instr → Bool
  | .powerOn => true
  | .sense fields => fieldsFit fields
  | .manage fields => fieldsFit fields
  | .replySent => true
  | .unknownCommand _ code args => argsFit args && !commandCodes.contains code.toNat
  | .status _ args => argsFit args
  | .clearNotices _ args => argsFit args
  | .setNotices _ args => argsFit args
  | .readCapture _ args => argsFit args
  | .bindSlot _ args => argsFit args
  | .unbindSlot _ args => argsFit args
  | .setSlot _ args => argsFit args
  | .readSlot _ args => argsFit args
  | .setEngine _ args => argsFit args
  | .readEngine _ args => argsFit args
  | .writeTable _ args => argsFit args
  | .readTable _ args => argsFit args
  | .copyLive _ args => argsFit args
  | .commit _ args => argsFit args
  | .abortWork _ args => argsFit args
  | .readVoices _ args => argsFit args
  | .panic _ args => argsFit args
  | .restart _ args => argsFit args
  | .lossTimerExpiry _ => true
  | .releaseTimerExpiry _ => true
  | .stallTimerExpiry => true
  | .noticeIntervalExpiry => true
  | .copyCompletion => true
  | .verificationCompletion => true
  | .transmission => true
  | .grant fields => fieldsFit fields
  | .freed fields => fieldsFit fields
  | .envelopeDiscard link bytes => (envelopeFault link bytes).isSome
  | .packetCut _ readings => readsSome readings
  | .collectorLinkUp readings => endsInLock readings
  | .collectorLinkDown readings => readsSome readings
  | .attachment readings => endsInLock readings
  | .detachment readings => readsSome readings
  | .upstreamPacketSent => true

end Sys2Proof
end

