-- ==== Sys2Proof/Certificates/Slice0/Obligations.lean ====
section
/-! DEFINITION. The statements for the provers, each a rule of the spec said of the model. A request command is
stated in a ready state (R161), where it is taken at once; what happens to it elsewhere is stated of the request
list. -/

open Sys2Proof Sys2Proof.Machine

/-! ### The machine -/

/-- One step runs the command at the front of the queue on the state with the queue's rest; on an empty queue the
part idles (the model's choice, log 1). -/
def Obligations.StepRunsFrontCommand : Prop :=
  ∀ (c : Instr) (cs : List Instr) (s : State),
    step { s with pending := c :: cs } = exec c { s with pending := cs } ∧
      step { s with pending := [] } = .next { s with pending := [] }

/-- Every command completes, whatever the state ("None of these stops the part", 10): there is a next state. That it
is so in states that no run reaches is the model's choice (log 18); so are that the commands that wait behind it are
left as they are, by POWER_ON too (log 21), and that the free values are only ever drawn forward (log 5). -/
def Obligations.EveryCommandCompletes : Prop :=
  ∀ (c : Instr) (s : State), ∃ t, exec c s = .next t ∧ t.pending = s.pending ∧ s.freeCount ≤ t.freeCount

/-- POWER_ON gives every state of the part its power-on value (R173, R22, R27, R43, R60, R68, R102, R104, R110,
R124, R143, R161, R163, R174 to R178, R184). The model's own fields stay as they are (log 21), the packet on
the voice link is none (log 23), and a receiver's counts start at 0 and its alignment at 0 (log 15). -/
def Obligations.PowerOnSetsPowerOnValues : Prop :=
  ∀ s : State, ∃ t, exec .powerOn s = .next t ∧
    (∀ link : Link, t.receiver link =
      { locked := false, alignment := 0, validGroups := 0, lockless := 0, packet := .none }) ∧
    (∀ i : SlotIx, t.slot i =
      { tag := none, phase := .unbound, absentCause := none, expectedSeq := none, lossTimer := none
        settings :=
          { profile := 0, curve := 0, zero := 0, gain := 256, onThreshold := 400, offThreshold := 300
            velocityGain := 8, confirmCount := 3, priority := 1, transpose := 0, tune := 0, rollerCenter := 4
            lipCenter := 512, bendRange := 128, slew := 16383, lossTime := 60 }
        pendingSettings := none, bank := none, candidate := 0, runCount := 0, confirmed := 0
        resolution := none, qPrev := 0, outLevel := 0, onsetVelocity := 1, rearm := false, layers := [] }) ∧
    (∀ v : VoiceIx, t.voice v =
      { phase := .free, owner := none, generation := 0, dn := .none, dnGeneration := 0, lastPitch := 0
        lastLevel := 0, pitchOwed := false, levelOwed := false, releaseTimer := none }) ∧
    t.pool.ageList = [] ∧ t.pool.releaseList = [] ∧ t.pool.rotation = 7 ∧
    t.port = { queue := [], credit := 0, attached := false, allStopOwed := false, stallTimer := none
               sending := none } ∧
    (∀ b : BankIx, (t.bank b).state = .empty ∧
      (∀ i : Fin 4, (∀ k : Fin 24, (t.bank b).profiles[i].map[k] = none) ∧ (t.bank b).profiles[i].inversion = 0) ∧
      (∀ (i : Fin 4) (k : Fin 9), (t.bank b).curves[i][k] = 0) ∧
      (∀ i : EntryIx, (t.bank b).fingerings[i] =
        { valid := false, care := 0, pattern := 0, note := 0, cent := 0, voicing := 0 }) ∧
      ∀ i : VoicingIx, (t.bank b).voicings[i] = { mode := .legato, fixedVelocity := 64, layers := [] }) ∧
    t.store.work = [] ∧
    t.responder =
      { requests := [], waiting := false
        engine := { stealMode := .fixed, releaseTimeout := 1500, deadBand := 16, stallTime := 20
                    noticeInterval := 10 } } ∧
    (∀ l : LatchIx, t.notices.latches[l] = { first := none, repeats := 0, lastMark := 0, isNew := false }) ∧
    t.notices.reportNumber = 0 ∧
    (∀ l : LatchIx, t.notices.lineEnable.getLsbD l = decide (l = 9 ∨ l = 10 ∨ l = 15)) ∧
    t.notices.packetEnable = t.notices.lineEnable ∧ t.notices.masterEnable = true ∧
    t.notices.timer = none ∧ t.notices.owed = false ∧ t.notices.lineLow = false ∧
    t.collector = { up := false, upstream := [] } ∧
    t.pending = s.pending ∧ t.freeCount = s.freeCount

/-- Every law that the certificates state of each step holds right after reset. -/
def Obligations.LawsHoldAtReset : Prop :=
  State.reset.SlotLaws ∧ State.reset.TagsDistinct ∧ State.reset.SlotRanges ∧ State.reset.RecordRanges ∧
    State.reset.EngineRanges ∧ State.reset.WorkLaws ∧
    State.reset.BankLaws ∧ State.reset.PoolLaws ∧ State.reset.LayersAgree ∧ State.reset.StartsPending ∧
    State.reset.StopsOpen ∧ State.reset.QueueLaws ∧ State.reset.PortBounds ∧ State.reset.StallLaw ∧
    State.reset.DetachedLaw ∧ State.reset.ReceiverLaws ∧ State.reset.RequestLaws ∧ State.reset.DownLaw ∧ State.reset.ReplyLaw ∧
    State.reset.LineLaw ∧ State.reset.LatchLaws

/-! ### Requests and replies (chapter 9) -/

/-- A request command is the MANAGE packet that carries its request id, its command code and its arguments, with
the codes of R188 (the rows' reading is the model's choice, log 2). -/
def Obligations.RequestRowsAreManagePackets : Prop :=
  ∀ (id code : Byte) (args : List Byte) (s : State),
    exec (.unknownCommand id code args) s = exec (.manage (id :: code :: args)) s ∧
    exec (.status id args) s = exec (.manage (id :: 0x01#8 :: args)) s ∧
    exec (.clearNotices id args) s = exec (.manage (id :: 0x02#8 :: args)) s ∧
    exec (.setNotices id args) s = exec (.manage (id :: 0x03#8 :: args)) s ∧
    exec (.readCapture id args) s = exec (.manage (id :: 0x04#8 :: args)) s ∧
    exec (.bindSlot id args) s = exec (.manage (id :: 0x10#8 :: args)) s ∧
    exec (.unbindSlot id args) s = exec (.manage (id :: 0x11#8 :: args)) s ∧
    exec (.setSlot id args) s = exec (.manage (id :: 0x12#8 :: args)) s ∧
    exec (.readSlot id args) s = exec (.manage (id :: 0x13#8 :: args)) s ∧
    exec (.setEngine id args) s = exec (.manage (id :: 0x14#8 :: args)) s ∧
    exec (.readEngine id args) s = exec (.manage (id :: 0x15#8 :: args)) s ∧
    exec (.writeTable id args) s = exec (.manage (id :: 0x20#8 :: args)) s ∧
    exec (.readTable id args) s = exec (.manage (id :: 0x21#8 :: args)) s ∧
    exec (.copyLive id args) s = exec (.manage (id :: 0x22#8 :: args)) s ∧
    exec (.commit id args) s = exec (.manage (id :: 0x23#8 :: args)) s ∧
    exec (.abortWork id args) s = exec (.manage (id :: 0x24#8 :: args)) s ∧
    exec (.readVoices id args) s = exec (.manage (id :: 0x30#8 :: args)) s ∧
    exec (.panic id args) s = exec (.manage (id :: 0x31#8 :: args)) s ∧
    exec (.restart id args) s = exec (.manage (id :: 0x32#8 :: args)) s

/-- A MANAGE packet (R159, R161): a body too short for an id and a code raises CORRUPT with reason CONTENT and the
collector link as origin; a request joins the list behind those that wait while the responder waits for its reply
to be sent; it is discarded without a trace when four wait. While the link is down or out of lock no packet is received
(R19, R184; the state stays as it is, log 16). -/
def Obligations.ManagePacketJoinsTheList : Prop :=
  ∀ (id code : Byte) (args fields : List Byte) (s : State),
    (s.receives .collector = false → exec (.manage fields) s = .next s) ∧
    (s.receives .collector = true → fields.length < 2 →
      exec (.manage fields) s = .next (s.raise (.corrupt .content .collector))) ∧
    (s.receives .collector = true → s.responder.waiting = true → s.responder.requests.length < 4 →
      exec (.manage (id :: code :: args)) s =
        .next { s with responder :=
          { s.responder with requests := s.responder.requests ++ [⟨id, code, args⟩] } }) ∧
    (s.receives .collector = true → 4 ≤ s.responder.requests.length →
      exec (.manage (id :: code :: args)) s = .next s)

/-- A request that is taken is answered by exactly one immediate reply, which carries its id and its code, and the
responder then waits for that reply to be sent (R160, R161). What carrying it out does is what its row does in a ready
state, and is the same for a request that has waited in the list: neither the requests that wait behind it nor the
receivers' lock is looked at or moved (R159, R161). -/
def Obligations.TakenRequestIsAnsweredOnce : Prop :=
  (∀ (id code : Byte) (args : List Byte) (s : State), s.Ready →
    exec (.manage (id :: code :: args)) s =
        .next (carryOut ⟨id, code, args⟩ { s with responder := { s.responder with waiting := true } }) ∧
      ∃ t before st payload after,
        exec (.manage (id :: code :: args)) s = .next t ∧
        t.collector.upstream = s.collector.upstream ++ before ++ [.immediate id code st payload] ++ after ∧
        (∀ p ∈ before ++ after, p.isImmediate = false) ∧
        t.responder.waiting = true ∧ t.responder.requests = []) ∧
  ∀ (r : Request) (s : State) (rs : List Request) (receivers : Receivers),
    carryOut r (s.beside rs receivers) = (carryOut r s).beside rs receivers

/-- The packet being sent upstream leaves when it has been sent, and nothing else does (R161, R162). REPLY_SENT makes
the responder idle, and the request that waits longest is then taken and carried out, as O7 says of every request;
UPSTREAM_PACKET_SENT is the same of a completion reply or a NOTICE, and moves nothing else. An event that does not fit
the head of the packets changes nothing (log 3). The bytes of a REPLY and of a NOTICE are those R187 lists, with the
codes of R160, R188 and R153 and all ones for what does not apply (R186, log 10), within the class byte, the length
byte and the check (R183; that the check covers the length byte is log 32's reading). A packet that is produced joins
those that wait, at their end, and is discarded while the link is down (R162). -/
def Obligations.UpstreamHeadLeaves : Prop :=
  (∀ (s : State) (p : Upstream) (rest : List Upstream),
    (s.collector.upstream = p :: rest → p.isImmediate = true → s.responder.requests = [] →
      exec .replySent s =
        .next { s with
          collector := { s.collector with upstream := rest }
          responder := { s.responder with waiting := false } }) ∧
    (∀ r rs, s.collector.upstream = p :: rest → p.isImmediate = true → s.responder.requests = r :: rs →
      exec .replySent s =
        .next (carryOut r
          { s with
            collector := { s.collector with upstream := rest }
            responder := { s.responder with requests := rs, waiting := true } })) ∧
    (s.collector.upstream = p :: rest → p.isImmediate = false →
      exec .replySent s = .next s ∧
        exec .upstreamPacketSent s = .next { s with collector := { s.collector with upstream := rest } }) ∧
    (s.collector.upstream = p :: rest → p.isImmediate = true → exec .upstreamPacketSent s = .next s) ∧
    (s.collector.upstream = [] → exec .replySent s = .next s ∧ exec .upstreamPacketSent s = .next s) ∧
    s.push p = { s with collector := s.collector.push p } ∧
    s.collector.push p =
      if s.collector.up then { s.collector with upstream := s.collector.upstream ++ [p] } else s.collector) ∧
  ∀ p : Upstream,
    let one := fun (n : Nat) => [BitVec.ofNat 8 n]
    let two := fun (n : Nat) => [BitVec.ofNat 8 (n / 256), BitVec.ofNat 8 n]
    let classCode := match p with
      | .notice .. => 0x32#8
      | _ => 0x31#8
    let fields := match p with
      | .immediate id code status payload =>
        [id, code, 0#8] ++
          (match status with
            | .ok => [0#8]
            | .clamped => [1#8]
            | .queued => [2#8]
            | .busy => [3#8]
            | .bankBusy => [4#8]
            | .badArg => [5#8]
            | .inUse => [6#8]
            | .noSuch => [7#8]
            | .unknown => [8#8]
            | .failed => [9#8]) ++ payload
      | .completion id kind bank reason =>
        [id,
          match kind with
          | .copyLive => 0x22#8
          | .commit => 0x23#8, 1#8] ++
          (match reason with
            | none => [0#8]
            | some _ => [9#8]) ++
          (match bank with
            | some b => one b
            | none => [0xFF#8]) ++
          (match reason with
            | none => [0xFF#8, 0xFF#8, 0xFF#8]
            | some .noStaging => [0#8, 0xFF#8, 0xFF#8]
            | some .noSource => [1#8, 0xFF#8, 0xFF#8]
            | some (.danglingVoicing entry) => [2#8] ++ two entry
            | some .emptyFingering => [3#8, 0xFF#8, 0xFF#8]
            | some .aborted => [4#8, 0xFF#8, 0xFF#8])
      | .notice report latchSet captures =>
        two report.toNat ++ two latchSet.toNat ++ one captures.length ++
          captures.flatMap fun c => one c.latch ++ c.bytes
    let covered := [classCode] ++ one fields.length ++ fields
    p.wire = covered ++ two (crc16 covered).toNat

/-- A code that names no command is answered UNKNOWN, and arguments that differ in number from what a command
demands are answered BAD_ARG; such a request changes nothing (R159, R160, R188). That the payload is empty is log 25's
reading. -/
def Obligations.MalformedRequestsAreRefused : Prop :=
  ∀ (id : Byte) (args : List Byte) (s : State), s.Ready →
    (∀ code, code.toNat ∉ commandCodes →
      exec (.unknownCommand id code args) s = .next (s.answered id code .unknown [])) ∧
    (args.length ≠ 0 →
      exec (.status id args) s = .next (s.answered id 0x01#8 .badArg []) ∧
      exec (.readEngine id args) s = .next (s.answered id 0x15#8 .badArg []) ∧
      exec (.copyLive id args) s = .next (s.answered id 0x22#8 .badArg []) ∧
      exec (.commit id args) s = .next (s.answered id 0x23#8 .badArg []) ∧
      exec (.abortWork id args) s = .next (s.answered id 0x24#8 .badArg []) ∧
      exec (.panic id args) s = .next (s.answered id 0x31#8 .badArg []) ∧
      exec (.restart id args) s = .next (s.answered id 0x32#8 .badArg [])) ∧
    (args.length ≠ 1 →
      exec (.readCapture id args) s = .next (s.answered id 0x04#8 .badArg []) ∧
      exec (.unbindSlot id args) s = .next (s.answered id 0x11#8 .badArg []) ∧
      exec (.readSlot id args) s = .next (s.answered id 0x13#8 .badArg [])) ∧
    (args.length ≠ 2 → exec (.readVoices id args) s = .next (s.answered id 0x30#8 .badArg [])) ∧
    (args.length ≠ 3 → exec (.bindSlot id args) s = .next (s.answered id 0x10#8 .badArg [])) ∧
    (args.length ≠ 4 →
      exec (.clearNotices id args) s = .next (s.answered id 0x02#8 .badArg []) ∧
      exec (.readTable id args) s = .next (s.answered id 0x21#8 .badArg [])) ∧
    (args.length ≠ 5 → exec (.setNotices id args) s = .next (s.answered id 0x03#8 .badArg [])) ∧
    (args.length < 3 →
      exec (.setSlot id args) s = .next (s.answered id 0x12#8 .badArg []) ∧
      exec (.writeTable id args) s = .next (s.answered id 0x20#8 .badArg [])) ∧
    exec (.setEngine id []) s = .next (s.answered id 0x14#8 .badArg []) ∧
    (∀ b m1 m0, args.length ≠ 2 * (List.range 16).countP (half m1 m0).getLsbD →
      exec (.setSlot id (b :: m1 :: m0 :: args)) s = .next (s.answered id 0x12#8 .badArg [])) ∧
    (∀ m : Byte, args.length ≠ 2 * (List.range 5).countP m.getLsbD ∨ 32 ≤ m.toNat →
      exec (.setEngine id (m :: args)) s = .next (s.answered id 0x14#8 .badArg []))

/-! ### Notices (chapter 10) -/

/-- An event is taken by its latch (R175, R176, R178). A clear latch is set with the event's capture; a set latch
counts a repeat up to 255; the last mark becomes the report number, and no other latch moves. A NOTICE becomes owed
only by a clear and packet-enabled latch under the master enable. It is marked owed while the interval timer runs.
While the timer is stopped it is produced at once: a packet with the next report number, the set latches and the
captures of the latches whose new flag is set joins the packets upstream, every new flag is cleared and the timer
starts. The notice line follows; nothing else moves. -/
def Obligations.RaisedEventIsLatched : Prop :=
  ∀ (s : State) (c : Capture),
    let n := s.notices
    let t := s.raise c
    let owes := n.latches[c.latch].first.isNone && n.masterEnable && n.packetEnable.getLsbD c.latch
    let after := fun (l : LatchIx) =>
      if l = c.latch then
        (match n.latches[l].first with
          | none => { first := some c, repeats := 0, lastMark := n.reportNumber, isNew := true }
          | some _ =>
            { n.latches[l] with
              repeats := min 255 (n.latches[l].repeats + 1), lastMark := n.reportNumber } : Latch)
      else n.latches[l]
    t = { s with notices := t.notices, collector := t.collector } ∧
    t.notices.lineEnable = n.lineEnable ∧ t.notices.packetEnable = n.packetEnable ∧
    t.notices.masterEnable = n.masterEnable ∧
    (t.notices.lineLow = true ↔ n.masterEnable = true ∧
      ∃ l : LatchIx, t.notices.latches[l].first ≠ none ∧ n.lineEnable.getLsbD l = true) ∧
    (owes = false ∨ n.timer ≠ none →
      (∀ l : LatchIx, t.notices.latches[l] = after l) ∧ t.notices.owed = (n.owed || owes) ∧
        t.notices.timer = n.timer ∧ t.notices.reportNumber = n.reportNumber ∧ t.collector = s.collector) ∧
    (owes = true → n.timer = none →
      (∀ l : LatchIx, t.notices.latches[l] = { after l with isNew := false }) ∧ t.notices.owed = n.owed ∧
        t.notices.timer = some s.responder.engine.noticeInterval ∧
        t.notices.reportNumber = n.reportNumber + 1 ∧
        ∃ latchSet captures,
          t.collector =
            (if s.collector.up then
              { s.collector with
                upstream := s.collector.upstream ++ [.notice (n.reportNumber + 1) latchSet captures] }
            else s.collector) ∧
          (∀ l : LatchIx, latchSet.getLsbD l = (after l).first.isSome) ∧
          captures.Perm
            ((List.finRange 16).filterMap fun l => if (after l).isNew then (after l).first else none))

/-- STATUS is a report: the report number advances, every new flag is cleared, and the reply carries the items of R166
in order. The codes of the items are R187's, counted in the order of R5, R143 and R166 (log 9), with the bytes of log
6 to log 8; the classes of the latches are those of R174, and of the long-work queue the head is the one that runs
(R149). -/
def Obligations.StatusReports : Prop :=
  ∀ (id : Byte) (s : State), s.Ready → ∃ latchSet worst,
    let bankCode := fun (b : BankIx) =>
      match (s.bank b).state with
      | .empty => 0#8
      | .staged => 1#8
      | .copying => 2#8
      | .verifying => 3#8
      | .live => 4#8
      | .draining => 5#8
    let operation := fun (w : Work) (running : Byte) =>
      [match w.kind with
        | .copyLive => 0#8
        | .commit => 1#8, w.id, running]
    exec (.status id []) s =
      .next (State.answered
        { s with notices :=
          { s.notices with
            reportNumber := s.notices.reportNumber + 1
            latches := Vector.ofFn fun l => { s.notices.latches[l] with isNew := false } } }
        id 0x01#8 .ok
        (halfBytes (s.notices.reportNumber + 1) ++ halfBytes latchSet ++ [worst] ++
          ((List.finRange 8).flatMap fun i =>
            [match (s.slot i).phase with
              | .unbound => 0#8
              | .absent => 1#8
              | .quiet => 2#8
              | .stalled => 3#8
              | .sounding => 4#8,
              match (s.slot i).absentCause with
              | some .bind => 0#8
              | some .timeout => 1#8
              | some .restart => 2#8
              | none => 0xFF#8]) ++
          [BitVec.ofNat 8 s.port.queue.length, BitVec.ofNat 8 s.port.credit,
            if s.port.attached then 1#8 else 0#8, if s.port.allStopOwed then 1#8 else 0#8,
            bankCode 0, bankCode 1,
            match s.store.liveBank with
            | some b => BitVec.ofNat 8 b
            | none => 0xFF#8] ++
          (match s.store.work with
            | [] => []
            | w :: ws => operation w 1#8 ++ ws.flatMap fun w' => operation w' 0#8))) ∧
    (∀ l : LatchIx, latchSet.getLsbD l = s.notices.latches[l].first.isSome) ∧
    worst =
      (if ∃ l : LatchIx, s.notices.latches[l].first.isSome = true ∧ (l = 9 ∨ l = 10 ∨ l = 15) then 0#8
        else if ∃ l : LatchIx, s.notices.latches[l].first.isSome = true ∧ (l = 4 ∨ l = 5 ∨ l = 6 ∨ l = 8) then 1#8
        else if ∃ l : LatchIx, s.notices.latches[l].first.isSome = true then 2#8
        else 0xFF#8)

/-- CLEAR_NOTICES takes each latch of its set by its state and its last mark (R179). -/
def Obligations.ClearNoticesAgainstMark : Prop :=
  ∀ (id m1 m0 l1 l0 : Byte) (s : State), s.Ready → ∃ n kept,
    exec (.clearNotices id [m1, m0, l1, l0]) s =
      .next (State.answered { s with notices := n } id 0x02#8 .ok (halfBytes kept)) ∧
    (∀ l : LatchIx,
      let was := s.notices.latches[l]
      let distance := (half m1 m0 - was.lastMark).toNat
      ((half l1 l0).getLsbD l = false ∨ was.first = none →
        n.latches[l] = was ∧ kept.getLsbD l = false) ∧
      ((half l1 l0).getLsbD l = true → was.first ≠ none → 1 ≤ distance ∧ distance ≤ 32767 →
        n.latches[l] = { first := none, repeats := 0, lastMark := was.lastMark, isNew := false } ∧
          kept.getLsbD l = false) ∧
      ((half l1 l0).getLsbD l = true → was.first ≠ none → ¬(1 ≤ distance ∧ distance ≤ 32767) →
        n.latches[l] = was ∧ kept.getLsbD l = true)) ∧
    (n.lineLow = true ↔ s.notices.masterEnable = true ∧
      ∃ l : LatchIx, n.latches[l].first ≠ none ∧ s.notices.lineEnable.getLsbD l = true) ∧
    n.reportNumber = s.notices.reportNumber ∧ n.lineEnable = s.notices.lineEnable ∧
    n.packetEnable = s.notices.packetEnable ∧ n.masterEnable = s.notices.masterEnable ∧
    n.timer = s.notices.timer ∧ n.owed = s.notices.owed

/-- SET_NOTICES writes both enable sets and the master enable whole, and the line is re-evaluated at once; a NOTICE
owed stays owed (R170, R177). A master byte other than 0 or 1 is refused (R188). -/
def Obligations.SetNoticesWritesEnables : Prop :=
  ∀ (id a1 a0 b1 b0 m : Byte) (s : State), s.Ready →
    (m.toNat ≤ 1 →
      exec (.setNotices id [a1, a0, b1, b0, m]) s =
        .next (State.answered
          { s with notices :=
            { s.notices with
              lineEnable := half a1 a0
              packetEnable := half b1 b0
              masterEnable := decide (m = 1#8)
              lineLow := decide (m = 1#8 ∧
                ∃ l : LatchIx, s.notices.latches[l].first.isSome = true ∧ (half a1 a0).getLsbD l = true) } }
          id 0x03#8 .ok [])) ∧
    (2 ≤ m.toNat → exec (.setNotices id [a1, a0, b1, b0, m]) s = .next (s.answered id 0x03#8 .badArg []))

/-- READ_CAPTURE reports a latch and changes nothing (R169, R187). The capture of each latch is the fields R187 lists
for it, the slot states counted in the order of R5 (log 9) and the byte for an ALL_STOP placed by log 6's choice, and
has its size. That a refusal's payload is empty is log 25's reading. -/
def Obligations.ReadCaptureReports : Prop :=
  let one := fun (n : Nat) => [BitVec.ofNat 8 n]
  let two := fun (n : Nat) => [BitVec.ofNat 8 (n / 256), BitVec.ofNat 8 n]
  (∀ (id b : Byte) (s : State), s.Ready →
    (∀ l : LatchIx, b.toNat = l.val →
      (∀ c, s.notices.latches[l].first = some c →
        exec (.readCapture id [b]) s =
          .next (s.answered id 0x04#8 .ok
            ([b, 1#8] ++ two s.notices.latches[l].lastMark.toNat ++ one s.notices.latches[l].repeats ++
              c.bytes))) ∧
      (s.notices.latches[l].first = none →
        exec (.readCapture id [b]) s =
          .next (s.answered id 0x04#8 .ok
            ([b, 0#8] ++ two s.notices.latches[l].lastMark.toNat ++ [0#8] ++
              List.replicate ([2, 2, 3, 3, 2, 4, 4, 3, 2, 1, 2, 2, 2, 4, 2, 5].getD l 0) 0xFF#8)))) ∧
    (15 < b.toNat → exec (.readCapture id [b]) s = .next (s.answered id 0x04#8 .badArg []))) ∧
  ∀ c : Capture,
    c.bytes.length = [2, 2, 3, 3, 2, 4, 4, 3, 2, 1, 2, 2, 2, 4, 2, 5].getD c.latch 0 ∧
    c.bytes = match c with
      | .corrupt reason origin =>
        (match reason with
          | .check => [0#8]
          | .length => [1#8]
          | .classByte => [2#8]
          | .content => [3#8]) ++
          (match origin with
            | .collector => [0#8]
            | .voice => [1#8])
      | .stray tag => two tag.toNat
      | .gap slot expected received => one slot ++ [expected, received]
      | .stale slot expected received => one slot ++ [expected, received]
      | .lost slot left =>
        one slot ++
          (match left with
            | .unbound => [0#8]
            | .absent => [1#8]
            | .quiet => [2#8]
            | .stalled => [3#8]
            | .sounding => [4#8])
      | .unmapped slot pattern =>
        one slot ++ one (pattern.toNat / 65536) ++ one (pattern.toNat / 256) ++ one pattern.toNat
      | .thin slot voicing granted wanted => one slot ++ one voicing ++ one granted ++ one wanted
      | .steal voice victim requester => one voice ++ one victim ++ one requester
      | .evict voice retune => one voice ++ one (if retune then 1 else 0)
      | .stall depth => one depth
      | .detach discarded flushed => one discarded ++ one flushed
      | .attach depth placed => one depth ++ one (if placed then 1 else 0)
      | .staleFreed voice generation => one voice ++ [generation]
      | .clamp slot layer value => one slot ++ one layer ++ two (value % 65536).toNat
      | .workDone kind bank =>
        (match kind with
          | .copyLive => [0#8]
          | .commit => [1#8]) ++ one bank
      | .workFail kind reason =>
        (match kind with
          | .copyLive => [0#8]
          | .commit => [1#8]) ++
          (match reason with
            | .noStaging => [0xFF#8, 0xFF#8, 0xFF#8, 0#8]
            | .noSource => [0xFF#8, 0xFF#8, 0xFF#8, 1#8]
            | .danglingVoicing entry => [2#8] ++ two entry ++ [2#8]
            | .emptyFingering => [2#8, 0xFF#8, 0xFF#8, 3#8]
            | .aborted => [0xFF#8, 0xFF#8, 0xFF#8, 4#8])

/-! ### Slots (chapter 1) -/

/-- BIND_SLOT is checked in the order of R10 and binds as R11 gives: an UNBOUND slot at once, a bound slot after the
full effect of an unbind, as O16 gives it. The bank in use follows the switching rule for entering ABSENT (R147), and
the drain is tested (R148). That a refusal's payload is empty is log 25's reading.

The drain test, here and wherever it is made (R148): a DRAINING bank that no slot has in use becomes STAGED with its
contents unchanged, and nothing else changes. -/
def Obligations.BindSlotBinds : Prop :=
  (∀ (id b t1 t0 : Byte) (s : State), s.Ready →
    (7 < b.toNat → exec (.bindSlot id [b, t1, t0]) s = .next (s.answered id 0x10#8 .badArg [])) ∧
    ∀ i : SlotIx, b.toNat = i.val →
      (half t1 t0 = 0#16 ∨ half t1 t0 = 65535#16 →
        exec (.bindSlot id [b, t1, t0]) s = .next (s.answered id 0x10#8 .badArg [])) ∧
      (half t1 t0 ≠ 0#16 → half t1 t0 ≠ 65535#16 →
        ((∃ j : SlotIx, j ≠ i ∧ (s.slot j).phase ≠ .unbound ∧ (s.slot j).tag = some (half t1 t0)) →
          exec (.bindSlot id [b, t1, t0]) s = .next (s.answered id 0x10#8 .inUse [])) ∧
        ((∀ j : SlotIx, j ≠ i → (s.slot j).phase ≠ .unbound → (s.slot j).tag ≠ some (half t1 t0)) →
          let u := if (s.slot i).phase = .unbound then s
            else State.drain ((State.releaseLayers .flush (s.slot i).layers s).setSlot i
              { tag := none, phase := .unbound, absentCause := none, expectedSeq := none, lossTimer := none
                settings := (s.slot i).applyPending.settings, pendingSettings := none, bank := none
                candidate := 0, runCount := 0, confirmed := 0, resolution := none, qPrev := 0, outLevel := 0
                onsetVelocity := 1, rearm := false, layers := [] })
          exec (.bindSlot id [b, t1, t0]) s =
            .next (State.answered
              (State.drain (u.setSlot i
                { u.slot i with
                  tag := some (half t1 t0), phase := .absent, absentCause := some .bind, expectedSeq := none
                  lossTimer := none, candidate := 0, confirmed := 0, runCount := 0, resolution := none
                  qPrev := 0, outLevel := 0, onsetVelocity := 1, rearm := false, layers := []
                  bank := u.store.liveBank.or (u.slot i).bank }))
              id 0x10#8 .ok [])))) ∧
  ∀ s : State,
    s.drain = { s with store := { s.store with banks := s.drain.store.banks } } ∧
    ∀ b : BankIx, s.drain.bank b =
      if (s.bank b).state = .draining ∧ ∀ i : SlotIx, (s.slot i).bank ≠ some b then
        { s.bank b with state := .staged }
      else s.bank b

/-- UNBIND_SLOT (R12): the slot's voices are released with FLUSH in layer order, every field of its context returns
to its unbound value but its settings, to which pending values are applied, and the drain is tested (R148). On an
UNBOUND slot it changes nothing.

To apply the pending record, here and wherever a slot leaves SOUNDING (R9): profile, transpose and roller center become
the value that the record holds for them, if it holds one, every other setting and every other field of the context
stays, and the record becomes absent. -/
def Obligations.UnbindSlotReleases : Prop :=
  (∀ (id b : Byte) (s : State), s.Ready →
    (7 < b.toNat → exec (.unbindSlot id [b]) s = .next (s.answered id 0x11#8 .badArg [])) ∧
    ∀ i : SlotIx, b.toNat = i.val →
      ((s.slot i).phase = .unbound → exec (.unbindSlot id [b]) s = .next (s.answered id 0x11#8 .ok [])) ∧
      ((s.slot i).phase ≠ .unbound →
        exec (.unbindSlot id [b]) s =
          .next (State.answered
            (State.drain ((State.releaseLayers .flush (s.slot i).layers s).setSlot i
              { tag := none, phase := .unbound, absentCause := none, expectedSeq := none, lossTimer := none
                settings := (s.slot i).applyPending.settings, pendingSettings := none, bank := none
                candidate := 0, runCount := 0, confirmed := 0, resolution := none, qPrev := 0, outLevel := 0
                onsetVelocity := 1, rearm := false, layers := [] }))
            id 0x11#8 .ok []))) ∧
  ∀ x : Slot,
    let y := x.applyPending
    (∀ n < 16, y.settings.value n =
      if n = 0 ∨ n = 9 ∨ n = 11 then (x.pendingSettings.bind (·.value n)).getD (x.settings.value n)
      else x.settings.value n) ∧
    y = { x with settings := y.settings, pendingSettings := none }

/-- SET_SLOT (R7, R8, R188): a slot number above 7 is refused BAD_ARG and nothing changes. Else the two-byte values that
follow the mask belong to the bits set in it, in bit order, transpose and tune signed. Each setting named is written
clamped to its range of R6, a deferred one into the pending record while the slot is SOUNDING; the off threshold is
checked last against the on threshold that then holds; the reply is CLAMPED when a value written differs from the value
named or the off threshold was brought down, else OK. Nothing else changes. That a refusal's payload is empty is log
25's reading. -/
def Obligations.SetSlotWritesSettings : Prop :=
  ∀ (id b m1 m0 : Byte) (vs : List Byte) (s : State), s.Ready →
    (7 < b.toNat → exec (.setSlot id (b :: m1 :: m0 :: vs)) s = .next (s.answered id 0x12#8 .badArg [])) ∧
    ∀ i : SlotIx,
    b.toNat = i.val → vs.length = 2 * (List.range 16).countP (half m1 m0).getLsbD →
    1 ≤ (s.slot i).settings.onThreshold →
    let old := (s.slot i).settings
    let named := (half m1 m0).getLsbD
    let value := fun (n : Nat) =>
      let k := (List.range n).countP named
      let h := (half (vs.getD (2 * k) 0) (vs.getD (2 * k + 1) 0)).toNat
      if (n = 9 ∨ n = 10) ∧ 32768 ≤ h then (h : Int) - 65536 else h
    let lowest : List Int := [0, 0, 0, 0, 1, 0, 0, 1, 0, -24, -64, 0, 0, 0, 1, 5]
    let highest : List Int := [3, 3, 4095, 1023, 4095, 4094, 255, 8, 3, 24, 63, 7, 1023, 768, 16383, 1000]
    let written := fun (n : Nat) => max (lowest.getD n 0) (min (highest.getD n 0) (value n))
    let deferred := fun (n : Nat) => (n = 0 ∨ n = 9 ∨ n = 11) ∧ (s.slot i).phase = .sounding
    ∃ settings pending st,
      exec (.setSlot id (b :: m1 :: m0 :: vs)) s =
        .next (State.answered
          (s.setSlot i { s.slot i with settings := settings, pendingSettings := pending }) id 0x12#8 st []) ∧
      (∀ n < 16, n ≠ 5 →
        settings.value n = if named n = true ∧ ¬deferred n then written n else old.value n) ∧
      (let off := if named 5 then written 5 else old.value 5
      settings.value 5 =
        (if (named 4 = true ∨ named 5 = true) ∧ settings.value 4 ≤ off then settings.value 4 - 1 else off) ∧
      (∀ n, n = 0 ∨ n = 9 ∨ n = 11 →
        pending.bind (·.value n) =
          if named n = true ∧ deferred n then some (written n)
          else (s.slot i).pendingSettings.bind (·.value n)) ∧
      (st = .clamped ∨ st = .ok) ∧
      (st = .clamped ↔ (∃ n < 16, named n = true ∧ written n ≠ value n) ∨ settings.value 5 ≠ off))

/-- SET_ENGINE (R164, R188): the two-byte values that follow the mask belong to the bits set in it, in bit
order. Each numeric setting named is written clamped to its range in R163, the steal mode by its code; a code that names
no mode refuses the request whole. The reply is CLAMPED when a value written differs from the value named. -/
def Obligations.SetEngineWritesSettings : Prop :=
  ∀ (id m : Byte) (vs : List Byte) (s : State), s.Ready →
    m.toNat < 32 → vs.length = 2 * (List.range 5).countP m.getLsbD →
    let named := m.getLsbD
    let value := fun (n : Nat) =>
      let k := (List.range n).countP m.getLsbD
      (half (vs.getD (2 * k) 0) (vs.getD (2 * k + 1) 0)).toNat
    let old := s.responder.engine
    (named 0 = true → 1 < value 0 →
      exec (.setEngine id (m :: vs)) s = .next (s.answered id 0x14#8 .badArg [])) ∧
    ((named 0 = true → value 0 ≤ 1) → ∃ e st,
      exec (.setEngine id (m :: vs)) s = .next ((s.setEngine e).answered id 0x14#8 st []) ∧
      e.stealMode = (if named 0 then (if value 0 = 0 then .fixed else .rotating) else old.stealMode) ∧
      e.releaseTimeout = (if named 1 then min 5000 (max 10 (value 1)) else old.releaseTimeout) ∧
      e.deadBand = (if named 2 then min 255 (value 2) else old.deadBand) ∧
      e.stallTime = (if named 3 then min 255 (max 1 (value 3)) else old.stallTime) ∧
      e.noticeInterval = (if named 4 then min 255 (max 1 (value 4)) else old.noticeInterval) ∧
      (st = .clamped ∨ st = .ok) ∧
      (st = .clamped ↔
        (named 1 = true ∧ e.releaseTimeout ≠ value 1) ∨ (named 2 = true ∧ e.deadBand ≠ value 2) ∨
          (named 3 = true ∧ e.stallTime ≠ value 3) ∨ (named 4 = true ∧ e.noticeInterval ≠ value 4)))

/-- READ_ENGINE reports the five engine settings and the rotation pointer, and SET_ENGINE leaves the pointer as it
stands (R165). -/
def Obligations.ReadEngineReports : Prop :=
  ∀ (id : Byte) (s : State), s.Ready →
    (let e := s.responder.engine
    exec (.readEngine id []) s =
      .next (s.answered id 0x15#8 .ok
        ([match e.stealMode with
          | .fixed => 0#8
          | .rotating => 1#8] ++
          halfBytes (BitVec.ofNat 16 e.releaseTimeout) ++
          [BitVec.ofNat 8 e.deadBand, BitVec.ofNat 8 e.stallTime, BitVec.ofNat 8 e.noticeInterval,
            BitVec.ofNat 8 s.pool.rotation]))) ∧
    ∀ args t, exec (.setEngine id args) s = .next t → t.pool.rotation = s.pool.rotation

/-- READ_SLOT reports the whole context of the slot named, item by item in the order of R23, and changes nothing. The
codes are R187's, counted in the order R5 lists the values; the presence bytes are R186's; the bytes that R23 leaves
open are log 6's (a yes or no), log 7's (how the layer list is given) and log 9's (the slot states' order), and an empty
payload of a refusal log 25's. -/
def Obligations.ReadSlotReports : Prop :=
  ∀ (id b : Byte) (s : State), s.Ready →
    (7 < b.toNat → exec (.readSlot id [b]) s = .next (s.answered id 0x13#8 .badArg [])) ∧
    ∀ i : SlotIx, b.toNat = i.val →
      let x := s.slot i
      let st := x.settings
      let one := fun (n : Nat) => [BitVec.ofNat 8 n]
      let two := fun (n : Nat) => [BitVec.ofNat 8 (n / 256), BitVec.ofNat 8 n]
      let signed := fun (v : Int) => two (v % 65536).toNat
      let keys := fun (ks : KeySet) => one (ks.toNat / 65536) ++ one (ks.toNat / 256) ++ one ks.toNat
      exec (.readSlot id [b]) s =
        .next (s.answered id 0x13#8 .ok
          ((match x.tag with
            | some tag => two tag.toNat
            | none => [0xFF#8, 0xFF#8]) ++
          (match x.phase with
            | .unbound => [0#8]
            | .absent => [1#8]
            | .quiet => [2#8]
            | .stalled => [3#8]
            | .sounding => [4#8]) ++
          (match x.absentCause with
            | some .bind => [0#8]
            | some .timeout => [1#8]
            | some .restart => [2#8]
            | none => [0xFF#8]) ++
          (match x.expectedSeq with
            | some sequence => [1#8, sequence]
            | none => [0#8, 0#8]) ++
          one (if x.lossTimer = none then 0 else 1) ++
          (one st.profile ++ one st.curve ++ two st.zero ++ two st.gain ++ two st.onThreshold ++
            two st.offThreshold ++ one st.velocityGain ++ one st.confirmCount ++ one st.priority ++
            signed st.transpose ++ signed st.tune ++ one st.rollerCenter ++ two st.lipCenter ++
            two st.bendRange ++ two st.slew ++ two st.lossTime) ++
          (match x.pendingSettings.bind (·.profile) with
            | some profile => [1#8] ++ one profile
            | none => [0#8, 0#8]) ++
          (match x.pendingSettings.bind (·.transpose) with
            | some transpose => [1#8] ++ signed transpose
            | none => [0#8, 0#8, 0#8]) ++
          (match x.pendingSettings.bind (·.rollerCenter) with
            | some center => [1#8] ++ one center
            | none => [0#8, 0#8]) ++
          (match x.bank with
            | some bank => one bank
            | none => [0xFF#8]) ++
          keys x.candidate ++ one x.runCount ++ keys x.confirmed ++
          (match x.resolution with
            | some r => [1#8] ++ one r.entry ++ one r.note ++ signed r.cent ++ one r.voicing
            | none => [0#8, 0#8, 0#8, 0#8, 0#8, 0#8]) ++
          two x.qPrev ++ two x.outLevel ++ one x.onsetVelocity ++ one (if x.rearm then 1 else 0) ++
          x.layers.flatMap fun entry =>
            match entry with
            | some voice => one voice
            | none => [0xFF#8]))

/-- READ_VOICES reports so many consecutive voice records, in voice order, each item by item in the order of R123, or
is refused whole; it changes nothing (R168). The bytes of a record that R123 leaves open are log 6's and log 28's
choice, the codes of the voice and dn states are counted in the order of R102 (log 9), and an empty payload of a
refusal is log 25's. -/
def Obligations.ReadVoicesReports : Prop :=
  ∀ (id f n : Byte) (s : State), s.Ready →
    (n.toNat = 0 ∨ 8 < n.toNat → exec (.readVoices id [f, n]) s = .next (s.answered id 0x30#8 .badArg [])) ∧
    (1 ≤ n.toNat → n.toNat ≤ 8 → 31 < f.toNat ∨ 31 < f.toNat + n.toNat - 1 →
      exec (.readVoices id [f, n]) s = .next (s.answered id 0x30#8 .noSuch [])) ∧
    ∀ vs : List VoiceIx, 1 ≤ n.toNat → n.toNat ≤ 8 →
      vs.map (·.val) = List.range' f.toNat n.toNat →
      let one := fun (n : Nat) => [BitVec.ofNat 8 n]
      let two := fun (n : Nat) => [BitVec.ofNat 8 (n / 256), BitVec.ofNat 8 n]
      exec (.readVoices id [f, n]) s =
        .next (s.answered id 0x30#8 .ok (vs.flatMap fun v =>
          let x := s.voice v
          one v ++
          (match x.phase with
            | .free => [0#8]
            | .sounding => [1#8]
            | .releasing => [2#8]) ++
          (match x.owner with
            | some o => one o.slot ++ one o.layer ++ one o.priority
            | none => [0xFF#8, 0xFF#8, 0xFF#8]) ++
          [x.generation] ++
          (match x.dn with
            | .none => [0#8]
            | .pending => [1#8]
            | .opened => [2#8]
            | .tail => [3#8]) ++
          [x.dnGeneration] ++ two x.lastPitch ++ two x.lastLevel ++
          one (if x.pitchOwed then 1 else 0) ++ one (if x.levelOwed then 1 else 0) ++
          one (if x.releaseTimer = none then 0 else 1) ++
          (match x.phase with
            | .sounding =>
              (match s.pool.ageList.idxOf? v with
                | some k => one k
                | none => [0xFF#8])
            | .releasing =>
              (match s.pool.releaseList.idxOf? v with
                | some k => one k
                | none => [0xFF#8])
            | .free => [0xFF#8])))

/-! ### Tables and long work (chapter 8) -/

/-- READ_TABLE is checked in the order of R167 and reports the entries as the bank stores them, in any state of the
bank, each in the encoding of R188. A COPYING bank reads back with the part copied so far, of which the model draws a
free amount (log 5) and whose entries O28 gives. That a refusal's payload is empty is log 25's reading. -/
def Obligations.ReadTableReports : Prop :=
  (∀ (id b kb i n : Byte) (s : State), s.Ready →
    (1 < b.toNat ∨ 3 < kb.toNat ∨ n.toNat = 0 ∨ 16 < n.toNat ∨ (kb.toNat = 3 ∧ 10 < n.toNat) →
      exec (.readTable id [b, kb, i, n]) s = .next (s.answered id 0x21#8 .badArg [])) ∧
    ∀ (bank : BankIx) (k : TableKind), b.toNat = bank.val →
      kb.toNat =
        (match k with
          | .profile => 0
          | .curve => 1
          | .fingering => 2
          | .voicing => 3) →
      1 ≤ n.toNat → n.toNat ≤ 16 → (k = .voicing → n.toNat ≤ 10) →
      let lastIndex :=
        match k with
        | .profile => 3
        | .curve => 3
        | .fingering => 255
        | .voicing => 63
      (lastIndex < i.toNat ∨ lastIndex < i.toNat + n.toNat - 1 →
        exec (.readTable id [b, kb, i, n]) s = .next (s.answered id 0x21#8 .noSuch [])) ∧
      (i.toNat + n.toNat - 1 ≤ lastIndex →
        let u := if (s.bank bank).state = .copying then s.advanceCopy else s
        ∃ es : List TableEntry, exec (.readTable id [b, kb, i, n]) s =
            .next (u.answered id 0x21#8 .ok (es.flatMap TableEntry.bytes)) ∧
          es.length = n.toNat ∧ ∀ j < n.toNat, es[j]? = (u.bank bank).readEntry k (i.toNat + j))) ∧
  (∀ (s : State) (b l : BankIx), s.store.workBank = some b → (s.bank b).state = .copying →
    s.store.liveBank = some l → ∃ n, n ≤ 328 ∧ min 328 s.store.copied ≤ n ∧
      s.advanceCopy =
        { s with
          store :=
            { s.store with banks := s.store.banks.set b (copyPart n (s.bank l) (s.bank b)), copied := n }
          freeCount := s.freeCount + 1 }) ∧
  (∀ (b : Bank) (i : Nat),
    b.readEntry .profile i = b.profiles[i]?.map .profile ∧ b.readEntry .curve i = b.curves[i]?.map .curve ∧
    b.readEntry .fingering i = b.fingerings[i]?.map .fingering ∧
    b.readEntry .voicing i = b.voicings[i]?.map .voicing) ∧
  ∀ e : TableEntry,
    let one := fun (n : Nat) => [BitVec.ofNat 8 n]
    let keys := fun (ks : KeySet) => one (ks.toNat / 65536) ++ one (ks.toNat / 256) ++ one ks.toNat
    e.bytes = match e with
      | .profile pr =>
        ((List.finRange 24).map fun k =>
          match pr.map[k] with
          | some key => BitVec.ofNat 8 key
          | none => 0xFF#8) ++ keys pr.inversion
      | .curve pts => (List.finRange 9).flatMap fun k => one (pts[k] / 256) ++ one pts[k]
      | .fingering f =>
        one (if f.valid then 1 else 0) ++ keys f.care ++ keys f.pattern ++ one f.note ++
          one (f.cent % 256).toNat ++ one f.voicing
      | .voicing v =>
        one v.layers.length ++
          (match v.mode with
            | .legato => [0#8]
            | .retrigger => [1#8]) ++ one v.fixedVelocity ++
          v.layers.flatMap fun l =>
            one (l.interval % 256).toNat ++ one l.program ++ one l.channel ++ one l.trim ++
              one (if l.follow then 1 else 0)

/-- WRITE_TABLE is checked in the order of R145; an accepted write replaces the named entries of the staging bank
whole, in index order, keeps every other entry, and makes an EMPTY bank STAGED (R146). The first check accepts exactly
the arguments that name a kind, one to sixteen entries within the table and, in R188's encoding, so many entries whose
fields lie within their ranges; of a fingering entry's flags byte only bit 0 is read, and its pattern may hold keys
outside the care set, which are masked away (R61).

The staging bank is found from the bank states (R144): bank 0 while no bank is LIVE, else the bank that is neither LIVE
nor DRAINING, and none while there is no such bank. The LIVE bank and the bank that long work runs on are the banks in
those states (R143, R149). -/
def Obligations.WriteTableWritesStagingBank : Prop :=
  (∀ (id : Byte) (args : List Byte) (s : State), s.Ready →
    (readTableWrite args = none →
      exec (.writeTable id args) s = .next (s.answered id 0x20#8 .badArg [])) ∧
    ∀ w, readTableWrite args = some w →
      (s.store.stagingBank = none → exec (.writeTable id args) s = .next (s.answered id 0x20#8 .bankBusy [])) ∧
      (s.store.stagingBank ≠ none → s.store.work ≠ [] →
        exec (.writeTable id args) s = .next (s.answered id 0x20#8 .busy [])) ∧
      ∀ b, s.store.stagingBank = some b → s.store.work = [] → ∃ x,
        exec (.writeTable id args) s = .next ((s.setBank b x).answered id 0x20#8 .ok []) ∧
        x.state = (if (s.bank b).state = .empty then .staged else (s.bank b).state) ∧
        (∀ j < w.entries.length, x.readEntry w.kind (w.first + j) = (w.entries[j]?).map TableEntry.stored) ∧
        (∀ k j, k ≠ w.kind ∨ j < w.first ∨ w.first + w.entries.length ≤ j →
          x.readEntry k j = (s.bank b).readEntry k j)) ∧
  (∀ (args : List Byte) (w : TableWrite),
    readTableWrite args = some w ↔ ∃ kb ib nb flags,
      args = kb :: ib :: nb :: ((w.entries.zip flags).flatMap fun ef =>
        match ef.1 with
        | .fingering f => ef.2 :: (TableEntry.bytes (.fingering f)).drop 1
        | e => e.bytes) ∧
      flags.length = w.entries.length ∧
      kb.toNat =
        (match w.kind with
          | .profile => 0
          | .curve => 1
          | .fingering => 2
          | .voicing => 3) ∧
      ib.toNat = w.first ∧ nb.toNat = w.entries.length ∧ 1 ≤ w.entries.length ∧ w.entries.length ≤ 16 ∧
      w.first + w.entries.length - 1 ≤
        (match w.kind with
          | .profile => 3
          | .curve => 3
          | .fingering => 255
          | .voicing => 63) ∧
      ∀ ef ∈ w.entries.zip flags, ef.1.kind = w.kind ∧ ef.1.stored.Storable ∧
        ∀ f, ef.1 = .fingering f → ef.2.getLsbD 0 = f.valid) ∧
  ∀ s : State,
    ((∀ b : BankIx, (s.bank b).state ≠ .live) → s.store.stagingBank = some 0) ∧
    ((∃ b : BankIx, (s.bank b).state = .live) → ∀ b : BankIx,
      s.store.stagingBank = some b ↔ (s.bank b).state ≠ .live ∧ (s.bank b).state ≠ .draining) ∧
    (s.store.liveBank = none ↔ ∀ b : BankIx, (s.bank b).state ≠ .live) ∧
    (s.store.workBank = none ↔ ∀ b : BankIx, (s.bank b).state ≠ .copying ∧ (s.bank b).state ≠ .verifying) ∧
    ∀ b : BankIx,
      (s.store.liveBank = some b → (s.bank b).state = .live) ∧
      (s.store.workBank = some b → (s.bank b).state = .copying ∨ (s.bank b).state = .verifying)

/-- COPY_LIVE and COMMIT (R149 to R151, R153): refused BANK_BUSY without a staging bank, BUSY with two operations
queued; answered QUEUED and queued behind a running operation; with an empty queue answered QUEUED and started at
once, so that the staging bank becomes COPYING or VERIFYING, or the operation fails at its start with its completion
reply and WORK_FAIL. The bank named by a completion reply that fails is log 10's reading, the order of
that reply and the NOTICE of its latch log 14's. -/
def Obligations.LongWorkIsQueued : Prop :=
  ∀ (id : Byte) (s : State), s.Ready →
    (s.store.stagingBank = none →
      exec (.copyLive id []) s = .next (s.answered id 0x22#8 .bankBusy []) ∧
      exec (.commit id []) s = .next (s.answered id 0x23#8 .bankBusy [])) ∧
    ∀ b, s.store.stagingBank = some b →
      (2 ≤ s.store.work.length →
        exec (.copyLive id []) s = .next (s.answered id 0x22#8 .busy []) ∧
        exec (.commit id []) s = .next (s.answered id 0x23#8 .busy [])) ∧
      (s.store.work.length = 1 →
        exec (.copyLive id []) s =
          .next ((s.setWork (s.store.work ++ [⟨.copyLive, id⟩])).answered id 0x22#8 .queued []) ∧
        exec (.commit id []) s =
          .next ((s.setWork (s.store.work ++ [⟨.commit, id⟩])).answered id 0x23#8 .queued [])) ∧
      (s.store.work = [] → s.store.liveBank ≠ none →
        exec (.copyLive id []) s =
          .next (State.answered
            { s with store :=
              { s.store with
                banks := s.store.banks.set b { s.bank b with state := .copying }
                work := [⟨.copyLive, id⟩]
                copied := 0 } }
            id 0x22#8 .queued [])) ∧
      (s.store.work = [] → s.store.liveBank = none →
        exec (.copyLive id []) s =
          .next (State.raise
            (State.push (s.answered id 0x22#8 .queued []) (.completion id .copyLive (some b) (some .noSource)))
            (.workFail .copyLive .noSource))) ∧
      (s.store.work = [] → (s.bank b).state ≠ .empty →
        exec (.commit id []) s =
          .next (State.answered
            { s with store :=
              { s.store with
                banks := s.store.banks.set b { s.bank b with state := .verifying }
                work := [⟨.commit, id⟩]
                copied := 0 } }
            id 0x23#8 .queued [])) ∧
      (s.store.work = [] → (s.bank b).state = .empty →
        exec (.commit id []) s =
          .next (State.raise
            (State.push (s.answered id 0x23#8 .queued []) (.completion id .commit none (some .noStaging)))
            (.workFail .commit .noStaging)))

/-- COPY_COMPLETION (R150, R153, R149): the COPYING bank holds the LIVE bank's contents entry for entry and is
STAGED, or is taken up at once by the operation that waits; the completion is answered OK on its bank, and WORK_DONE
is raised, in log 14's order: a clear latch is set with COPY_LIVE and the bank as its capture, and the other latches
and the enables stay. Slots, voices and the queue are not touched. -/
def Obligations.CopyCompletionFillsBank : Prop :=
  ∀ (s : State) (w : Work) (ws : List Work) (b l : BankIx),
    s.store.work = w :: ws → w.kind = .copyLive → s.store.workBank = some b → s.store.liveBank = some l →
    ∃ t ps, exec .copyCompletion s = .next t ∧
      t.bank b =
        { s.bank l with
          state := match ws with
            | [] => .staged
            | w' :: _ => match w'.kind with
              | .copyLive => .copying
              | .commit => .verifying } ∧
      t.bank l = s.bank l ∧ t.store.work = ws ∧
      (s.collector.up = true →
        t.collector.upstream = s.collector.upstream ++ .completion w.id .copyLive (some b) none :: ps) ∧
      (∀ p ∈ ps, ∃ n ls cs, p = .notice n ls cs) ∧
      t.notices.latches[14].first.isSome = true ∧
      (s.notices.latches[14].first = none → t.notices.latches[14].first = some (.workDone .copyLive b)) ∧
      (∀ l : LatchIx, l ≠ 14 → t.notices.latches[l].first = s.notices.latches[l].first) ∧
      t.notices.lineEnable = s.notices.lineEnable ∧ t.notices.packetEnable = s.notices.packetEnable ∧
      t.notices.masterEnable = s.notices.masterEnable ∧
      t.notices = (s.raise (.workDone .copyLive b)).notices ∧
      t.slots = s.slots ∧ t.pool = s.pool ∧ t.port = s.port ∧ t.responder = s.responder ∧
      t.receivers = s.receivers ∧ t.collector.up = s.collector.up ∧ t.freeCount = s.freeCount

/-- VERIFICATION_COMPLETION of a bank that fails (R151, R153): the verdict is the lowest dangling entry, or
EMPTY_FINGERING with no valid entry; the bank becomes STAGED with its contents unchanged, the completion is answered
FAILED on it, and WORK_FAIL is raised, in log 14's order. An operation that waits starts at once on the same bank
(R149): a COMMIT, or a COPY_LIVE beside a LIVE bank, runs there; a COPY_LIVE without one fails with NO_SOURCE (the bank
its reply names is log 10's reading). -/
def Obligations.FailedVerificationStages : Prop :=
  ∀ (s : State) (w : Work) (ws : List Work) (b : BankIx) (r : FailReason),
    s.store.work = w :: ws → w.kind = .commit → s.store.workBank = some b →
    ((∃ i : EntryIx, r = .danglingVoicing i ∧ (s.bank b).fingerings[i].valid = true ∧
        (s.bank b).voicings[(s.bank b).fingerings[i].voicing].layers = [] ∧
        ∀ j : EntryIx, j < i → (s.bank b).fingerings[j].valid = true →
          (s.bank b).voicings[(s.bank b).fingerings[j].voicing].layers ≠ []) ∨
      (r = .emptyFingering ∧ ∀ i : EntryIx, (s.bank b).fingerings[i].valid = false)) →
    let failed := State.raise
      (State.push ((s.setWork []).setBankState b .staged) (.completion w.id .commit (some b) (some r)))
      (.workFail .commit r)
    (ws = [] → exec .verificationCompletion s = .next failed) ∧
    ∀ w2 : Work, ws = [w2] → s.store.stagingBank = some b →
      (w2.kind = .commit →
        exec .verificationCompletion s =
          .next { failed with store :=
            { s.store with
              banks := s.store.banks.set b { s.bank b with state := .verifying }, work := [w2], copied := 0 } }) ∧
      (w2.kind = .copyLive → s.store.liveBank ≠ none →
        exec .verificationCompletion s =
          .next { failed with store :=
            { s.store with
              banks := s.store.banks.set b { s.bank b with state := .copying }, work := [w2], copied := 0 } }) ∧
      (w2.kind = .copyLive → s.store.liveBank = none →
        exec .verificationCompletion s =
          .next (State.raise (State.push failed (.completion w2.id .copyLive (some b) (some .noSource)))
            (.workFail .copyLive .noSource)))

/-- VERIFICATION_COMPLETION of a bank that passes (R151 to R153, R147, R148): the bank is LIVE with its contents as
they stood; the former LIVE bank is DRAINING while a SOUNDING slot reads it, else STAGED; every ABSENT, QUIET or
STALLED slot reads the new LIVE bank, an UNBOUND slot none, a SOUNDING slot its own; the completion is answered OK,
and WORK_DONE is raised, in log 14's order: a clear latch is set with COMMIT and the bank as its capture. An operation
that waits then starts on the other bank d (R149, the table of R152): it fails with NO_STAGING while d is DRAINING, and
a COMMIT also while d is EMPTY, and WORK_FAIL is raised with the operation and NO_STAGING; else it runs on d. The other
latches and the enables stay. The bank named by its failed completion is log 10's reading. -/
def Obligations.VerifiedBankGoesLive : Prop :=
  ∀ (s : State) (w : Work) (ws : List Work) (b d : BankIx),
    s.store.work = w :: ws → ws.length ≤ 1 → w.kind = .commit → s.store.workBank = some b → d ≠ b →
    (s.bank d).state ≠ .draining →
    (∃ i : EntryIx, (s.bank b).fingerings[i].valid = true) →
    (∀ i : EntryIx, (s.bank b).fingerings[i].valid = true →
      (s.bank b).voicings[(s.bank b).fingerings[i].voicing].layers ≠ []) →
    let other : BankState :=
      if s.store.liveBank = some d then
        if ∃ i : SlotIx, (s.slot i).phase = .sounding ∧ (s.slot i).bank = some d then .draining else .staged
      else (s.bank d).state
    let done := s.raise (.workDone .commit b)
    ∃ t ps, exec .verificationCompletion s = .next t ∧
      t.bank b = { s.bank b with state := .live } ∧
      (∀ i : SlotIx, t.slot i =
        { s.slot i with
          bank := match (s.slot i).phase with
            | .unbound => none
            | .sounding => (s.slot i).bank
            | _ => some b }) ∧
      (∀ p ∈ ps, ∃ n ls cs, p = .notice n ls cs) ∧
      t.notices.latches[14].first.isSome = true ∧
      (s.notices.latches[14].first = none → t.notices.latches[14].first = some (.workDone .commit b)) ∧
      (∀ l : LatchIx, l ≠ 14 → l ≠ 15 → t.notices.latches[l].first = s.notices.latches[l].first) ∧
      t.notices.lineEnable = s.notices.lineEnable ∧ t.notices.packetEnable = s.notices.packetEnable ∧
      t.notices.masterEnable = s.notices.masterEnable ∧
      (ws = [] →
        t.bank d = { s.bank d with state := other } ∧ t.store.work = [] ∧
        t.notices = done.notices ∧
        (s.collector.up = true →
          t.collector.upstream = s.collector.upstream ++ .completion w.id .commit (some b) none :: ps)) ∧
      (∀ w2 : Work, ws = [w2] → other = .draining ∨ (w2.kind = .commit ∧ other = .empty) →
        t.bank d = { s.bank d with state := other } ∧ t.store.work = [] ∧
        t.notices.latches[15].first.isSome = true ∧
        (s.notices.latches[15].first = none →
          t.notices.latches[15].first = some (.workFail w2.kind .noStaging)) ∧
        t.notices = (done.raise (.workFail w2.kind .noStaging)).notices ∧
        (s.collector.up = true → ∃ qs, (∀ p ∈ qs, ∃ n ls cs, p = .notice n ls cs) ∧
          t.collector.upstream =
            s.collector.upstream ++ .completion w.id .commit (some b) none ::
              (ps ++ .completion w2.id w2.kind none (some .noStaging) :: qs))) ∧
      (∀ w2 : Work, ws = [w2] → ¬(other = .draining ∨ (w2.kind = .commit ∧ other = .empty)) →
        t.bank d =
          { s.bank d with
            state := match w2.kind with
              | .copyLive => .copying
              | .commit => .verifying } ∧
        t.store.work = [w2] ∧ t.store.copied = 0 ∧ t.notices = done.notices ∧
        (s.collector.up = true →
          t.collector.upstream = s.collector.upstream ++ .completion w.id .commit (some b) none :: ps)) ∧
      t.pool = s.pool ∧ t.port = s.port ∧ t.responder = s.responder ∧ t.receivers = s.receivers ∧
      t.collector.up = s.collector.up ∧ t.freeCount = s.freeCount

/-- ABORT_WORK (R154): answered OK with "no, 0" when nothing runs. A running operation is stopped, its bank becomes
STAGED, a waiting one is dropped, and the stopped one is answered FAILED with ABORTED ahead of the reply; a VERIFYING
bank keeps its contents, a COPYING bank holds the leading part that the copy had written, of which the model draws a
free amount (log 5). A part of so many entries, in the order of R150 (profiles, curves, voicings, fingerings), holds
the first so many entries of the LIVE bank and its former entries behind them. -/
def Obligations.AbortWorkStopsLongWork : Prop :=
  (∀ (id : Byte) (s : State), s.Ready →
    (s.store.work = [] → exec (.abortWork id []) s = .next (s.answered id 0x24#8 .ok [0#8, 0#8])) ∧
    ∀ (w : Work) (ws : List Work) (b : BankIx), s.store.work = w :: ws → ws.length ≤ 1 →
      s.store.workBank = some b →
      ((s.bank b).state = .verifying →
        exec (.abortWork id []) s =
          .next (State.answered
            (State.push ((s.setBankState b .staged).setWork [])
              (.completion w.id w.kind (some b) (some .aborted)))
            id 0x24#8 .ok [1#8, BitVec.ofNat 8 ws.length])) ∧
      (∀ l, (s.bank b).state = .copying → s.store.liveBank = some l → ∃ n, n ≤ 328 ∧
        min 328 s.store.copied ≤ n ∧
        exec (.abortWork id []) s =
          .next (State.answered
            (State.push
              { s with
                store :=
                  { s.store with
                    banks := s.store.banks.set b { copyPart n (s.bank l) (s.bank b) with state := .staged }
                    work := []
                    copied := n }
                freeCount := s.freeCount + 1 }
              (.completion w.id w.kind (some b) (some .aborted)))
            id 0x24#8 .ok [1#8, BitVec.ofNat 8 ws.length]))) ∧
  ∀ (n : Nat) (src dst : Bank),
    let part := copyPart n src dst
    part.state = dst.state ∧
    (∀ i : Fin 4, part.profiles[i] = if i.val < n then src.profiles[i] else dst.profiles[i]) ∧
    (∀ i : Fin 4, part.curves[i] = if 4 + i.val < n then src.curves[i] else dst.curves[i]) ∧
    (∀ i : VoicingIx, part.voicings[i] = if 8 + i.val < n then src.voicings[i] else dst.voicings[i]) ∧
    ∀ i : EntryIx, part.fingerings[i] = if 72 + i.val < n then src.fingerings[i] else dst.fingerings[i]

/-! ### Flushes (chapters 5, 6, 7 and 9) -/

/-- PANIC (R171, R121, R94): every voice is FREE with the next generation and nothing downstream, both lists are
empty, the queue holds one ALL_STOP and none is owed; SOUNDING and STALLED slots are QUIET with rearm set, an empty
layer list and pending settings applied, the others are as they were; a DRAINING bank, which no slot reads any more,
is STAGED with its contents (R148), and no other bank changes; the stall timer follows its condition (R135), as O38
gives it; the credit count, the notices and the engine settings stay, and the reply is OK. -/
def Obligations.PanicFlushes : Prop :=
  ∀ (id : Byte) (s : State), s.Ready → ∃ t,
    exec (.panic id []) s = .next t ∧
    (∀ v : VoiceIx, t.voice v =
      { s.voice v with
        phase := .free, owner := none, generation := (s.voice v).generation + 1, dn := .none
        pitchOwed := false, levelOwed := false, releaseTimer := none }) ∧
    t.pool.ageList = [] ∧ t.pool.releaseList = [] ∧ t.pool.rotation = s.pool.rotation ∧
    t.port.queue = [.allStop] ∧ t.port.allStopOwed = false ∧ t.port.credit = s.port.credit ∧
    t.port.attached = s.port.attached ∧ t.port.sending = s.port.sending ∧ t.StallLaw ∧
    t.port.stallTimer =
      (State.settleStall { s with port := { s.port with queue := [.allStop], allStopOwed := false } }).port.stallTimer ∧
    (∀ i : SlotIx,
      ((s.slot i).phase = .sounding → t.slot i =
        { (s.slot i).applyPending with
          phase := .quiet, rearm := true, layers := [], bank := s.store.liveBank.or (s.slot i).bank }) ∧
      ((s.slot i).phase = .stalled → t.slot i =
        { s.slot i with phase := .quiet, rearm := true, bank := s.store.liveBank.or (s.slot i).bank }) ∧
      ((s.slot i).phase ≠ .sounding → (s.slot i).phase ≠ .stalled → t.slot i = s.slot i)) ∧
    (∀ b : BankIx, (s.bank b).state ≠ .draining → t.bank b = s.bank b) ∧
    (s.BankLaws → ∀ b : BankIx, (s.bank b).state = .draining → t.bank b = { s.bank b with state := .staged }) ∧
    t.store.work = s.store.work ∧ t.notices = s.notices ∧
    t.responder = { s.responder with waiting := true } ∧ t.receivers = s.receivers ∧
    t.collector = { s.collector with upstream := s.collector.upstream ++ [.immediate id 0x31#8 .ok []] }

/-- RESTART (R172, R21, R156, R181): long work is abandoned, and the running operation's bank is STAGED (R154): a
VERIFYING one keeps its contents, a COPYING one holds the leading part that the copy had written, of which the model
draws a free amount (log 5) and whose entries O28 gives. Every voice is flushed, the queue holds one ALL_STOP, the
stall timer follows its condition (R135), every bound slot is ABSENT with cause RESTART and the values of R5's third
column, an UNBOUND slot is not touched, every latch is clear with last mark 0 and the line released; tags, settings,
the LIVE bank, the enables, the report number, the interval timer, the engine settings, the rotation pointer, the
credit count and the voice-link state are kept. -/
def Obligations.RestartIsWarm : Prop :=
  ∀ (id : Byte) (s : State), s.Ready → ∃ t,
    exec (.restart id []) s = .next t ∧
    (∀ v : VoiceIx, t.voice v =
      { s.voice v with
        phase := .free, owner := none, generation := (s.voice v).generation + 1, dn := .none
        pitchOwed := false, levelOwed := false, releaseTimer := none }) ∧
    t.pool.ageList = [] ∧ t.pool.releaseList = [] ∧ t.pool.rotation = s.pool.rotation ∧
    t.port.queue = [.allStop] ∧ t.port.allStopOwed = false ∧ t.port.credit = s.port.credit ∧
    t.port.attached = s.port.attached ∧ t.port.sending = s.port.sending ∧ t.StallLaw ∧
    t.port.stallTimer =
      (State.settleStall { s with port := { s.port with queue := [.allStop], allStopOwed := false } }).port.stallTimer ∧
    (∀ i : SlotIx,
      ((s.slot i).phase = .unbound → t.slot i = s.slot i) ∧
      ((s.slot i).phase ≠ .unbound → t.slot i =
        { tag := (s.slot i).tag, phase := .absent, absentCause := some .restart, expectedSeq := none
          lossTimer := none, settings := (s.slot i).applyPending.settings, pendingSettings := none
          bank := s.store.liveBank.or (s.slot i).bank, candidate := 0, runCount := 0, confirmed := 0
          resolution := none, qPrev := 0, outLevel := 0, onsetVelocity := 1, rearm := false, layers := [] })) ∧
    t.store.work = [] ∧
    (∀ b : BankIx, (s.bank b).state = .live ∨ (s.bank b).state = .staged ∨ (s.bank b).state = .empty →
      t.bank b = s.bank b) ∧
    (∀ b : BankIx, s.store.workBank = some b →
      (t.bank b).state = .staged ∧
      ((s.bank b).state = .verifying → t.bank b = { s.bank b with state := .staged }) ∧
      ∀ l : BankIx, (s.bank b).state = .copying → s.store.liveBank = some l → ∃ n, n ≤ 328 ∧
        min 328 s.store.copied ≤ n ∧ t.bank b = { copyPart n (s.bank l) (s.bank b) with state := .staged }) ∧
    (s.BankLaws → ∀ b : BankIx, (s.bank b).state = .draining → t.bank b = { s.bank b with state := .staged }) ∧
    (∀ l : LatchIx, t.notices.latches[l] = { first := none, repeats := 0, lastMark := 0, isNew := false }) ∧
    t.notices.lineLow = false ∧ t.notices.owed = false ∧ t.notices.timer = s.notices.timer ∧
    t.notices.reportNumber = s.notices.reportNumber ∧ t.notices.lineEnable = s.notices.lineEnable ∧
    t.notices.packetEnable = s.notices.packetEnable ∧ t.notices.masterEnable = s.notices.masterEnable ∧
    t.responder = { s.responder with waiting := true } ∧ t.receivers = s.receivers ∧
    t.collector = { s.collector with upstream := s.collector.upstream ++ [.immediate id 0x32#8 .ok []] }

/-! ### Timers -/

/-- The four timers' expiries while they run. The loss timer (R17): the voices are released with LOST, the slot is
ABSENT with cause TIMEOUT, keeps its confirmation, resolution, q_prev and out level, and LOST is raised with the
state it left. The release timer (R116): the voice is FREE and leaves the release list, its dn state kept. The stall
timer (R135): STALL is raised with the depth and the timer starts anew. The interval timer (R178): an owed NOTICE is
produced and the timer starts anew, and with nothing owed it stops. -/
def Obligations.RunningTimersExpire : Prop :=
  ∀ (s : State) (i : SlotIx) (v : VoiceIx),
    ((s.slot i).lossTimer ≠ none →
      exec (.lossTimerExpiry i) s =
        .next (State.raise
          (State.drain ((State.releaseLayers .lost (s.slot i).layers s).setSlot i
            { s.slot i with
              phase := .absent, absentCause := some .timeout, expectedSeq := none, lossTimer := none
              settings := (s.slot i).applyPending.settings, pendingSettings := none, rearm := false
              layers := [], bank := s.store.liveBank.or (s.slot i).bank }))
          (.lost i (s.slot i).phase))) ∧
    ((s.voice v).releaseTimer ≠ none →
      exec (.releaseTimerExpiry v) s =
        .next ((s.setReleaseList (s.pool.releaseList.erase v)).setVoice v
          { s.voice v with phase := .free, releaseTimer := none })) ∧
    (s.port.stallTimer ≠ none →
      exec .stallTimerExpiry s =
        .next (State.raise { s with port := { s.port with stallTimer := some s.responder.engine.stallTime } }
          (.stall s.port.queue.length))) ∧
    (s.notices.timer ≠ none → s.notices.owed = false →
      exec .noticeIntervalExpiry s = .next { s with notices := { s.notices with timer := none } }) ∧
    (s.notices.timer ≠ none → s.notices.owed = true →
      ∃ latchSet captures,
        exec .noticeIntervalExpiry s =
          .next
            { s with
              notices :=
                { s.notices with
                  reportNumber := s.notices.reportNumber + 1
                  latches := Vector.ofFn fun l => { s.notices.latches[l] with isNew := false }
                  timer := some s.responder.engine.noticeInterval
                  owed := false }
              collector := s.collector.push (.notice (s.notices.reportNumber + 1) latchSet captures) } ∧
        (∀ l : LatchIx, latchSet.getLsbD l = s.notices.latches[l].first.isSome) ∧
        ∀ c, c ∈ captures ↔
          ∃ l : LatchIx, s.notices.latches[l].isNew = true ∧ s.notices.latches[l].first = some c)

/-- An expiry of a stopped timer, or a completion with no such operation running, is no event: it changes nothing
(the model's reading, log 3). -/
def Obligations.StoppedTimersDoNothing : Prop :=
  ∀ (s : State) (i : SlotIx) (v : VoiceIx),
    ((s.slot i).lossTimer = none → exec (.lossTimerExpiry i) s = .next s) ∧
    ((s.voice v).releaseTimer = none → exec (.releaseTimerExpiry v) s = .next s) ∧
    (s.port.stallTimer = none → exec .stallTimerExpiry s = .next s) ∧
    (s.notices.timer = none → exec .noticeIntervalExpiry s = .next s) ∧
    ((s.store.work.head?.map (·.kind)) ≠ some .copyLive → exec .copyCompletion s = .next s) ∧
    ((s.store.work.head?.map (·.kind)) ≠ some .commit → exec .verificationCompletion s = .next s)

/-! ### The voice link (chapter 7) -/

/-- TRANSMISSION (R130, R118, R135): when the link is attached, credit remains and a record waits, the head record
leaves the queue and is the packet being sent, the credit falls by one, and the pool's dn state follows the record:
PENDING to OPEN for the START of its generation, OPEN to TAIL for a STOP other than a CUT; the stall timer follows its
condition, as O38 gives it. Else no packet is sent. That TRANSMISSION finds the transmitter free, and what `sending`
holds, is the model's choice (log 4). The VOICE packet of a record is its class byte, its length byte, the fields R187
lists for its kind and the check (R183, R186; that the check covers the length byte is log 32's reading). -/
def Obligations.TransmissionSendsHead : Prop :=
  (∀ (s : State) (r : VoiceRecord) (q : List VoiceRecord),
    (s.port.attached = true → 1 ≤ s.port.credit → s.port.queue = r :: q → ∃ t,
      exec .transmission s = .next t ∧
      t.port.queue = q ∧ t.port.credit = s.port.credit - 1 ∧ t.port.sending = some r ∧
      t.port.attached = true ∧ t.port.allStopOwed = s.port.allStopOwed ∧
      (t.port.stallTimer ≠ none ↔ q ≠ [] ∧ s.port.credit = 1) ∧
      t.port =
        (State.settleStall
          { s with port :=
            { s.port with queue := q, credit := s.port.credit - 1, sending := some r } }).port ∧
      (∀ v : VoiceIx, t.voice v =
        { s.voice v with
          dn := match r with
            | .start w g .. =>
              if w = v ∧ (s.voice v).dn = .pending ∧ (s.voice v).dnGeneration = g then .opened
              else (s.voice v).dn
            | .stop w g k =>
              if w = v ∧ k ≠ .cut ∧ (s.voice v).dn = .opened ∧ (s.voice v).dnGeneration = g then .tail
              else (s.voice v).dn
            | _ => (s.voice v).dn }) ∧
      t.pool.ageList = s.pool.ageList ∧ t.pool.releaseList = s.pool.releaseList ∧
      t.pool.rotation = s.pool.rotation ∧
      t.slots = s.slots ∧ t.store = s.store ∧ t.responder = s.responder ∧ t.notices = s.notices ∧
      t.collector = s.collector ∧ t.receivers = s.receivers) ∧
    (s.port.attached = false ∨ s.port.credit = 0 ∨ s.port.queue = [] →
      exec .transmission s = .next { s with port := { s.port with sending := none } })) ∧
  ∀ r : VoiceRecord,
    let one := fun (n : Nat) => [BitVec.ofNat 8 n]
    let two := fun (n : Nat) => [BitVec.ofNat 8 (n / 256), BitVec.ofNat 8 n]
    let fields := match r with
      | .start v g channel program pitch velocity level =>
        [1#8] ++ one v ++ [g] ++ one channel ++ one program ++ two pitch ++ one velocity ++ two level
      | .retune v g pitch => [2#8] ++ one v ++ [g] ++ two pitch
      | .level v g level => [3#8] ++ one v ++ [g] ++ two level
      | .stop v g kind =>
        [4#8] ++ one v ++ [g] ++
          (match kind with
            | .release => [0#8]
            | .lost => [1#8]
            | .flush => [2#8]
            | .cut => [3#8])
      | .allStop => [5#8]
    let covered := [0x41#8] ++ one fields.length ++ fields
    r.wire = covered ++ two (crc16 covered).toNat

/-- GRANT (R133, R135): a count in 1..64 is added, saturating at 255, which stops the stall timer; any other count,
or another number of fields, is a CONTENT discard that leaves the credit as it is. While the link is down or out of
lock nothing is received (R184, log 16). -/
def Obligations.GrantAddsCredit : Prop :=
  ∀ (s : State) (n : Byte) (fields : List Byte),
    (s.receives .voice = true → 1 ≤ n.toNat → n.toNat ≤ 64 →
      exec (.grant [n]) s =
        .next { s with port :=
          { s.port with credit := min 255 (s.port.credit + n.toNat), stallTimer := none } }) ∧
    (s.receives .voice = true → n.toNat = 0 ∨ 64 < n.toNat →
      exec (.grant [n]) s = .next (s.raise (.corrupt .content .voice))) ∧
    (s.receives .voice = true → fields.length ≠ 1 →
      exec (.grant fields) s = .next (s.raise (.corrupt .content .voice))) ∧
    (s.receives .voice = false → exec (.grant fields) s = .next s)

/-- FREED (R119, R141, R185): a report that matches a TAIL ends it, and frees a RELEASING voice of that generation;
any other report raises STALE_FREED and changes no voice; a voice above 31 or another number of fields is a CONTENT
discard. While the link is down or out of lock nothing is received (R184, log 16). -/
def Obligations.FreedReportEndsTail : Prop :=
  ∀ (s : State) (a g : Byte) (fields : List Byte),
    (s.receives .voice = true → ∀ v : VoiceIx, a.toNat = v.val →
      ((s.voice v).dn = .tail → (s.voice v).dnGeneration = g → (s.voice v).phase = .releasing →
        (s.voice v).generation = g →
        exec (.freed [a, g]) s =
          .next ((s.setReleaseList (s.pool.releaseList.erase v)).setVoice v
            { s.voice v with dn := .none, phase := .free, releaseTimer := none })) ∧
      ((s.voice v).dn = .tail → (s.voice v).dnGeneration = g →
        (s.voice v).phase ≠ .releasing ∨ (s.voice v).generation ≠ g →
        exec (.freed [a, g]) s = .next (s.setVoice v { s.voice v with dn := .none })) ∧
      ((s.voice v).dn ≠ .tail ∨ (s.voice v).dnGeneration ≠ g →
        exec (.freed [a, g]) s = .next (s.raise (.staleFreed v g)))) ∧
    (s.receives .voice = true → 31 < a.toNat →
      exec (.freed [a, g]) s = .next (s.raise (.corrupt .content .voice))) ∧
    (s.receives .voice = true → fields.length ≠ 2 →
      exec (.freed fields) s = .next (s.raise (.corrupt .content .voice))) ∧
    (s.receives .voice = false → exec (.freed fields) s = .next s)

/-- A packet on a link that is up and in lock is discarded with CORRUPT by the first check that fails: LENGTH, CHECK,
CLASS (R185; that the check covers the length byte is log 32's reading). The check is the CRC-16 of R183: polynomial
x^16 + x^12 + x^5 + 1, initial value 0xFFFF, the bits of each byte most significant first. A packet that is arriving
when its receiver loses lock is cut there and not delivered: the receiver alone moves, and what it reads from then on
moves it as the link's own rows do (readings given one by one, each at an alignment, ten symbol times apart at one,
and the count of symbol times without lock are log 15's choice). If it regains lock while the link is up, CORRUPT is
raised with LENGTH (R184); if the link goes down first, nothing is (the link's own rows). On a link that is down or
out of lock nothing is received (log 16). -/
def Obligations.DiscardedPacketsRaiseCorrupt : Prop :=
  (∀ (s : State) (link : Link) (bytes : List Byte) (x : Reading) (xs : List Reading),
    let r := s.receiver link
    let hear := fun (ys : List Reading) (t : State) =>
      match link with
      | .collector => exec (.collectorLinkUp ys) t
      | .voice => exec (.attachment ys) t
    (s.receives link = true → bytes.length < 4 ∨ bytes.length ≠ (bytes.getD 1 0).toNat + 4 →
      exec (.envelopeDiscard link bytes) s = .next (s.raise (.corrupt .length link))) ∧
    (s.receives link = true → 4 ≤ bytes.length → bytes.length = (bytes.getD 1 0).toNat + 4 →
      bytes.drop (bytes.length - 2) ≠ halfBytes (crc16 (bytes.take (bytes.length - 2))) →
      exec (.envelopeDiscard link bytes) s = .next (s.raise (.corrupt .check link))) ∧
    (s.receives link = true → 4 ≤ bytes.length → bytes.length = (bytes.getD 1 0).toNat + 4 →
      bytes.drop (bytes.length - 2) = halfBytes (crc16 (bytes.take (bytes.length - 2))) →
      (match link with
        | .collector => bytes.getD 0 0 ≠ 0x21#8 ∧ bytes.getD 0 0 ≠ 0x22#8
        | .voice => bytes.getD 0 0 ≠ 0x51#8 ∧ bytes.getD 0 0 ≠ 0x52#8) →
      exec (.envelopeDiscard link bytes) s = .next (s.raise (.corrupt .classByte link))) ∧
    (s.receives link = true → x.group ≠ none → x.alignment = r.alignment →
      exec (.packetCut link (x :: xs)) s = exec (.packetCut link xs) s) ∧
    (s.receives link = true → x.group = none ∨ x.alignment ≠ r.alignment →
      let cut : State := s.setReceiver link
        { locked := false, alignment := x.alignment, validGroups := if x.group = none then 0 else 1
          lockless := 0, packet := .cut }
      exec (.packetCut link [x]) s = .next cut ∧ exec (.packetCut link (x :: xs)) s = hear xs cut) ∧
    (s.linkUp link = true → r.locked = false → r.packet = .cut → x.group ≠ none → x.alignment = r.alignment →
      15 ≤ r.validGroups → r.lockless + 10 < 256 →
      hear [x] s =
        .next (State.raise
          (s.setReceiver link
            { locked := true, alignment := r.alignment, validGroups := 16, lockless := 0, packet := .none })
          (.corrupt .length link))) ∧
    (s.receives link = true → r.packet = .none → exec (.packetCut link []) s = .next s) ∧
    (s.receives link = false →
      exec (.envelopeDiscard link bytes) s = .next s ∧
        (r.packet ≠ .inside → exec (.packetCut link xs) s = hear xs s))) ∧
  ∀ bytes : List Byte,
    let bits := bytes.flatMap fun b => (List.range 8).map fun k => b.getLsbD (7 - k)
    crc16 bytes =
      bits.foldl (fun (register : Half) bit => if register.msb != bit then (register <<< 1) ^^^ 0x1021#16 else register <<< 1)
        0xFFFF#16

/-- The collector receiver and its link (R184), reading by reading: a valid group at its alignment keeps lock, the
first that is not loses it; the sixteenth consecutive valid group at one alignment gains it, which brings up a link
that is down and on a link that is up is no event; a link that is up goes down when lock has been absent for 256
symbol times, which discards the packets and requests that wait and makes the responder idle (R162). Neither touches
a slot (R19). The two rows read groups alike. Sixteen valid groups at one alignment thus bring the link up, and 27
invalid ones bring it down. Readings given one by one, the symbol times between two of them and the 256th counted as
down are log 15's choice. -/
def Obligations.CollectorLinkChanges : Prop :=
  ∀ (s : State) (x : Reading) (xs ys : List Reading),
    let r := s.receivers.collector
    let same := decide (x.alignment = r.alignment)
    let absent := r.lockless + (if same then 10 else (x.alignment.val + 10 - r.alignment.val) % 10)
    let run := if x.group = none then 0 else if same then min 16 (r.validGroups + 1) else 1
    let waits : Receiver :=
      { locked := false, alignment := x.alignment, validGroups := run, lockless := min 256 absent
        packet := r.packet }
    let gains : Receiver :=
      { locked := true, alignment := x.alignment, validGroups := 16, lockless := 0, packet := .none }
    exec (.collectorLinkDown xs) s = exec (.collectorLinkUp xs) s ∧
    exec (.collectorLinkUp []) s = .next s ∧
    (∀ t, exec (.collectorLinkUp xs) s = .next t →
      exec (.collectorLinkUp (xs ++ ys)) s = exec (.collectorLinkUp ys) t) ∧
    (r.locked = true → x.group ≠ none → same = true → exec (.collectorLinkUp [x]) s = .next s) ∧
    (r.locked = true → x.group = none ∨ same = false →
      exec (.collectorLinkUp [x]) s =
        .next { s with receivers :=
          { s.receivers with collector :=
            { locked := false, alignment := x.alignment, validGroups := if x.group = none then 0 else 1
              lockless := 0, packet := if r.packet = .inside then .cut else r.packet } } }) ∧
    (r.locked = false → run < 16 → absent < 256 ∨ s.collector.up = false →
      exec (.collectorLinkUp [x]) s =
        .next { s with receivers := { s.receivers with collector := waits } }) ∧
    (r.locked = false → run < 16 → 256 ≤ absent → s.collector.up = true →
      exec (.collectorLinkUp [x]) s =
        .next { s with
          receivers := { s.receivers with collector := { waits with packet := .none } }
          collector := { up := false, upstream := [] }
          responder := { s.responder with requests := [], waiting := false } }) ∧
    (r.locked = false → run = 16 → s.collector.up = false →
      exec (.collectorLinkUp [x]) s =
        .next { s with
          receivers := { s.receivers with collector := gains }
          collector := { s.collector with up := true } }) ∧
    (r.locked = false → run = 16 → s.collector.up = true → absent < 256 → r.packet ≠ .cut →
      exec (.collectorLinkUp [x]) s =
        .next { s with receivers := { s.receivers with collector := gains } }) ∧
    (r.locked = false → run = 16 → s.collector.up = true → 256 ≤ absent →
      exec (.collectorLinkUp [x]) s =
        .next { s with
          receivers := { s.receivers with collector := gains }
          collector := { up := true, upstream := [] }
          responder := { s.responder with requests := [], waiting := false } }) ∧
    (∀ a : Fin 10, s.ReceiverLaws → 16 ≤ xs.length → (∀ y ∈ xs, y.alignment = a ∧ y.group ≠ none) →
      ∃ t, exec (.collectorLinkUp xs) s = .next t ∧ t.receivers.collector.locked = true ∧
        t.receivers.collector.alignment = a ∧ t.collector.up = true) ∧
    ∀ a : Fin 10, s.ReceiverLaws → 27 ≤ xs.length → (∀ y ∈ xs, y.alignment = a ∧ y.group = none) →
      ∃ t, exec (.collectorLinkDown xs) s = .next t ∧ t.receivers.collector.locked = false ∧
        t.collector.up = false

/-- ATTACHMENT (R136, R138, R184): when the voice receiver reads the sixteenth consecutive valid group at one
alignment, a DETACHED port becomes ATTACHED with credit 0; an owed ALL_STOP is placed at the head and no longer owed;
ATTACH is raised with the depth and whether one was placed. An ATTACHED port whose receiver regains lock in time takes
no event; one whose lock was absent for 256 symbol times has detached, and attaches anew. Readings taken one by one
are log 15's choice, the moment at which the stall condition is judged log 11's. Where it is judged (R135), the stall
timer is started with the stall time when the port is ATTACHED, a record waits and there is no credit, runs on if it
ran, and is stopped otherwise. For an ALL_STOP placed in a full queue, which R128 rules out, room is made first, as O54
gives it (the model's choice, log 13). -/
def Obligations.AttachmentPlacesOwedAllStop : Prop :=
  (∀ (s : State) (x : Reading) (xs ys : List Reading),
    let r := s.receivers.voice
    let same := decide (x.alignment = r.alignment)
    let absent := r.lockless + (if same then 10 else (x.alignment.val + 10 - r.alignment.val) % 10)
    let run := if x.group = none then 0 else if same then min 16 (r.validGroups + 1) else 1
    let gains : Receivers :=
      { s.receivers with voice :=
        { locked := true, alignment := x.alignment, validGroups := 16, lockless := 0, packet := .none } }
    exec (.attachment []) s = .next s ∧
    (∀ t, exec (.attachment xs) s = .next t → exec (.attachment (xs ++ ys)) s = exec (.attachment ys) t) ∧
    (r.locked = true → x.group ≠ none → same = true → exec (.attachment [x]) s = .next s) ∧
    (r.locked = false → run = 16 → s.port.attached = false → s.port.allStopOwed = true →
      s.port.queue.length < 64 →
      exec (.attachment [x]) s =
        .next (State.settleStall (State.raise
          { s with
            receivers := gains
            port :=
            { s.port with
              attached := true, credit := 0, allStopOwed := false, queue := .allStop :: s.port.queue } }
          (.attach (s.port.queue.length + 1) true)))) ∧
    (r.locked = false → run = 16 → s.port.attached = false → s.port.allStopOwed = true →
      let placed : State := State.enqueueHead
        { s with receivers := gains, port := { s.port with attached := true, credit := 0, allStopOwed := false } }
        .allStop
      exec (.attachment [x]) s =
        .next (State.settleStall (placed.raise (.attach placed.port.queue.length true)))) ∧
    (r.locked = false → run = 16 → s.port.attached = false → s.port.allStopOwed = false →
      exec (.attachment [x]) s =
        .next (State.settleStall (State.raise
          { s with receivers := gains, port := { s.port with attached := true, credit := 0 } }
          (.attach s.port.queue.length false)))) ∧
    (r.locked = false → run = 16 → s.port.attached = true → absent < 256 → r.packet ≠ .cut →
      exec (.attachment [x]) s = .next { s with receivers := gains }) ∧
    (r.locked = false → run = 16 → s.port.attached = true → 256 ≤ absent → ∃ t,
      exec (.attachment [x]) s = .next t ∧ t.receivers = gains ∧
      t.port = { queue := [.allStop], credit := 0, attached := true, allStopOwed := false
                 stallTimer := some s.responder.engine.stallTime, sending := none } ∧
      t.notices.latches[10].first.isSome = true ∧ t.notices.latches[11].first.isSome = true) ∧
    ∀ a : Fin 10, s.ReceiverLaws → 16 ≤ xs.length → (∀ y ∈ xs, y.alignment = a ∧ y.group ≠ none) →
      ∃ t, exec (.attachment xs) s = .next t ∧ t.receivers.voice.locked = true ∧
        t.receivers.voice.alignment = a ∧ t.port.attached = true) ∧
  ∀ s : State,
    let started := some (s.port.stallTimer.getD s.responder.engine.stallTime)
    s.settleStall =
      { s with port :=
        { s.port with
          stallTimer :=
            if s.port.attached = true ∧ s.port.queue ≠ [] ∧ s.port.credit = 0 then started else none } }

/-- DETACHMENT (R137, R138, R121, R94, R184): the loss of lock moves the voice receiver alone, and so does a reading
while lock is absent, until lock has been absent for 256 symbol times. An ATTACHED port then becomes DETACHED with
credit 0, nothing being sent and the stall timer stopped; every voice is flushed, the queue is empty and an ALL_STOP
owed; SOUNDING and STALLED slots are QUIET with rearm set; a DRAINING bank is STAGED with its contents (R148); DETACH
is raised with the records discarded and the voices that were not idle. A DETACHED port takes no event. 27 invalid
groups detach the port. Readings taken one by one and the symbol times between them are log 15's choice, what
`sending` holds log 4's. -/
def Obligations.DetachmentFlushes : Prop :=
  ∀ (s : State) (x : Reading) (xs : List Reading),
    let r := s.receivers.voice
    let same := decide (x.alignment = r.alignment)
    let absent := r.lockless + (if same then 10 else (x.alignment.val + 10 - r.alignment.val) % 10)
    let run := if x.group = none then 0 else if same then min 16 (r.validGroups + 1) else 1
    let waits : Receiver :=
      { locked := false, alignment := x.alignment, validGroups := run, lockless := min 256 absent
        packet := r.packet }
    exec (.detachment xs) s = exec (.attachment xs) s ∧
    (r.locked = true → x.group = none ∨ same = false →
      exec (.detachment [x]) s =
        .next { s with receivers :=
          { s.receivers with voice :=
            { locked := false, alignment := x.alignment, validGroups := if x.group = none then 0 else 1
              lockless := 0, packet := if r.packet = .inside then .cut else r.packet } } }) ∧
    (r.locked = false → run < 16 → absent < 256 ∨ s.port.attached = false →
      exec (.detachment [x]) s = .next { s with receivers := { s.receivers with voice := waits } }) ∧
    (∀ a : Fin 10, s.ReceiverLaws → 27 ≤ xs.length → (∀ y ∈ xs, y.alignment = a ∧ y.group = none) →
      ∃ t, exec (.detachment xs) s = .next t ∧ t.receivers.voice.locked = false ∧ t.port.attached = false) ∧
    (r.locked = false → run < 16 → 256 ≤ absent → s.port.attached = true → ∃ t,
      exec (.detachment [x]) s = .next t ∧
      t.receivers = { s.receivers with voice := { waits with packet := .none } } ∧
      t.port = { queue := [], credit := 0, attached := false, allStopOwed := true, stallTimer := none
                 sending := none } ∧
      (∀ v : VoiceIx, t.voice v =
        { s.voice v with
          phase := .free, owner := none, generation := (s.voice v).generation + 1, dn := .none
          pitchOwed := false, levelOwed := false, releaseTimer := none }) ∧
      t.pool.ageList = [] ∧ t.pool.releaseList = [] ∧ t.pool.rotation = s.pool.rotation ∧
      (∀ i : SlotIx,
        ((s.slot i).phase = .sounding → t.slot i =
          { (s.slot i).applyPending with
            phase := .quiet, rearm := true, layers := [], bank := s.store.liveBank.or (s.slot i).bank }) ∧
        ((s.slot i).phase = .stalled → t.slot i =
          { s.slot i with phase := .quiet, rearm := true, bank := s.store.liveBank.or (s.slot i).bank }) ∧
        ((s.slot i).phase ≠ .sounding → (s.slot i).phase ≠ .stalled → t.slot i = s.slot i)) ∧
      (s.notices.latches[10].first = none →
        t.notices.latches[10].first = some (.detach s.port.queue.length
          ((List.finRange 32).countP fun v => decide ((s.voice v).phase ≠ .free ∨ (s.voice v).dn ≠ .none)))) ∧
      (∀ l : LatchIx, l ≠ 10 → t.notices.latches[l].first = s.notices.latches[l].first) ∧
      (∀ b : BankIx, (s.bank b).state ≠ .draining → t.bank b = s.bank b) ∧
      (s.BankLaws → ∀ b : BankIx, (s.bank b).state = .draining → t.bank b = { s.bank b with state := .staged }) ∧
      t.store.work = s.store.work ∧ t.responder = s.responder)

/-! ### SENSE packets (chapters 1 to 5) -/

/-- The content check (R2): a SENSE packet with a sample count outside 1..4, a body shorter or longer than its count
and flags demand, a sample above 4095, a lip above 1023 or a roller above 7 raises CORRUPT with reason CONTENT and
the collector link as origin, and reaches no slot, whatever its tag and whatever the slots hold. A packet that passes
is read field by field as R187 lays it out. -/
def Obligations.SenseContentDiscards : Prop :=
  ∀ (s : State) (t1 t0 sq k2 k1 k0 n fl : Byte) (rest short : List Byte), s.receives .collector = true →
    let packet := t1 :: t0 :: sq :: k2 :: k1 :: k0 :: n :: fl :: rest
    let hasLip := fl.getLsbD 1
    let hasRoller := fl.getLsbD 0
    let sample := fun (j : Nat) => (half (rest.getD (2 * j) 0) (rest.getD (2 * j + 1) 0)).toNat
    let lip := half (rest.getD (2 * n.toNat) 0) (rest.getD (2 * n.toNat + 1) 0)
    let roller := rest.getD (2 * n.toNat + if hasLip then 2 else 0) 0
    let demanded := 2 * n.toNat + (if hasLip then 2 else 0) + (if hasRoller then 1 else 0)
    let discard := s.raise (.corrupt .content .collector)
    (short.length < 8 → exec (.sense short) s = .next discard) ∧
    (n.toNat = 0 ∨ 4 < n.toNat → exec (.sense packet) s = .next discard) ∧
    (rest.length ≠ demanded → exec (.sense packet) s = .next discard) ∧
    ((∃ j < n.toNat, 4095 < sample j) → exec (.sense packet) s = .next discard) ∧
    (hasLip = true → 1023 < lip.toNat → exec (.sense packet) s = .next discard) ∧
    (hasRoller = true → 7 < roller.toNat → exec (.sense packet) s = .next discard) ∧
    (1 ≤ n.toNat → n.toNat ≤ 4 → rest.length = demanded → (∀ j < n.toNat, sample j ≤ 4095) →
      (hasLip = true → lip.toNat ≤ 1023) → (hasRoller = true → roller.toNat ≤ 7) →
      readSense packet =
        some
          { tag := half t1 t0, sequence := sq, keyWord := k2 ++ k1 ++ k0
            samples := (List.range n.toNat).map sample
            lip := if hasLip then some lip.toNat else none
            roller := if hasRoller then some roller.toNat else none })

/-- A packet is routed to the bound slot that holds its tag (R3). A packet no bound slot holds the tag of raises STRAY
with the tag (R3), and a packet whose number lies 128 or more ahead of the one its slot expects raises STALE with both
numbers (R14); neither touches anything else. While the link is down or out of lock nothing is received (R19, R184,
log 16). -/
def Obligations.StrayAndStalePacketsAreDiscarded : Prop :=
  ∀ (s : State) (fields : List Byte) (p : Sense), readSense fields = some p →
    (s.receives .collector = true → (∀ i : SlotIx, (s.slot i).phase ≠ .unbound → (s.slot i).tag ≠ some p.tag) →
      exec (.sense fields) s = .next (s.raise (.stray p.tag))) ∧
    (∀ (i : SlotIx) (e : Byte), s.receives .collector = true → s.TagsDistinct → (s.slot i).Heard →
      (s.slot i).tag = some p.tag → (s.slot i).expectedSeq = some e → 128 ≤ (p.sequence - e).toNat →
      exec (.sense fields) s = .next (s.raise (.stale i e p.sequence))) ∧
    (s.TagsDistinct → ∀ i : SlotIx,
      s.route p.tag = some i ↔ (s.slot i).phase ≠ .unbound ∧ (s.slot i).tag = some p.tag) ∧
    (s.receives .collector = false → exec (.sense fields) s = .next s)

/-- An accepted packet that makes no onset and leaves the slot QUIET (R13, R14, R16, R30, R31, R34, R36, R40 to R45,
R78, R79), taken in order, after a gap or as the first out of ABSENT. In order: the expected number and the loss timer
are set, the confirmed pattern follows the packet's set and the run is counted, the resolution is looked up in the bank
in use, rearm is cleared by a sample below the off threshold, q_prev and the out level take the last sample's values.
Nothing else changes but what the way of taking it changes.

For any samples at all: the stages of R4 follow each other, so the samples are tested one by one behind stage 4, and
stage 6 comes last. One sample is tested by the slot's state (R78) and its q then becomes q_prev (R44): in QUIET it
clears rearm or makes an onset (R80 to R82), in STALLED it abandons the onset (R84; the switching rule there is log
19's), in SOUNDING it releases the note (R85 to R87), and in every other case it does nothing. For all its stages a
packet is taken with the slot's settings and curve as they stand when it is taken and with its own roller and lip values
(R43, R50; log 17's reading). -/
def Obligations.QuietPacketFollowsBreath : Prop :=
  (∀ (s : State) (fields : List Byte) (p : Sense) (i : SlotIx) (way : Taking) (last : Nat),
    s.Takes fields p i way last →
    let u := s.takenAs i p way
    let x := u.slot i
    let ks := u.keysIn x x.bank p
    let pk := u.packetOf i p
    let heard : Slot :=
      { x.hears p.sequence way ks with confirmed := ks, resolution := u.foundIn x.bank ks }
    x.phase = .quiet →
    (x.settings.noOnset x.rearm p.samples = true →
      exec (.sense fields) s =
        .next (u.setSlot i
          { heard with
            qPrev := scaledPressure x.settings last
            outLevel := u.expressionIn x x.bank last
            rearm := x.rearm && x.settings.allHeld p.samples })) ∧
    exec (.sense fields) s =
      .next (State.perPacket (p.samples.foldl (State.sample i pk) (u.setSlot i heard)) i pk (pk.expressionOf last))) ∧
  ∀ (s : State) (i : SlotIx) (pk : Packet) (a : Nat),
    let x := s.slot i
    let st := pk.settings
    let q := scaledPressure st a
    let e := pk.expressionOf a
    let live := s.store.liveBank.or x.bank
    let t := State.sample i pk s a
    (x.phase = .quiet → x.rearm = true →
      t = s.setSlot i { x with rearm := decide (st.offThreshold ≤ q), qPrev := q }) ∧
    (x.phase = .quiet → x.rearm = false → q < st.onThreshold → t = s.setSlot i { x with qPrev := q }) ∧
    (∀ r : Resolution, x.phase = .quiet → x.rearm = false → st.onThreshold ≤ q → x.resolution = some r →
      t = State.modSlot
        (State.startNote (s.setSlot i { x with onsetVelocity := st.velocity q x.qPrev, outLevel := e }) i pk r) i
        fun y => { y with qPrev := q }) ∧
    (x.phase = .quiet → x.rearm = false → st.onThreshold ≤ q → x.resolution = none →
      t = State.raise
        (State.drain (s.setSlot i
          { x with phase := .stalled, bank := live, onsetVelocity := st.velocity q x.qPrev, qPrev := q }))
        (.unmapped i x.confirmed)) ∧
    (x.phase = .stalled → q < st.offThreshold →
      t = State.drain (s.setSlot i { x with phase := .quiet, bank := live, qPrev := q })) ∧
    (x.phase = .sounding → q < st.offThreshold →
      t = State.drain ((State.releaseLayers .release x.layers s).setSlot i
        { x with
          phase := .quiet, settings := x.applyPending.settings, pendingSettings := none, bank := live
          layers := [], resolution := s.foundIn live x.confirmed, qPrev := q })) ∧
    (x.phase = .stalled ∨ x.phase = .sounding → st.offThreshold ≤ q → t = s.setSlot i { x with qPrev := q }) ∧
    (x.phase = .unbound ∨ x.phase = .absent → t = s.setSlot i { x with qPrev := q }) ∧
    ∀ p : Sense, s.packetOf i p =
      { settings := x.settings
        curve := match x.bank with
          | some b => some (s.bank b).curves[x.settings.curve]
          | none => none
        roller := p.roller, lip := p.lip }

/-- An onset starts its note (R78, R80, R81, R47, R50, R46, R72, R108, R113, R53 to R56). A QUIET slot takes an
in-order packet of one sample at or above its on threshold, with a fingering whose voicing has one layer, while a
voice lies free with no note downstream and the queue has room: the lowest such voice is given with its next
generation, one START with the layer's pitch code, level and velocity is appended, and stage 6 adds nothing.

For any packet, taken in order, after a gap or as the first out of ABSENT, where the velocity is computed from a rise
of the whole q (R13, R80, R100): an onset at one of its samples, after samples that make none and have left rearm
clear, and before samples that hold the note, starts the note at that sample with its out level and velocity; q_prev
then takes the last sample's value and stage 6 follows. Starting a note makes the slot SOUNDING with an absent entry
for each layer of the voicing, asks for a voice layer by layer, and raises THIN once when a layer was granted none
(R111). A layer that is granted a voice takes it from its former use and then completes as R113 gives: the next
generation, the owner, dn PENDING, the tail of the age list, the layer's entry, CLAMP when the pitch leaves its range
(R51), and a START, which is appended at 64 records too, room being made as O54 gives it (R129), and behind which the
stall timer follows its condition (R135), as O38 gives it. That the condition is judged once for the layer, after the
removals and the CUT of the taking and the START's append and not between them, is the model's choice (log 11). -/
def Obligations.OnsetStartsNote : Prop :=
  (∀ (s : State) (fields : List Byte) (p : Sense) (i : SlotIx) (a : Nat) (b : BankIx) (r : Resolution)
    (l : Layer) (v : VoiceIx), s.receives .collector = true →
    readSense fields = some p → s.route p.tag = some i → p.samples = [a] →
    let x := s.slot i
    let st := x.settings
    let ks := canonicalKeys (s.bank b).profiles[st.profile] p.keyWord
    let q := scaledPressure st a
    let e := curveValue (s.bank b).curves[st.curve] q
    let octave : Int := match p.roller with
      | some o => ((o : Int) - st.rollerCenter) * 12
      | none => 0
    let bend : Int := match p.lip with
      | some o => clamp (-(st.bendRange : Int)) st.bendRange
          (Int.tdiv (((o : Int) - st.lipCenter) * st.bendRange) 512)
      | none => 0
    let pitch : Int := ((r.note : Int) + octave + st.transpose + l.interval) * 64 + (r.cent + st.tune + bend)
    let velocity := (clamp 1 127 (((q : Int) - x.qPrev) * st.velocityGain / 64)).toNat
    let level := e * l.trim / 127
    let g := (s.voice v).generation + 1
    x.phase = .quiet → x.rearm = false → x.expectedSeq = some p.sequence → x.bank = some b →
    st.onThreshold ≤ q →
    lookupSet (s.bank b).fingerings ks = some r → (s.bank b).voicings[r.voicing].layers = [l] →
    (s.voice v).phase = .free → (s.voice v).dn = .none →
    (∀ w : VoiceIx, w < v → (s.voice w).phase ≠ .free ∨ (s.voice w).dn ≠ .none) →
    s.port.queue.length < 64 → 0 ≤ pitch → pitch ≤ 8191 →
    ∃ t, exec (.sense fields) s = .next t ∧
      t.slot i =
        { x with
          phase := .sounding
          expectedSeq := some (p.sequence + 1)
          lossTimer := some st.lossTime
          candidate := ks
          runCount := if ks = x.candidate then min 8 (x.runCount + 1) else 1
          confirmed := ks
          resolution := some r
          qPrev := q
          outLevel := e
          onsetVelocity := velocity
          layers := [some v] } ∧
      t.voice v =
        { s.voice v with
          phase := .sounding, owner := some ⟨i, 0, st.priority⟩, generation := g, dn := .pending
          dnGeneration := g, lastPitch := pitch.toNat, lastLevel := level, pitchOwed := false
          levelOwed := false } ∧
      t.port.queue =
        s.port.queue ++
          [.start v g l.channel l.program pitch.toNat
            (if l.follow then velocity else (s.bank b).voicings[r.voicing].fixedVelocity) level] ∧
      t.pool.ageList = s.pool.ageList ++ [v] ∧ t.pool.releaseList = s.pool.releaseList ∧
      t.pool.rotation = s.pool.rotation ∧
      (∀ w : VoiceIx, w ≠ v → t.voice w = s.voice w) ∧ (∀ j : SlotIx, j ≠ i → t.slot j = s.slot j) ∧
      t.port.credit = s.port.credit ∧ t.store = s.store ∧ t.responder = s.responder ∧
      t.notices = s.notices ∧ t.collector = s.collector ∧ t.receivers = s.receivers) ∧
  (∀ (s : State) (fields : List Byte) (p : Sense) (i : SlotIx) (way : Taking) (before after : List Nat)
    (a last : Nat) (r : Resolution),
    s.Takes fields p i way last →
    let u := s.takenAs i p way
    let x := u.slot i
    let st := x.settings
    let q := scaledPressure st
    let ks := u.keysIn x x.bank p
    let pk := u.packetOf i p
    let prior := (before.getLast?.map q).getD x.qPrev
    p.samples = before ++ a :: after → x.phase = .quiet → u.foundIn x.bank ks = some r →
    st.noOnset x.rearm before = true → (x.rearm && st.allHeld before) = false → st.onThreshold ≤ q a →
    st.allHeld after = true →
    let begun := u.setSlot i
      { x.hears p.sequence way ks with
        confirmed := ks, resolution := some r, rearm := false, qPrev := prior
        onsetVelocity := st.velocity (q a) prior, outLevel := u.expressionIn x x.bank a }
    exec (.sense fields) s =
      .next (State.perPacket ((begun.startNote i pk r).modSlot i fun y => { y with qPrev := q last })
        i pk (u.expressionIn x x.bank last))) ∧
  ∀ (s : State) (i : SlotIx) (pk : Packet) (r : Resolution),
    let vc := match (s.slot i).bank with
      | some b => (s.bank b).voicings[r.voicing]
      | none => {}
    let asked := s.setSlot i
      { s.slot i with phase := .sounding, layers := List.replicate vc.layers.length none }
    let given := vc.layers.zipIdx.foldl (fun t lk => t.startLayer i pk r vc lk.2 lk.1) asked
    let granted := (given.slot i).layers.countP Option.isSome
    s.startNote i pk r =
      (if granted < vc.layers.length then given.raise (.thin i r.voicing granted vc.layers.length)
        else given) ∧
    ∀ (k : Fin 4) (l : Layer),
      (s.pool.candidate s.responder.engine.stealMode pk.settings.priority = none →
        s.startLayer i pk r vc k l = s) ∧
      ∀ (c : AllocClass) (v : VoiceIx),
        s.pool.candidate s.responder.engine.stealMode pk.settings.priority = some (c, v) →
        let u := s.takeVoice c v i
        let t := s.startLayer i pk r vc k l
        let g := (u.voice v).generation + 1
        let pitch := pitchValue pk.settings pk.roller pk.lip r.note r.cent l.interval
        let code := (max 0 (min 8191 pitch)).toNat
        let level := (s.slot i).outLevel * l.trim / 127
        let granted : Voice :=
          { u.voice v with
            phase := .sounding, owner := some ⟨i, k, pk.settings.priority⟩, generation := g, dn := .pending
            dnGeneration := g }
        let given := ((u.setVoice v granted).setAgeList (u.pool.ageList ++ [v])).setSlot i
          { u.slot i with layers := (u.slot i).layers.set k (some v) }
        let placed := State.enqueue (if pitch < 0 ∨ 8191 < pitch then given.raise (.clamp i k pitch) else given)
          (.start v g l.channel l.program code
            (if l.follow then (s.slot i).onsetVelocity else vc.fixedVelocity) level)
        t = State.settleStall (placed.setVoice v
          { granted with lastPitch := code, lastLevel := level, pitchOwed := false, levelOwed := false }) ∧
        (u.port.queue.length < 64 →
        t.voice v =
          { u.voice v with
            phase := .sounding, owner := some ⟨i, k, pk.settings.priority⟩, generation := g, dn := .pending
            dnGeneration := g, lastPitch := code, lastLevel := level, pitchOwed := false
            levelOwed := false } ∧
        t.slot i = { u.slot i with layers := (u.slot i).layers.set k (some v) } ∧
        t.port.queue =
          u.port.queue ++
            [.start v g l.channel l.program code
              (if l.follow then (s.slot i).onsetVelocity else vc.fixedVelocity) level] ∧
        t.pool.ageList = u.pool.ageList ++ [v] ∧ t.pool.releaseList = u.pool.releaseList ∧
        t.pool.rotation = u.pool.rotation ∧
        t.notices =
          (if pitch < 0 ∨ 8191 < pitch then (u.raise (.clamp i k pitch)).notices else u.notices) ∧
        (∀ w : VoiceIx, w ≠ v → t.voice w = u.voice w) ∧ (∀ j : SlotIx, j ≠ i → t.slot j = u.slot j) ∧
        t.store = u.store ∧ t.responder = u.responder ∧ t.receivers = u.receivers)

/-- An onset with no resolution, for want of a matching entry or of a bank in use (R80, R82, R43): the slot is STALLED
with its onset velocity computed, no voice is asked for, and UNMAPPED is raised with the slot and its confirmed
pattern. That the switching rule, and so the drain, is applied there too is R147's "entering STALLED". The packet may
be in order, follow a gap or be the first out of ABSENT. A STALLED slot acts at stage 4 of each packet (R83, R84):
with no match it waits while its samples hold, and goes back to QUIET at a sample below the off threshold (the
switching rule there: log 19); with a match it starts the note with the velocity and the out level it holds. Whatever
its samples, they are tested one by one behind stage 4 and stage 6 comes last (R4). -/
def Obligations.OnsetWithoutResolutionStalls : Prop :=
  ∀ (s : State) (fields : List Byte) (p : Sense) (i : SlotIx) (way : Taking) (last : Nat),
    s.Takes fields p i way last →
    let u := s.takenAs i p way
    let x := u.slot i
    let st := x.settings
    let q := scaledPressure st
    let e := u.expressionIn x x.bank
    let ks := u.keysIn x x.bank p
    let pk := u.packetOf i p
    let live := u.store.liveBank.or x.bank
    let heard : Slot := { x.hears p.sequence way ks with confirmed := ks, resolution := none }
    (∀ (before after : List Nat) (a : Nat), p.samples = before ++ a :: after → x.phase = .quiet →
      u.foundIn x.bank ks = none → st.noOnset x.rearm before = true →
      (x.rearm && st.allHeld before) = false → st.onThreshold ≤ q a → st.allHeld after = true →
      exec (.sense fields) s =
        .next (State.raise
          (State.drain (u.setSlot i
            { heard with
              phase := .stalled
              bank := live
              rearm := false
              qPrev := q last
              outLevel := e last
              onsetVelocity := st.velocity (q a) ((before.getLast?.map q).getD x.qPrev) }))
          (.unmapped i ks))) ∧
    (x.phase = .stalled → u.foundIn x.bank ks = none →
      (st.allHeld p.samples = true →
        exec (.sense fields) s = .next (u.setSlot i { heard with qPrev := q last, outLevel := e last })) ∧
      (∀ (before after : List Nat) (a : Nat), p.samples = before ++ a :: after → x.rearm = false →
        st.allHeld before = true → q a < st.offThreshold → st.allLow after = true →
        exec (.sense fields) s =
          .next (State.drain (u.setSlot i
            { heard with phase := .quiet, bank := live, qPrev := q last, outLevel := e last }))) ∧
      exec (.sense fields) s =
        .next (State.perPacket (p.samples.foldl (State.sample i pk) (u.setSlot i heard)) i pk (e last))) ∧
    ∀ r : Resolution, x.phase = .stalled → u.foundIn x.bank ks = some r →
      let started := (u.setSlot i { heard with resolution := some r }).startNote i pk r
      (st.allHeld p.samples = true →
        exec (.sense fields) s =
          .next (State.perPacket (started.modSlot i fun y => { y with qPrev := q last }) i pk (e last))) ∧
      exec (.sense fields) s =
        .next (State.perPacket (p.samples.foldl (State.sample i pk) started) i pk (e last))

/-- A release ends the note (R78, R85, R86, R9, R147, R148, R45), in a packet taken in order or after a gap. A SOUNDING
slot whose confirmation test does not pass and one of whose samples lies below its off threshold: its voices are
released with RELEASE in layer order, the slot is QUIET with an empty layer list and pending settings applied, it reads
the LIVE bank, its resolution is made afresh there, and the drain is tested. The same at the sample that releases a note
that was started earlier in the packet, by an onset (R87, R88), out of ABSENT too, or at stage 4 (R83). An onset at a
later sample starts a new note with the settings of the packet, from the resolution made at the release (R87). The
release of a note whose fingering a confirmed change has moved at stage 4 is stated with that change. -/
def Obligations.ReleaseEndsNote : Prop :=
  ∀ (s : State) (fields : List Byte) (p : Sense) (i : SlotIx) (way : Taking) (last : Nat),
    s.Takes fields p i way last →
    let u := s.takenAs i p way
    let x := u.slot i
    let st := x.settings
    let q := scaledPressure st
    let ks := u.keysIn x x.bank p
    let pk := u.packetOf i p
    let heard := x.hears p.sequence way ks
    let asked : Slot := { heard with confirmed := ks, resolution := u.foundIn x.bank ks }
    (x.phase = .sounding → ks = x.confirmed ∨ heard.runCount < st.confirmCount →
      State.SoundingCourses (u.setSlot i heard) i pk p.samples last (exec (.sense fields) s)) ∧
    (∀ (before rest : List Nat) (a : Nat) (r : Resolution), p.samples = before ++ a :: rest → x.phase = .quiet →
      u.foundIn x.bank ks = some r → st.noOnset x.rearm before = true →
      (x.rearm && st.allHeld before) = false → st.onThreshold ≤ q a →
      let begun := u.setSlot i
        { asked with
          rearm := false
          onsetVelocity := st.velocity (q a) ((before.getLast?.map q).getD x.qPrev)
          outLevel := u.expressionIn x x.bank a }
      State.SoundingCourses (begun.startNote i pk r) i pk rest last (exec (.sense fields) s)) ∧
    ∀ r : Resolution, x.phase = .stalled → u.foundIn x.bank ks = some r →
      State.SoundingCourses ((u.setSlot i asked).startNote i pk r) i pk p.samples last (exec (.sense fields) s)

/-- Stage 6 of a SOUNDING slot with one layer (R45, R46, R50, R54 to R57). With its fingering confirmed and its breath
at or above the off threshold, the out level moves toward the last sample's value by at most the slew; a RETUNE is
appended when the pitch code differs from the last queued one, then a LEVEL when it lies further than the dead band
from the last queued one; a value within its bound adds no record.

For any packet in order or after a gap, and any layers: where the samples hold the note stage 6 follows, and whatever
they are they are tested one by one and stage 6 comes last. The layers are visited in layer order, absent entries
skipped, and each voice's pitch is taken before its level; CLAMP is raised for a pitch out of range (R51) and the
record carries the clamped code. Stage 6 of a slot that is not SOUNDING sets the out level alone (R45, R54). -/
def Obligations.SoundingPacketUpdatesLayer : Prop :=
  (∀ (s : State) (fields : List Byte) (p : Sense) (i : SlotIx) (a : Nat) (b : BankIx) (r : Resolution)
    (l : Layer) (v : VoiceIx), s.receives .collector = true →
    readSense fields = some p → s.route p.tag = some i → p.samples = [a] →
    let x := s.slot i
    let st := x.settings
    let q := scaledPressure st a
    let e := curveValue (s.bank b).curves[st.curve] q
    let out := if e ≤ x.outLevel + st.slew ∧ x.outLevel ≤ e + st.slew then e
      else if x.outLevel < e then x.outLevel + st.slew else x.outLevel - st.slew
    let pitch : Int := ((r.note : Int) + rollerOctave st p.roller + st.transpose + l.interval) * 64 +
      (r.cent + st.tune + lipBend st p.lip)
    let level := out * l.trim / 127
    let g := (s.voice v).generation
    let retune := decide (pitch.toNat ≠ (s.voice v).lastPitch) || (s.voice v).pitchOwed
    let loudness := decide (s.responder.engine.deadBand < max (level - (s.voice v).lastLevel)
      ((s.voice v).lastLevel - level)) || (s.voice v).levelOwed
    x.phase = .sounding → x.expectedSeq = some p.sequence → x.bank = some b →
    canonicalKeys (s.bank b).profiles[st.profile] p.keyWord = x.confirmed →
    x.settings.offThreshold ≤ q → x.resolution = some r →
    (s.bank b).voicings[r.voicing].layers = [l] → x.layers = [some v] →
    0 ≤ pitch → pitch ≤ 8191 → s.port.queue = [] →
    ∃ t, exec (.sense fields) s = .next t ∧
      t.port.queue =
        (if retune then [VoiceRecord.retune v g pitch.toNat] else []) ++
          (if loudness then [VoiceRecord.level v g level] else []) ∧
      t.voice v =
        { s.voice v with
          lastPitch := if retune then pitch.toNat else (s.voice v).lastPitch
          lastLevel := if loudness then level else (s.voice v).lastLevel
          pitchOwed := false, levelOwed := false } ∧
      (t.slot i).outLevel = out ∧ (t.slot i).qPrev = q ∧ (t.slot i).layers = x.layers ∧
      (t.slot i).phase = .sounding ∧ (t.slot i).resolution = some r ∧ (t.slot i).confirmed = x.confirmed ∧
      (∀ w : VoiceIx, w ≠ v → t.voice w = s.voice w) ∧ (∀ j : SlotIx, j ≠ i → t.slot j = s.slot j) ∧
      t.pool.ageList = s.pool.ageList ∧ t.notices = s.notices ∧ t.store = s.store ∧
      t.responder = s.responder ∧ t.collector = s.collector ∧ t.receivers = s.receivers) ∧
  (∀ (s : State) (fields : List Byte) (p : Sense) (i : SlotIx) (way : Taking) (last : Nat),
    s.Takes fields p i way last →
    let u := s.takenAs i p way
    let x := u.slot i
    let ks := u.keysIn x x.bank p
    let pk := u.packetOf i p
    let heard := x.hears p.sequence way ks
    x.phase = .sounding → ks = x.confirmed ∨ heard.runCount < x.settings.confirmCount →
    (x.settings.allHeld p.samples = true →
      exec (.sense fields) s =
        .next (State.perPacket (u.setSlot i { heard with qPrev := scaledPressure x.settings last }) i pk
          (u.expressionIn x x.bank last))) ∧
    exec (.sense fields) s =
      .next (State.perPacket (p.samples.foldl (State.sample i pk) (u.setSlot i heard)) i pk
        (u.expressionIn x x.bank last))) ∧
  ∀ (s : State) (i : SlotIx) (pk : Packet) (e out k : Nat) (r : Resolution) (l : Layer) (ls : List Layer)
    (v : VoiceIx) (es : List (Option VoiceIx)),
    let x := s.slot i
    let voice := s.voice v
    let stage := fun (n : Nat) => s.setSlot i { x with outLevel := n }
    let moved := if e ≤ x.outLevel + pk.settings.slew ∧ x.outLevel ≤ e + pk.settings.slew then e
      else if x.outLevel < e then x.outLevel + pk.settings.slew else x.outLevel - pk.settings.slew
    let pitch := pitchValue pk.settings pk.roller pk.lip r.note r.cent l.interval
    let level := out * l.trim / 127
    (x.phase ≠ .sounding → s.perPacket i pk e = stage e) ∧
    (x.phase = .sounding → x.resolution = none → s.perPacket i pk e = stage moved) ∧
    (x.phase = .sounding → x.resolution = some r →
      s.perPacket i pk e =
        State.updateLayers i pk r moved 0
          (match x.bank with
            | some b => (s.bank b).voicings[r.voicing].layers
            | none => []) x.layers (stage moved)) ∧
    State.updateLayers i pk r out k ls [] s = s ∧ State.updateLayers i pk r out k [] es s = s ∧
    State.updateLayers i pk r out k (l :: ls) (none :: es) s =
      State.updateLayers i pk r out (k + 1) ls es s ∧
    State.updateLayers i pk r out k (l :: ls) (some v :: es) s =
      State.updateLayers i pk r out (k + 1) ls es
        (State.produceLevel (s.retuneLayer i pk r k l v) v level) ∧
    s.retuneLayer i pk r k l v =
      State.produceRetune (if pitch < 0 ∨ 8191 < pitch then s.raise (.clamp i k pitch) else s) v
        (max 0 (min 8191 pitch)).toNat ∧
    (∀ code : Nat, s.produceRetune v code =
      if voice.lastPitch ≠ code ∨ voice.pitchOwed = true then
        (s.setVoice v { voice with pitchOwed := false }).offerRetune v code
      else s) ∧
    s.produceLevel v level =
      if s.responder.engine.deadBand < max (level - voice.lastLevel) (voice.lastLevel - level) ∨
          voice.levelOwed = true then
        (s.setVoice v { voice with levelOwed := false }).offerLevel v level
      else s

/-- A confirmed change of fingering while a note sounds (R33, R67, R89 to R91). With no match, or the entry already
in force, the note is held; with another entry of the same LEGATO voicing its one layer is retuned; else its one
voice is released with RELEASE and one for the new voicing's one layer is started at the out level as it stands,
before stage 6 moves it (R54).

For any packet in order or after a gap (with a confirm count of 1 a gap packet's set is confirmed at once, R34) and any
voicing: a legato retune takes the layers that name a voice in layer order, and a retrigger releases the voices in layer
order and starts the note anew under the new resolution, with the velocity and the out level the slot holds. The samples
are then tested one by one and stage 6 comes last: they hold the note, or one of them releases it as it stands after the
change (R88, R89), and a later one may start a new note. A note without a resolution, which no run reaches, is
retriggered (log 18). -/
def Obligations.ConfirmedChangeTakesItsCourse : Prop :=
  (∀ (s : State) (fields : List Byte) (p : Sense) (i : SlotIx) (a : Nat) (b : BankIx) (old : Resolution),
    s.receives .collector = true → readSense fields = some p → s.route p.tag = some i → p.samples = [a] →
    let x := s.slot i
    let st := x.settings
    let ks := canonicalKeys (s.bank b).profiles[st.profile] p.keyWord
    let q := scaledPressure st a
    let e := curveValue (s.bank b).curves[st.curve] q
    let out := slewed st.slew x.outLevel e
    let far := fun (m n : Nat) => decide (s.responder.engine.deadBand < max (m - n) (n - m))
    x.phase = .sounding → x.expectedSeq = some p.sequence → x.bank = some b → x.resolution = some old →
    ks ≠ x.confirmed → st.confirmCount ≤ (if ks = x.candidate then min 8 (x.runCount + 1) else 1) →
    st.offThreshold ≤ q →
    ((∀ r, lookupSet (s.bank b).fingerings ks = some r → r.entry = old.entry) →
      ∃ t, exec (.sense fields) s = .next t ∧ (t.slot i).phase = .sounding ∧ (t.slot i).confirmed = ks ∧
        (t.slot i).resolution = some old ∧ (t.slot i).layers = x.layers ∧ (t.slot i).outLevel = out) ∧
    ∀ (r : Resolution) (l : Layer) (v : VoiceIx),
      lookupSet (s.bank b).fingerings ks = some r → r.entry ≠ old.entry →
      (s.bank b).voicings[r.voicing].layers = [l] → x.layers = [some v] → s.port.queue = [] →
      let pitch : Int := ((r.note : Int) + rollerOctave st p.roller + st.transpose + l.interval) * 64 +
        (r.cent + st.tune + lipBend st p.lip)
      let g := (s.voice v).generation
      let level := out * l.trim / 127
      0 ≤ pitch → pitch ≤ 8191 →
      (r.voicing = old.voicing → (s.bank b).voicings[r.voicing].mode = .legato →
        ∃ t, exec (.sense fields) s = .next t ∧ (t.slot i).phase = .sounding ∧ (t.slot i).confirmed = ks ∧
          (t.slot i).resolution = some r ∧ (t.slot i).layers = [some v] ∧ (t.slot i).outLevel = out ∧
          t.port.queue =
            (if pitch.toNat ≠ (s.voice v).lastPitch ∨ (s.voice v).pitchOwed = true then
              [VoiceRecord.retune v g pitch.toNat] else []) ++
              (if far level (s.voice v).lastLevel = true ∨ (s.voice v).levelOwed = true then
                [VoiceRecord.level v g level] else [])) ∧
      ∀ w : VoiceIx, r.voicing ≠ old.voicing ∨ (s.bank b).voicings[r.voicing].mode = .retrigger →
        (s.voice v).dn = .opened → (s.voice w).phase = .free → (s.voice w).dn = .none →
        (∀ y : VoiceIx, y < w → (s.voice y).phase ≠ .free ∨ (s.voice y).dn ≠ .none) →
        let first := x.outLevel * l.trim / 127
        ∃ t, exec (.sense fields) s = .next t ∧ (t.slot i).phase = .sounding ∧ (t.slot i).confirmed = ks ∧
          (t.slot i).resolution = some r ∧ (t.slot i).layers = [some w] ∧ (t.slot i).outLevel = out ∧
          t.port.queue =
            [.stop v g .release,
              .start w ((s.voice w).generation + 1) l.channel l.program pitch.toNat
                (if l.follow then x.onsetVelocity else (s.bank b).voicings[r.voicing].fixedVelocity)
                (if far level first = true then level else first)] ∧
          (t.voice v).phase = .releasing ∧ (t.voice v).dn = .opened ∧
          (t.voice w).phase = .sounding ∧ (t.voice w).owner = some ⟨i, 0, st.priority⟩) ∧
  (∀ (s : State) (fields : List Byte) (p : Sense) (i : SlotIx) (way : Taking) (b : BankIx) (last : Nat),
    s.Takes fields p i way last →
    let u := s.takenAs i p way
    let x := u.slot i
    let ks := u.keysIn x x.bank p
    let pk := u.packetOf i p
    let changed : Slot := { x.hears p.sequence way ks with confirmed := ks }
    let finish := fun (m : State) =>
      State.SoundingCourses m i pk p.samples last (exec (.sense fields) s) ∧
        exec (.sense fields) s =
          .next (State.perPacket (p.samples.foldl (State.sample i pk) m) i pk (u.expressionIn x x.bank last))
    x.phase = .sounding → x.bank = some b → ks ≠ x.confirmed → x.settings.confirmCount ≤ changed.runCount →
    (u.foundIn x.bank ks = none ∨
      (∃ r old, u.foundIn x.bank ks = some r ∧ x.resolution = some old ∧ r.entry = old.entry) →
      finish (u.setSlot i changed)) ∧
    (∀ r old : Resolution, u.foundIn x.bank ks = some r → x.resolution = some old → r.entry ≠ old.entry →
      r.voicing = old.voicing → (u.bank b).voicings[r.voicing].mode = .legato →
      finish (State.retuneLayers i pk r 0 (u.bank b).voicings[r.voicing].layers x.layers
        (u.setSlot i { changed with resolution := some r }))) ∧
    ∀ r : Resolution, u.foundIn x.bank ks = some r →
      (x.resolution = none ∨ ∃ old, x.resolution = some old ∧ r.entry ≠ old.entry ∧
        (r.voicing ≠ old.voicing ∨ (u.bank b).voicings[r.voicing].mode = .retrigger)) →
      finish (State.startNote
        ((State.releaseLayers .release x.layers u).setSlot i { changed with layers := [], resolution := some r })
        i pk r)) ∧
  ∀ (s : State) (i : SlotIx) (pk : Packet) (k : Nat) (r : Resolution) (l : Layer) (ls : List Layer)
    (v : VoiceIx) (es : List (Option VoiceIx)),
    State.retuneLayers i pk r k ls [] s = s ∧ State.retuneLayers i pk r k [] es s = s ∧
    State.retuneLayers i pk r k (l :: ls) (none :: es) s = State.retuneLayers i pk r (k + 1) ls es s ∧
    State.retuneLayers i pk r k (l :: ls) (some v :: es) s =
      State.retuneLayers i pk r (k + 1) ls es (s.retuneLayer i pk r k l v)

/-- The frame of SENSE: a packet that is discarded by its content, that no bound slot holds the tag of, or that is
stale touches no slot, no voice and no record (R2, R3, R14). Any other touches the bound slot that holds its tag; of
every other slot at most a layer entry becomes absent, by a steal (R4, R93). Table contents, long work, engine
settings, the request list, credit and the links are unchanged. -/
def Obligations.SensePacketFrame : Prop :=
  ∀ (s t : State) (fields : List Byte), exec (.sense fields) s = .next t →
    let untouched := t = { s with notices := t.notices, collector := t.collector }
    (readSense fields = none → untouched) ∧
    (∀ p : Sense, readSense fields = some p →
      (s.route p.tag = none → untouched) ∧
      ∀ i : SlotIx, s.route p.tag = some i →
        (s.slot i).phase ≠ .unbound ∧ (s.slot i).tag = some p.tag ∧
        (∀ e : Byte, (s.slot i).phase ≠ .absent → (s.slot i).expectedSeq = some e →
          128 ≤ (p.sequence - e).toNat → untouched) ∧
        ∀ j : SlotIx, j ≠ i →
          t.slot j = { s.slot j with layers := (t.slot j).layers } ∧
          (t.slot j).layers.length = (s.slot j).layers.length ∧
          ∀ k : Nat, (t.slot j).layers[k]? = (s.slot j).layers[k]? ∨ (t.slot j).layers[k]? = some none) ∧
    (∀ b : BankIx, t.bank b = { s.bank b with state := (t.bank b).state } ∧
      ((s.bank b).state ≠ .draining → t.bank b = s.bank b)) ∧
    t.store.work = s.store.work ∧ t.responder = s.responder ∧ t.freeCount = s.freeCount ∧
    t.port.credit = s.port.credit ∧ t.port.attached = s.port.attached ∧
    t.port.allStopOwed = s.port.allStopOwed ∧ t.port.sending = s.port.sending ∧
    t.collector.up = s.collector.up ∧ t.receivers = s.receivers

/-! ### Arithmetic and lookup (chapters 2 to 4) -/

/-- The canonical key set (R26): a key is in it exactly when some position mapped to it reads closed. -/
def Obligations.CanonicalKeysFollowProfile : Prop :=
  ∀ (pr : KeyProfile) (raw : KeySet) (k : Fin 24),
    (canonicalKeys pr raw).getLsbD k = true ↔
      ∃ pos : Fin 24, pr.map[pos] = some k ∧
        (if pr.inversion.getLsbD pos then raw.getLsbD pos = false else raw.getLsbD pos = true)

/-- The lookup (R63): no match when no valid entry matches, else the valid matching entry of greatest specificity,
the lowest of equals. An entry matches when key set and pattern agree on every key of its care set (R62). What the
lookup gives is the winner's index with the note, cent and voicing of its entry (R66). -/
def Obligations.LookupPicksMostSpecific : Prop :=
  ∀ (table : Vector Fingering 256) (ks : KeySet),
    let meets := fun (f : Fingering) =>
      f.valid = true ∧ ∀ k : Fin 24, f.care.getLsbD k = true → ks.getLsbD k = f.pattern.getLsbD k
    let specificity := fun (f : Fingering) => (List.finRange 24).countP fun k => f.care.getLsbD k
    (lookupEntry table ks = none ↔ ∀ i : EntryIx, ¬meets table[i]) ∧
    (∀ i : EntryIx, lookupEntry table ks = some i →
      meets table[i] ∧ ∀ j : EntryIx, meets table[j] →
        specificity table[j] < specificity table[i] ∨
          (specificity table[j] = specificity table[i] ∧ i ≤ j)) ∧
    lookupSet table ks =
      (lookupEntry table ks).map fun i =>
        { entry := i, note := table[i].note, cent := table[i].cent, voicing := table[i].voicing }

/-- The clamp (R1). The breath path: the offset and gain stages (R40, R41) and the curve stage with its floor division
(R42), whose value stays between the two points of its segment and meets the first exactly. The slew (R45), the level
of a layer (R46) and the velocity of an onset (R47). The pitch code: the roller octave (R48), the lip bend, truncated
toward zero, symmetric about the lip center and within the bend range (R49), and the sum and its clamp (R50). -/
def Obligations.CurveAndBendStayInRange : Prop :=
  (∀ lo hi v : Int, lo ≤ hi → clamp lo hi v = max lo (min hi v)) ∧
  (∀ (st : Settings) (a : Nat),
    (scaledPressure st a : Int) = min 4095 (max 0 ((a : Int) - st.zero) * st.gain / 256)) ∧
  (∀ (pts : Curve) (k f : Nat) (hk : k < 8), f < 512 →
    let e := curveValue pts (512 * k + f)
    (e : Int) = pts[k] + ((pts[k + 1] : Int) - pts[k]) * f / 512 ∧
    min pts[k] pts[k + 1] ≤ e ∧ e ≤ max pts[k] pts[k + 1] ∧ (f = 0 → e = pts[k])) ∧
  (∀ slew out e trim gain q qPrev : Nat,
    slewed slew out e =
      (if e ≤ out + slew ∧ out ≤ e + slew then e else if out < e then out + slew else out - slew) ∧
    layerLevel out trim = out * trim / 127 ∧
    (onsetVelocityOf gain q qPrev : Int) = max 1 (min 127 (((q : Int) - qPrev) * gain / 64))) ∧
  (∀ (st : Settings) (o note : Nat) (roller lip : Option Nat) (cent interval : Int),
    rollerOctave st (some o) = 12 * ((o : Int) - st.rollerCenter) ∧ rollerOctave st none = 0 ∧
    (let offset : Int := (o : Int) - st.lipCenter
    let bend : Int := (offset.natAbs * st.bendRange / 512 : Nat)
    lipBend st (some o) =
      max (-(st.bendRange : Int)) (min st.bendRange (if 0 ≤ offset then bend else -bend))) ∧
    pitchValue st roller lip note cent interval =
      64 * ((note : Int) + rollerOctave st roller + st.transpose + interval) + cent + st.tune +
        lipBend st lip ∧
    ∀ v : Int, (pitchCode v : Int) = max 0 (min 8191 v)) ∧
  ∀ (st : Settings) (d : Nat), d ≤ st.lipCenter →
    lipBend st (some (st.lipCenter + d)) = -lipBend st (some (st.lipCenter - d)) ∧
    -(st.bendRange : Int) ≤ lipBend st (some (st.lipCenter + d)) ∧
    lipBend st (some (st.lipCenter + d)) ≤ st.bendRange ∧
    lipBend st none = 0

/-! ### The voice pool and the emission queue (chapters 6 and 7) -/

/-- The search of an allocation (R108, R109): class by class, the lowest-numbered FREE voice with nothing downstream,
else the lowest-numbered FREE voice with a note or a tail downstream, else the head of the release list, else a
SOUNDING voice of a priority strictly below the request's. Under FIXED the victim is of the lowest priority present,
and no voice of that priority stands ahead of it in the age list. Under ROTATING the victim's slot owns a voice of the
lowest priority, no slot ahead of it on the way round from the rotation pointer does, and no other voice of it among
those considered stands ahead of the victim in the age list (that of a slot's voices only those considered can fall
is log 24's reading).

Taking the candidate from its former use (R112): of class 1 nothing is taken; of classes 2 and 3 every record of the
dn generation leaves the queue and a CUT is appended, and a class 3 voice leaves the release list with its timer
stopped; a class 4 voice leaves the age list and its layer entry (R93), its unsent START is removed or its note is cut
as before, STEAL is raised, and under ROTATING alone the pointer moves, to the victim's slot (R110). The CUT is
appended at 64 records too, room being made as O54 gives it (R129). The taking leaves the stall timer as it is, since
its condition is judged once the layer's START is appended (the model's choice, log 11; O43). -/
def Obligations.AllocationSearchesClasses : Prop :=
  (∀ (s : State) (mode : StealMode) (π : Fin 4), s.PoolLaws →
    let free1 := fun (v : VoiceIx) => (s.voice v).phase = .free ∧ (s.voice v).dn = .none
    let free2 := fun (v : VoiceIx) => (s.voice v).phase = .free ∧ ((s.voice v).dn = .opened ∨ (s.voice v).dn = .tail)
    let below := fun (v : VoiceIx) => ∃ o, (s.voice v).phase = .sounding ∧ (s.voice v).owner = some o ∧ o.priority < π
    (∀ v, s.pool.candidate mode π = some (.class1, v) ↔ free1 v ∧ ∀ w, w < v → ¬free1 w) ∧
    (∀ v, s.pool.candidate mode π = some (.class2, v) ↔
      (∀ w, ¬free1 w) ∧ free2 v ∧ ∀ w, w < v → ¬free2 w) ∧
    (∀ v, s.pool.candidate mode π = some (.class3, v) ↔
      (∀ w, ¬free1 w) ∧ (∀ w, ¬free2 w) ∧ s.pool.releaseList.head? = some v) ∧
    (∀ v, s.pool.candidate mode π = some (.class4, v) →
      (∀ w, ¬free1 w) ∧ (∀ w, ¬free2 w) ∧ s.pool.releaseList = [] ∧ below v) ∧
    (s.pool.candidate mode π = none ↔
      (∀ w, ¬free1 w) ∧ (∀ w, ¬free2 w) ∧ s.pool.releaseList = [] ∧ ∀ w, ¬below w) ∧
    (∀ v a c o, s.pool.candidate .fixed π = some (.class4, v) → s.pool.ageList = a ++ v :: c →
      (s.voice v).owner = some o →
      (∀ w o', (s.voice w).owner = some o' → o.priority ≤ o'.priority) ∧
      ∀ w ∈ a, ∀ o', (s.voice w).owner = some o' → o.priority < o'.priority) ∧
    ∀ v a c o, s.pool.candidate .rotating π = some (.class4, v) → s.pool.ageList = a ++ v :: c →
      (s.voice v).owner = some o →
      let turn := fun (i : SlotIx) => (i - s.pool.rotation - 1).val
      (∃ w o', (s.voice w).owner = some o' ∧ o'.slot = o.slot ∧
        ∀ y o'', (s.voice y).owner = some o'' →
          o'.priority < o''.priority ∨ (o'.priority = o''.priority ∧ turn o.slot ≤ turn o''.slot)) ∧
      ∀ w ∈ a, ∀ o', (s.voice w).owner = some o' → o'.slot = o.slot → π ≤ o'.priority) ∧
  ∀ (s : State) (v : VoiceIx) (requester : SlotIx),
    let x := s.voice v
    let kept := s.port.queue.filter fun r => !(r.key == some (v, x.dnGeneration))
    let cut := fun (t : State) => (t.setQueue kept).enqueue (.stop v x.dnGeneration .cut)
    (kept.length < 64 → ∀ t : State, cut t = t.setQueue (kept ++ [.stop v x.dnGeneration .cut])) ∧
    s.takeVoice .class1 v requester = s ∧ s.takeVoice .class2 v requester = cut s ∧
    s.takeVoice .class3 v requester =
      cut ((s.setReleaseList (s.pool.releaseList.erase v)).setVoice v { x with releaseTimer := none }) ∧
    ∀ o : Owner, x.owner = some o →
      let taken := ((s.setAgeList (s.pool.ageList.erase v)).setSlot o.slot
        { s.slot o.slot with
          layers := (s.slot o.slot).layers.map fun e => if e = some v then none else e }).setVoice v
        { x with owner := none }
      let silenced := if x.dn = .opened then cut taken
        else if x.dn = .pending then
          taken.setQueue (s.port.queue.filter fun r => !(r.isStart && r.key == some (v, x.generation)))
        else taken
      let stolen := silenced.raise (.steal v o.slot requester)
      s.takeVoice .class4 v requester =
        match s.responder.engine.stealMode with
        | .fixed => stolen
        | .rotating => stolen.setRotation o.slot

/-- A release takes one of two courses. With dn PENDING (R114): the START of the voice's generation leaves the queue
and nothing is appended, the voice is FREE with nothing downstream, its generation kept. With dn OPEN (R115): the
voice's RETUNE and LEVEL records leave the queue and a STOP of the release's kind is appended, the voice is RELEASING
at the tail of the release list under the release timeout, its dn state kept; the STOP is appended at 64 records too,
room being made as O54 gives it (R129). In both courses the stall timer then follows its condition (R135), as O38
gives it; that the condition is judged once, after the release's removals and its STOP's append and not between them,
is the model's choice (log 11). The voices of a layer list are released in layer order with the stop kind of the
event, each in the state that the release before it leaves, and absent entries are skipped (R12, R17, R85, R91). -/
def Obligations.ReleaseTakesItsCourse : Prop :=
  (∀ (s : State) (v : VoiceIx) (k : StopKind),
    let x := s.voice v
    let t := s.releaseVoice v k
    (x.dn = .pending →
      t = State.settleStall
        (((s.setQueue (s.port.queue.filter fun r => !(r.isStart && r.key == some (v, x.generation)))).setAgeList
          (s.pool.ageList.erase v)).setVoice v
          { x with phase := .free, owner := none, dn := .none, pitchOwed := false, levelOwed := false }) ∧
      t.port.queue = s.port.queue.filter (fun r => !(r.isStart && r.key == some (v, x.generation))) ∧
      t.voice v =
        { x with phase := .free, owner := none, dn := .none, pitchOwed := false, levelOwed := false } ∧
      t.pool.ageList = s.pool.ageList.erase v ∧ t.pool.releaseList = s.pool.releaseList ∧
      (∀ w : VoiceIx, w ≠ v → t.voice w = s.voice w) ∧ t.notices = s.notices) ∧
    (x.dn = .opened →
      t = State.settleStall
        (((State.enqueue
          (s.setQueue (s.port.queue.filter fun r => !(r.isUpdate && r.key == some (v, x.generation))))
          (.stop v x.generation k)).setAgeList (s.pool.ageList.erase v)).setReleaseList
            (s.pool.releaseList ++ [v]) |>.setVoice v
              { x with
                phase := .releasing, owner := none, pitchOwed := false, levelOwed := false
                releaseTimer := some s.responder.engine.releaseTimeout })) ∧
    (x.dn = .opened →
      s.port.queue.length < 64 ∨ (∃ r ∈ s.port.queue, r.isUpdate = true ∧ r.key = some (v, x.generation)) →
      s.port.queue.length ≤ 64 →
      t.port.queue =
        s.port.queue.filter (fun r => !(r.isUpdate && r.key == some (v, x.generation))) ++
          [.stop v x.generation k] ∧
      t.voice v =
        { x with
          phase := .releasing, owner := none, pitchOwed := false, levelOwed := false
          releaseTimer := some s.responder.engine.releaseTimeout } ∧
      t.pool.ageList = s.pool.ageList.erase v ∧ t.pool.releaseList = s.pool.releaseList ++ [v] ∧
      (∀ w : VoiceIx, w ≠ v → t.voice w = s.voice w) ∧ t.notices = s.notices) ∧
    t.slots = s.slots ∧ t.store = s.store ∧ t.responder = s.responder ∧ t.receivers = s.receivers ∧
    t.pool.rotation = s.pool.rotation ∧ t.port.credit = s.port.credit ∧ t.port.attached = s.port.attached ∧
    t.port.allStopOwed = s.port.allStopOwed ∧ t.port.sending = s.port.sending ∧ t.freeCount = s.freeCount) ∧
  ∀ (s : State) (v : VoiceIx) (k : StopKind) (es : List (Option VoiceIx)),
    State.releaseLayers k [] s = s ∧
    State.releaseLayers k (none :: es) s = State.releaseLayers k es s ∧
    State.releaseLayers k (some v :: es) s = State.releaseLayers k es (s.releaseVoice v k)

/-- The queue takes an offered LEVEL by the first case that applies (R126), and the voice's last queued level becomes
its value; an offered RETUNE likewise. Nothing else changes but the stall timer, by its condition (R135): a merge or a
replacement in place makes no room, however many records are queued, and an offered record is appended at 64 records
too. A record is appended at the tail, and an owed ALL_STOP placed at the head, once room has been made: a queue with
room is left as it is, and a full one evicts the LEVEL nearest the head, or with none the RETUNE nearest the head, whose
voice then owes a refresh, and EVICT is raised: a clear latch is set with the voice and the kind of the record lost as
its capture (R129; that room is made for an ALL_STOP too is log 13's choice). A full queue with neither, which R128
rules out, is left as it is, without the record (log 12's reading). -/
def Obligations.QueueTakesRecords : Prop :=
  ∀ (s : State) (v : VoiceIx) (a c : List VoiceRecord) (n ch pg pc vel lv : Nat) (r : VoiceRecord),
    let g := (s.voice v).generation
    (s.port.queue = a ++ .start v g ch pg pc vel lv :: c →
      (∀ y ∈ a ++ c, (y.isStart && y.isFor v g) = false) →
      (s.offerLevel v n).port.queue = a ++ .start v g ch pg pc vel n :: c ∧
        (s.offerRetune v n).port.queue = a ++ .start v g ch pg n vel lv :: c) ∧
    (s.port.queue = a ++ .level v g lv :: c →
      (∀ y ∈ a ++ c, ((y.isStart || y.isLevel) && y.isFor v g) = false) →
      (s.offerLevel v n).port.queue = a ++ .level v g n :: c) ∧
    (s.port.queue = a ++ .retune v g pc :: c →
      (∀ y ∈ a ++ c, ((y.isStart || y.isRetune) && y.isFor v g) = false) →
      (s.offerRetune v n).port.queue = a ++ .retune v g n :: c) ∧
    ((∀ y ∈ s.port.queue, ((y.isStart || y.isLevel) && y.isFor v g) = false) → s.port.queue.length < 64 →
      (s.offerLevel v n).port.queue = s.port.queue ++ [.level v g n]) ∧
    ((∀ y ∈ s.port.queue, ((y.isStart || y.isRetune) && y.isFor v g) = false) → s.port.queue.length < 64 →
      (s.offerRetune v n).port.queue = s.port.queue ++ [.retune v g n]) ∧
    ((s.offerLevel v n).voice v).lastLevel = n ∧ ((s.offerRetune v n).voice v).lastPitch = n ∧
    (s.port.queue.length < 64 ∨ (∃ y ∈ s.port.queue, ((y.isStart || y.isLevel) && y.isFor v g) = true) →
      s.offerLevel v n =
        State.settleStall
          ((s.setQueue (s.offerLevel v n).port.queue).setVoice v { s.voice v with lastLevel := n })) ∧
    (s.port.queue.length < 64 ∨ (∃ y ∈ s.port.queue, ((y.isStart || y.isRetune) && y.isFor v g) = true) →
      s.offerRetune v n =
        State.settleStall
          ((s.setQueue (s.offerRetune v n).port.queue).setVoice v { s.voice v with lastPitch := n })) ∧
    ((∀ y ∈ s.port.queue, ((y.isStart || y.isLevel) && y.isFor v g) = false) →
      let u := s.enqueue (.level v g n)
      s.offerLevel v n = State.settleStall (u.setVoice v { u.voice v with lastLevel := n })) ∧
    ((∀ y ∈ s.port.queue, ((y.isStart || y.isRetune) && y.isFor v g) = false) →
      let u := s.enqueue (.retune v g n)
      s.offerRetune v n = State.settleStall (u.setVoice v { u.voice v with lastPitch := n })) ∧
    (s.port.queue.length < 64 → s.makeRoom = s) ∧
    (s.makeRoom.port.queue.length < 64 →
      s.enqueue r = s.makeRoom.setQueue (s.makeRoom.port.queue ++ [r]) ∧
      s.enqueueHead r = s.makeRoom.setQueue (r :: s.makeRoom.port.queue)) ∧
    (64 ≤ s.port.queue.length → (∀ y ∈ s.port.queue, y.isUpdate = false) →
      s.makeRoom = s ∧ s.enqueue r = s ∧ s.enqueueHead r = s) ∧
    (∀ h, s.port.queue = a ++ .level v h lv :: c → s.port.queue.length = 64 → (∀ y ∈ a, y.isLevel = false) →
      s.makeRoom =
        ((s.setQueue (a ++ c)).setVoice v { s.voice v with levelOwed := true }).raise (.evict v false) ∧
      (s.enqueue r).port.queue = a ++ c ++ [r] ∧
      (s.enqueue r).voice v = { s.voice v with levelOwed := true } ∧
      (s.enqueue r).notices.latches[8].first.isSome = true ∧
      (s.notices.latches[8].first = none → (s.enqueue r).notices.latches[8].first = some (.evict v false)) ∧
      (s.enqueue r).notices = (s.raise (.evict v false)).notices) ∧
    (∀ h, s.port.queue = a ++ .retune v h pc :: c → s.port.queue.length = 64 →
      (∀ y ∈ a ++ c, y.isLevel = false) → (∀ y ∈ a, y.isRetune = false) →
      s.makeRoom =
        ((s.setQueue (a ++ c)).setVoice v { s.voice v with pitchOwed := true }).raise (.evict v true) ∧
      (s.enqueue r).port.queue = a ++ c ++ [r] ∧
      (s.enqueue r).voice v = { s.voice v with pitchOwed := true } ∧
      (s.enqueue r).notices.latches[8].first.isSome = true ∧
      (s.notices.latches[8].first = none → (s.enqueue r).notices.latches[8].first = some (.evict v true)) ∧
      (s.enqueue r).notices = (s.raise (.evict v true)).notices)

/-! ### Encodings and invariants -/

/-- Every table entry within its ranges is read back from the bytes it is sent in, with whatever bytes follow: no
bit of an entry's encoding is dropped (R188). A value of two bytes is read and sent with its most significant byte
first (R183). -/
def Obligations.TableEntriesReadBack : Prop :=
  (∀ (e : TableEntry) (rest : List Byte), e.Storable → readEntry e.kind (e.bytes ++ rest) = some (e, rest)) ∧
  ∀ a b : Byte, (half a b).toNat = 256 * a.toNat + b.toNat ∧ halfBytes (half a b) = [a, b]

/-- Every step keeps the ranges of every slot's fields and settings, of every table entry (R5, R6, R27, R43, R60, R68),
of the pitch codes, velocities and levels placed in records (R58), of the last queued pitch and level of each voice
(R102) and of the engine settings (R163). -/
def Obligations.RangesKept : Prop :=
  ∀ s t : State, s.SlotRanges → s.RecordRanges → s.EngineRanges → step s = .next t →
    t.SlotRanges ∧ t.RecordRanges ∧ t.EngineRanges

/-- Every step keeps the laws of the slots, of the tags, of the banks and of long work (R5, R10, R144, R147 to
R149). -/
def Obligations.SlotAndBankLawsKept : Prop :=
  ∀ s t : State, s.SlotLaws → s.TagsDistinct → s.BankLaws → s.WorkLaws → step s = .next t →
    t.SlotLaws ∧ t.TagsDistinct ∧ t.BankLaws ∧ t.WorkLaws

/-- Every step keeps the laws of the pool and of what the queue holds: the lists hold what their names say, each
SOUNDING voice is named in exactly its owner's layer entry, every record in the queue belongs to the note its voice is
at, the START, STOP and CUT records of a voice stand in one of the orders of R128 with a CUT ahead of its START, every
note that is PENDING has its START queued, and while an ALL_STOP is queued or owed nothing but STARTs stands beside it
(R103, R104, R106, R113, R118, R126, R128, R140). -/
def Obligations.PoolLawsKept : Prop :=
  ∀ s t : State, s.SlotLaws → s.SlotRanges → s.PoolLaws → s.LayersAgree → s.StartsPending → s.StopsOpen →
    s.PortBounds → s.QueueLaws → step s = .next t →
    t.PoolLaws ∧ t.LayersAgree ∧ t.StartsPending ∧ t.StopsOpen ∧ t.QueueLaws

/-- Every step keeps the bounds of the queue and the credit count, the law of the stall timer, that at most one
ALL_STOP is queued, at the head, with none owed beside it, and the laws of the two receivers (R128, R134, R135, R136,
R140, R184). -/
def Obligations.PortLawsKept : Prop :=
  ∀ s t : State, s.PortBounds → s.DetachedLaw → s.StallLaw → s.AllStopLaw → s.ReceiverLaws →
    step s = .next t →
    t.PortBounds ∧ t.DetachedLaw ∧ t.StallLaw ∧ t.AllStopLaw ∧ t.ReceiverLaws

/-- Every step keeps the law of the notice line, the laws of the latches, the bound of the request list, the
silence of a collector link that is down, and that exactly one immediate reply is upstream while the responder waits
and none while it is idle (R161, R162, R174, R177, R178). -/
def Obligations.NoticeAndRequestLawsKept : Prop :=
  ∀ s t : State, s.LineLaw → s.LatchLaws → s.RequestLaws → s.DownLaw → s.ReplyLaw →
    step s = .next t →
    t.LineLaw ∧ t.LatchLaws ∧ t.RequestLaws ∧ t.DownLaw ∧ t.ReplyLaw
end

