-- ==== Sys2Proof/Laws/State.lean ====
section
/-! SUPPORT. What each named update of the state leaves as it was, and what it writes: one lemma per field per
update, so that no later proof unfolds a record update. -/

namespace Sys2Proof.Machine

open Sys2Proof

/-! ### State.setSlot -/

@[simp] theorem State.setSlot_collector (s : State) (i : SlotIx) (x : Slot) : (s.setSlot i x).collector = s.collector := rfl
@[simp] theorem State.setSlot_receivers (s : State) (i : SlotIx) (x : Slot) : (s.setSlot i x).receivers = s.receivers := rfl
@[simp] theorem State.setSlot_pool (s : State) (i : SlotIx) (x : Slot) : (s.setSlot i x).pool = s.pool := rfl
@[simp] theorem State.setSlot_port (s : State) (i : SlotIx) (x : Slot) : (s.setSlot i x).port = s.port := rfl
@[simp] theorem State.setSlot_store (s : State) (i : SlotIx) (x : Slot) : (s.setSlot i x).store = s.store := rfl
@[simp] theorem State.setSlot_responder (s : State) (i : SlotIx) (x : Slot) : (s.setSlot i x).responder = s.responder := rfl
@[simp] theorem State.setSlot_notices (s : State) (i : SlotIx) (x : Slot) : (s.setSlot i x).notices = s.notices := rfl
@[simp] theorem State.setSlot_freeCount (s : State) (i : SlotIx) (x : Slot) : (s.setSlot i x).freeCount = s.freeCount := rfl
@[simp] theorem State.setSlot_pending (s : State) (i : SlotIx) (x : Slot) : (s.setSlot i x).pending = s.pending := rfl
@[simp] theorem State.setSlot_voice (s : State) (i : SlotIx) (x : Slot) (j : VoiceIx) : (s.setSlot i x).voice j = s.voice j := rfl
@[simp] theorem State.setSlot_bank (s : State) (i : SlotIx) (x : Slot) (j : BankIx) : (s.setSlot i x).bank j = s.bank j := rfl

/-! ### State.setVoice -/

@[simp] theorem State.setVoice_collector (s : State) (v : VoiceIx) (x : Voice) : (s.setVoice v x).collector = s.collector := rfl
@[simp] theorem State.setVoice_receivers (s : State) (v : VoiceIx) (x : Voice) : (s.setVoice v x).receivers = s.receivers := rfl
@[simp] theorem State.setVoice_slots (s : State) (v : VoiceIx) (x : Voice) : (s.setVoice v x).slots = s.slots := rfl
@[simp] theorem State.setVoice_port (s : State) (v : VoiceIx) (x : Voice) : (s.setVoice v x).port = s.port := rfl
@[simp] theorem State.setVoice_store (s : State) (v : VoiceIx) (x : Voice) : (s.setVoice v x).store = s.store := rfl
@[simp] theorem State.setVoice_responder (s : State) (v : VoiceIx) (x : Voice) : (s.setVoice v x).responder = s.responder := rfl
@[simp] theorem State.setVoice_notices (s : State) (v : VoiceIx) (x : Voice) : (s.setVoice v x).notices = s.notices := rfl
@[simp] theorem State.setVoice_freeCount (s : State) (v : VoiceIx) (x : Voice) : (s.setVoice v x).freeCount = s.freeCount := rfl
@[simp] theorem State.setVoice_pending (s : State) (v : VoiceIx) (x : Voice) : (s.setVoice v x).pending = s.pending := rfl
@[simp] theorem State.setVoice_slot (s : State) (v : VoiceIx) (x : Voice) (j : SlotIx) : (s.setVoice v x).slot j = s.slot j := rfl
@[simp] theorem State.setVoice_bank (s : State) (v : VoiceIx) (x : Voice) (j : BankIx) : (s.setVoice v x).bank j = s.bank j := rfl

/-! ### State.setBank -/

@[simp] theorem State.setBank_collector (s : State) (b : BankIx) (x : Bank) : (s.setBank b x).collector = s.collector := rfl
@[simp] theorem State.setBank_receivers (s : State) (b : BankIx) (x : Bank) : (s.setBank b x).receivers = s.receivers := rfl
@[simp] theorem State.setBank_slots (s : State) (b : BankIx) (x : Bank) : (s.setBank b x).slots = s.slots := rfl
@[simp] theorem State.setBank_pool (s : State) (b : BankIx) (x : Bank) : (s.setBank b x).pool = s.pool := rfl
@[simp] theorem State.setBank_port (s : State) (b : BankIx) (x : Bank) : (s.setBank b x).port = s.port := rfl
@[simp] theorem State.setBank_responder (s : State) (b : BankIx) (x : Bank) : (s.setBank b x).responder = s.responder := rfl
@[simp] theorem State.setBank_notices (s : State) (b : BankIx) (x : Bank) : (s.setBank b x).notices = s.notices := rfl
@[simp] theorem State.setBank_freeCount (s : State) (b : BankIx) (x : Bank) : (s.setBank b x).freeCount = s.freeCount := rfl
@[simp] theorem State.setBank_pending (s : State) (b : BankIx) (x : Bank) : (s.setBank b x).pending = s.pending := rfl
@[simp] theorem State.setBank_slot (s : State) (b : BankIx) (x : Bank) (j : SlotIx) : (s.setBank b x).slot j = s.slot j := rfl
@[simp] theorem State.setBank_voice (s : State) (b : BankIx) (x : Bank) (j : VoiceIx) : (s.setBank b x).voice j = s.voice j := rfl

/-! ### State.setBankState -/

@[simp] theorem State.setBankState_collector (s : State) (b : BankIx) (x : BankState) : (s.setBankState b x).collector = s.collector := rfl
@[simp] theorem State.setBankState_receivers (s : State) (b : BankIx) (x : BankState) : (s.setBankState b x).receivers = s.receivers := rfl
@[simp] theorem State.setBankState_slots (s : State) (b : BankIx) (x : BankState) : (s.setBankState b x).slots = s.slots := rfl
@[simp] theorem State.setBankState_pool (s : State) (b : BankIx) (x : BankState) : (s.setBankState b x).pool = s.pool := rfl
@[simp] theorem State.setBankState_port (s : State) (b : BankIx) (x : BankState) : (s.setBankState b x).port = s.port := rfl
@[simp] theorem State.setBankState_responder (s : State) (b : BankIx) (x : BankState) : (s.setBankState b x).responder = s.responder := rfl
@[simp] theorem State.setBankState_notices (s : State) (b : BankIx) (x : BankState) : (s.setBankState b x).notices = s.notices := rfl
@[simp] theorem State.setBankState_freeCount (s : State) (b : BankIx) (x : BankState) : (s.setBankState b x).freeCount = s.freeCount := rfl
@[simp] theorem State.setBankState_pending (s : State) (b : BankIx) (x : BankState) : (s.setBankState b x).pending = s.pending := rfl
@[simp] theorem State.setBankState_slot (s : State) (b : BankIx) (x : BankState) (j : SlotIx) : (s.setBankState b x).slot j = s.slot j := rfl
@[simp] theorem State.setBankState_voice (s : State) (b : BankIx) (x : BankState) (j : VoiceIx) : (s.setBankState b x).voice j = s.voice j := rfl

/-! ### State.setAgeList -/

@[simp] theorem State.setAgeList_collector (s : State) (l : List VoiceIx) : (s.setAgeList l).collector = s.collector := rfl
@[simp] theorem State.setAgeList_receivers (s : State) (l : List VoiceIx) : (s.setAgeList l).receivers = s.receivers := rfl
@[simp] theorem State.setAgeList_slots (s : State) (l : List VoiceIx) : (s.setAgeList l).slots = s.slots := rfl
@[simp] theorem State.setAgeList_port (s : State) (l : List VoiceIx) : (s.setAgeList l).port = s.port := rfl
@[simp] theorem State.setAgeList_store (s : State) (l : List VoiceIx) : (s.setAgeList l).store = s.store := rfl
@[simp] theorem State.setAgeList_responder (s : State) (l : List VoiceIx) : (s.setAgeList l).responder = s.responder := rfl
@[simp] theorem State.setAgeList_notices (s : State) (l : List VoiceIx) : (s.setAgeList l).notices = s.notices := rfl
@[simp] theorem State.setAgeList_freeCount (s : State) (l : List VoiceIx) : (s.setAgeList l).freeCount = s.freeCount := rfl
@[simp] theorem State.setAgeList_pending (s : State) (l : List VoiceIx) : (s.setAgeList l).pending = s.pending := rfl
@[simp] theorem State.setAgeList_slot (s : State) (l : List VoiceIx) (j : SlotIx) : (s.setAgeList l).slot j = s.slot j := rfl
@[simp] theorem State.setAgeList_bank (s : State) (l : List VoiceIx) (j : BankIx) : (s.setAgeList l).bank j = s.bank j := rfl

/-! ### State.setReleaseList -/

@[simp] theorem State.setReleaseList_collector (s : State) (l : List VoiceIx) : (s.setReleaseList l).collector = s.collector := rfl
@[simp] theorem State.setReleaseList_receivers (s : State) (l : List VoiceIx) : (s.setReleaseList l).receivers = s.receivers := rfl
@[simp] theorem State.setReleaseList_slots (s : State) (l : List VoiceIx) : (s.setReleaseList l).slots = s.slots := rfl
@[simp] theorem State.setReleaseList_port (s : State) (l : List VoiceIx) : (s.setReleaseList l).port = s.port := rfl
@[simp] theorem State.setReleaseList_store (s : State) (l : List VoiceIx) : (s.setReleaseList l).store = s.store := rfl
@[simp] theorem State.setReleaseList_responder (s : State) (l : List VoiceIx) : (s.setReleaseList l).responder = s.responder := rfl
@[simp] theorem State.setReleaseList_notices (s : State) (l : List VoiceIx) : (s.setReleaseList l).notices = s.notices := rfl
@[simp] theorem State.setReleaseList_freeCount (s : State) (l : List VoiceIx) : (s.setReleaseList l).freeCount = s.freeCount := rfl
@[simp] theorem State.setReleaseList_pending (s : State) (l : List VoiceIx) : (s.setReleaseList l).pending = s.pending := rfl
@[simp] theorem State.setReleaseList_slot (s : State) (l : List VoiceIx) (j : SlotIx) : (s.setReleaseList l).slot j = s.slot j := rfl
@[simp] theorem State.setReleaseList_bank (s : State) (l : List VoiceIx) (j : BankIx) : (s.setReleaseList l).bank j = s.bank j := rfl

/-! ### State.setRotation -/

@[simp] theorem State.setRotation_collector (s : State) (i : SlotIx) : (s.setRotation i).collector = s.collector := rfl
@[simp] theorem State.setRotation_receivers (s : State) (i : SlotIx) : (s.setRotation i).receivers = s.receivers := rfl
@[simp] theorem State.setRotation_slots (s : State) (i : SlotIx) : (s.setRotation i).slots = s.slots := rfl
@[simp] theorem State.setRotation_port (s : State) (i : SlotIx) : (s.setRotation i).port = s.port := rfl
@[simp] theorem State.setRotation_store (s : State) (i : SlotIx) : (s.setRotation i).store = s.store := rfl
@[simp] theorem State.setRotation_responder (s : State) (i : SlotIx) : (s.setRotation i).responder = s.responder := rfl
@[simp] theorem State.setRotation_notices (s : State) (i : SlotIx) : (s.setRotation i).notices = s.notices := rfl
@[simp] theorem State.setRotation_freeCount (s : State) (i : SlotIx) : (s.setRotation i).freeCount = s.freeCount := rfl
@[simp] theorem State.setRotation_pending (s : State) (i : SlotIx) : (s.setRotation i).pending = s.pending := rfl
@[simp] theorem State.setRotation_slot (s : State) (i : SlotIx) (j : SlotIx) : (s.setRotation i).slot j = s.slot j := rfl
@[simp] theorem State.setRotation_bank (s : State) (i : SlotIx) (j : BankIx) : (s.setRotation i).bank j = s.bank j := rfl

/-! ### State.setQueue -/

@[simp] theorem State.setQueue_collector (s : State) (q : List VoiceRecord) : (s.setQueue q).collector = s.collector := rfl
@[simp] theorem State.setQueue_receivers (s : State) (q : List VoiceRecord) : (s.setQueue q).receivers = s.receivers := rfl
@[simp] theorem State.setQueue_slots (s : State) (q : List VoiceRecord) : (s.setQueue q).slots = s.slots := rfl
@[simp] theorem State.setQueue_pool (s : State) (q : List VoiceRecord) : (s.setQueue q).pool = s.pool := rfl
@[simp] theorem State.setQueue_store (s : State) (q : List VoiceRecord) : (s.setQueue q).store = s.store := rfl
@[simp] theorem State.setQueue_responder (s : State) (q : List VoiceRecord) : (s.setQueue q).responder = s.responder := rfl
@[simp] theorem State.setQueue_notices (s : State) (q : List VoiceRecord) : (s.setQueue q).notices = s.notices := rfl
@[simp] theorem State.setQueue_freeCount (s : State) (q : List VoiceRecord) : (s.setQueue q).freeCount = s.freeCount := rfl
@[simp] theorem State.setQueue_pending (s : State) (q : List VoiceRecord) : (s.setQueue q).pending = s.pending := rfl
@[simp] theorem State.setQueue_slot (s : State) (q : List VoiceRecord) (j : SlotIx) : (s.setQueue q).slot j = s.slot j := rfl
@[simp] theorem State.setQueue_voice (s : State) (q : List VoiceRecord) (j : VoiceIx) : (s.setQueue q).voice j = s.voice j := rfl
@[simp] theorem State.setQueue_bank (s : State) (q : List VoiceRecord) (j : BankIx) : (s.setQueue q).bank j = s.bank j := rfl

/-! ### State.setWork -/

@[simp] theorem State.setWork_collector (s : State) (w : List Work) : (s.setWork w).collector = s.collector := rfl
@[simp] theorem State.setWork_receivers (s : State) (w : List Work) : (s.setWork w).receivers = s.receivers := rfl
@[simp] theorem State.setWork_slots (s : State) (w : List Work) : (s.setWork w).slots = s.slots := rfl
@[simp] theorem State.setWork_pool (s : State) (w : List Work) : (s.setWork w).pool = s.pool := rfl
@[simp] theorem State.setWork_port (s : State) (w : List Work) : (s.setWork w).port = s.port := rfl
@[simp] theorem State.setWork_responder (s : State) (w : List Work) : (s.setWork w).responder = s.responder := rfl
@[simp] theorem State.setWork_notices (s : State) (w : List Work) : (s.setWork w).notices = s.notices := rfl
@[simp] theorem State.setWork_freeCount (s : State) (w : List Work) : (s.setWork w).freeCount = s.freeCount := rfl
@[simp] theorem State.setWork_pending (s : State) (w : List Work) : (s.setWork w).pending = s.pending := rfl
@[simp] theorem State.setWork_slot (s : State) (w : List Work) (j : SlotIx) : (s.setWork w).slot j = s.slot j := rfl
@[simp] theorem State.setWork_voice (s : State) (w : List Work) (j : VoiceIx) : (s.setWork w).voice j = s.voice j := rfl

/-! ### State.setEngine -/

@[simp] theorem State.setEngine_collector (s : State) (e : Engine) : (s.setEngine e).collector = s.collector := rfl
@[simp] theorem State.setEngine_receivers (s : State) (e : Engine) : (s.setEngine e).receivers = s.receivers := rfl
@[simp] theorem State.setEngine_slots (s : State) (e : Engine) : (s.setEngine e).slots = s.slots := rfl
@[simp] theorem State.setEngine_pool (s : State) (e : Engine) : (s.setEngine e).pool = s.pool := rfl
@[simp] theorem State.setEngine_port (s : State) (e : Engine) : (s.setEngine e).port = s.port := rfl
@[simp] theorem State.setEngine_store (s : State) (e : Engine) : (s.setEngine e).store = s.store := rfl
@[simp] theorem State.setEngine_notices (s : State) (e : Engine) : (s.setEngine e).notices = s.notices := rfl
@[simp] theorem State.setEngine_freeCount (s : State) (e : Engine) : (s.setEngine e).freeCount = s.freeCount := rfl
@[simp] theorem State.setEngine_pending (s : State) (e : Engine) : (s.setEngine e).pending = s.pending := rfl
@[simp] theorem State.setEngine_slot (s : State) (e : Engine) (j : SlotIx) : (s.setEngine e).slot j = s.slot j := rfl
@[simp] theorem State.setEngine_voice (s : State) (e : Engine) (j : VoiceIx) : (s.setEngine e).voice j = s.voice j := rfl
@[simp] theorem State.setEngine_bank (s : State) (e : Engine) (j : BankIx) : (s.setEngine e).bank j = s.bank j := rfl

/-! ### State.setReceiver -/

@[simp] theorem State.setReceiver_slots (s : State) (l : Link) (r : Receiver) : (s.setReceiver l r).slots = s.slots := rfl
@[simp] theorem State.setReceiver_pool (s : State) (l : Link) (r : Receiver) : (s.setReceiver l r).pool = s.pool := rfl
@[simp] theorem State.setReceiver_port (s : State) (l : Link) (r : Receiver) : (s.setReceiver l r).port = s.port := rfl
@[simp] theorem State.setReceiver_store (s : State) (l : Link) (r : Receiver) : (s.setReceiver l r).store = s.store := rfl
@[simp] theorem State.setReceiver_responder (s : State) (l : Link) (r : Receiver) : (s.setReceiver l r).responder = s.responder := rfl
@[simp] theorem State.setReceiver_notices (s : State) (l : Link) (r : Receiver) : (s.setReceiver l r).notices = s.notices := rfl
@[simp] theorem State.setReceiver_collector (s : State) (l : Link) (r : Receiver) : (s.setReceiver l r).collector = s.collector := rfl
@[simp] theorem State.setReceiver_freeCount (s : State) (l : Link) (r : Receiver) : (s.setReceiver l r).freeCount = s.freeCount := rfl
@[simp] theorem State.setReceiver_pending (s : State) (l : Link) (r : Receiver) : (s.setReceiver l r).pending = s.pending := rfl
@[simp] theorem State.setReceiver_slot (s : State) (l : Link) (r : Receiver) (j : SlotIx) : (s.setReceiver l r).slot j = s.slot j := rfl
@[simp] theorem State.setReceiver_voice (s : State) (l : Link) (r : Receiver) (j : VoiceIx) : (s.setReceiver l r).voice j = s.voice j := rfl
@[simp] theorem State.setReceiver_bank (s : State) (l : Link) (r : Receiver) (j : BankIx) : (s.setReceiver l r).bank j = s.bank j := rfl
@[simp] theorem State.setReceiver_linkUp (s : State) (l m : Link) (r : Receiver) : (s.setReceiver l r).linkUp m = s.linkUp m := by
  cases m <;> rfl
@[simp] theorem State.receiver_setReceiver_same (s : State) (l : Link) (r : Receiver) : (s.setReceiver l r).receiver l = r := by
  cases l <;> rfl
theorem State.receiver_setReceiver_ne (s : State) {l m : Link} (r : Receiver) (h : m ≠ l) :
    (s.setReceiver l r).receiver m = s.receiver m := by
  cases l <;> cases m <;> first | rfl | exact absurd rfl h

/-! ### State.push -/

@[simp] theorem State.push_receivers (s : State) (p : Upstream) : (s.push p).receivers = s.receivers := rfl
@[simp] theorem State.push_slots (s : State) (p : Upstream) : (s.push p).slots = s.slots := rfl
@[simp] theorem State.push_pool (s : State) (p : Upstream) : (s.push p).pool = s.pool := rfl
@[simp] theorem State.push_port (s : State) (p : Upstream) : (s.push p).port = s.port := rfl
@[simp] theorem State.push_store (s : State) (p : Upstream) : (s.push p).store = s.store := rfl
@[simp] theorem State.push_responder (s : State) (p : Upstream) : (s.push p).responder = s.responder := rfl
@[simp] theorem State.push_notices (s : State) (p : Upstream) : (s.push p).notices = s.notices := rfl
@[simp] theorem State.push_freeCount (s : State) (p : Upstream) : (s.push p).freeCount = s.freeCount := rfl
@[simp] theorem State.push_pending (s : State) (p : Upstream) : (s.push p).pending = s.pending := rfl
@[simp] theorem State.push_slot (s : State) (p : Upstream) (j : SlotIx) : (s.push p).slot j = s.slot j := rfl
@[simp] theorem State.push_voice (s : State) (p : Upstream) (j : VoiceIx) : (s.push p).voice j = s.voice j := rfl
@[simp] theorem State.push_bank (s : State) (p : Upstream) (j : BankIx) : (s.push p).bank j = s.bank j := rfl

/-! ### What each update writes -/

@[simp] theorem State.setVoice_ageList (s : State) (v : VoiceIx) (x : Voice) :
    (s.setVoice v x).pool.ageList = s.pool.ageList := rfl
@[simp] theorem State.setVoice_releaseList (s : State) (v : VoiceIx) (x : Voice) :
    (s.setVoice v x).pool.releaseList = s.pool.releaseList := rfl
@[simp] theorem State.setVoice_rotation (s : State) (v : VoiceIx) (x : Voice) :
    (s.setVoice v x).pool.rotation = s.pool.rotation := rfl
@[simp] theorem State.setBank_work (s : State) (b : BankIx) (x : Bank) :
    (s.setBank b x).store.work = s.store.work := rfl
@[simp] theorem State.setBank_copied (s : State) (b : BankIx) (x : Bank) :
    (s.setBank b x).store.copied = s.store.copied := rfl
@[simp] theorem State.setBankState_work (s : State) (b : BankIx) (x : BankState) :
    (s.setBankState b x).store.work = s.store.work := rfl
@[simp] theorem State.setWork_work (s : State) (w : List Work) : (s.setWork w).store.work = w := rfl
@[simp] theorem State.setWork_banks (s : State) (w : List Work) :
    (s.setWork w).store.banks = s.store.banks := rfl
@[simp] theorem State.setWork_bank (s : State) (w : List Work) (b : BankIx) :
    (s.setWork w).bank b = s.bank b := rfl
@[simp] theorem State.setAgeList_ageList (s : State) (l : List VoiceIx) :
    (s.setAgeList l).pool.ageList = l := rfl
@[simp] theorem State.setAgeList_releaseList (s : State) (l : List VoiceIx) :
    (s.setAgeList l).pool.releaseList = s.pool.releaseList := rfl
@[simp] theorem State.setAgeList_rotation (s : State) (l : List VoiceIx) :
    (s.setAgeList l).pool.rotation = s.pool.rotation := rfl
@[simp] theorem State.setAgeList_voice (s : State) (l : List VoiceIx) (v : VoiceIx) :
    (s.setAgeList l).voice v = s.voice v := rfl
@[simp] theorem State.setReleaseList_ageList (s : State) (l : List VoiceIx) :
    (s.setReleaseList l).pool.ageList = s.pool.ageList := rfl
@[simp] theorem State.setReleaseList_releaseList (s : State) (l : List VoiceIx) :
    (s.setReleaseList l).pool.releaseList = l := rfl
@[simp] theorem State.setReleaseList_rotation (s : State) (l : List VoiceIx) :
    (s.setReleaseList l).pool.rotation = s.pool.rotation := rfl
@[simp] theorem State.setReleaseList_voice (s : State) (l : List VoiceIx) (v : VoiceIx) :
    (s.setReleaseList l).voice v = s.voice v := rfl
@[simp] theorem State.setRotation_rotation (s : State) (i : SlotIx) :
    (s.setRotation i).pool.rotation = i := rfl
@[simp] theorem State.setRotation_voice (s : State) (i : SlotIx) (v : VoiceIx) :
    (s.setRotation i).voice v = s.voice v := rfl
@[simp] theorem State.setRotation_ageList (s : State) (i : SlotIx) :
    (s.setRotation i).pool.ageList = s.pool.ageList := rfl
@[simp] theorem State.setRotation_releaseList (s : State) (i : SlotIx) :
    (s.setRotation i).pool.releaseList = s.pool.releaseList := rfl
@[simp] theorem State.setQueue_queue (s : State) (q : List VoiceRecord) : (s.setQueue q).port.queue = q := rfl
@[simp] theorem State.setQueue_credit (s : State) (q : List VoiceRecord) :
    (s.setQueue q).port.credit = s.port.credit := rfl
@[simp] theorem State.setQueue_attached (s : State) (q : List VoiceRecord) :
    (s.setQueue q).port.attached = s.port.attached := rfl
@[simp] theorem State.setQueue_allStopOwed (s : State) (q : List VoiceRecord) :
    (s.setQueue q).port.allStopOwed = s.port.allStopOwed := rfl
@[simp] theorem State.setQueue_stallTimer (s : State) (q : List VoiceRecord) :
    (s.setQueue q).port.stallTimer = s.port.stallTimer := rfl
@[simp] theorem State.setQueue_sending (s : State) (q : List VoiceRecord) :
    (s.setQueue q).port.sending = s.port.sending := rfl
@[simp] theorem State.setEngine_engine (s : State) (e : Engine) : (s.setEngine e).responder.engine = e := rfl
@[simp] theorem State.setEngine_requests (s : State) (e : Engine) :
    (s.setEngine e).responder.requests = s.responder.requests := rfl
@[simp] theorem State.setEngine_waiting (s : State) (e : Engine) :
    (s.setEngine e).responder.waiting = s.responder.waiting := rfl
@[simp] theorem CollectorPort.push_up (c : CollectorPort) (p : Upstream) : (c.push p).up = c.up := by
  unfold CollectorPort.push; split <;> rfl
theorem CollectorPort.push_upstream (c : CollectorPort) (p : Upstream) :
    (c.push p).upstream = if c.up then c.upstream ++ [p] else c.upstream := by
  unfold CollectorPort.push; split <;> rfl
@[simp] theorem State.push_up (s : State) (p : Upstream) : (s.push p).collector.up = s.collector.up :=
  s.collector.push_up p

/-! ### Reading what was written -/

/-- Slot j after slot i was replaced. -/
theorem State.slot_setSlot (s : State) (i j : SlotIx) (x : Slot) :
    (s.setSlot i x).slot j = if i = j then x else s.slot j := by
  simp [State.slot, State.setSlot, Vector.getElem_set, Fin.ext_iff]

/-- Voice w after voice v was replaced. -/
theorem State.voice_setVoice (s : State) (v w : VoiceIx) (x : Voice) :
    (s.setVoice v x).voice w = if v = w then x else s.voice w := by
  simp [State.voice, State.setVoice, Vector.getElem_set, Fin.ext_iff]

/-- Bank c after bank b was replaced. -/
theorem State.bank_setBank (s : State) (b d : BankIx) (x : Bank) :
    (s.setBank b x).bank d = if b = d then x else s.bank d := by
  simp [State.bank, State.setBank, Vector.getElem_set, Fin.ext_iff]

/-- Bank c after bank b was put into a state. -/
theorem State.bank_setBankState (s : State) (b d : BankIx) (x : BankState) :
    (s.setBankState b x).bank d = if b = d then { s.bank b with state := x } else s.bank d :=
  s.bank_setBank b d _

@[simp] theorem State.slot_setSlot_same (s : State) (i : SlotIx) (x : Slot) : (s.setSlot i x).slot i = x := by
  simp [State.slot_setSlot]
@[simp] theorem State.voice_setVoice_same (s : State) (v : VoiceIx) (x : Voice) :
    (s.setVoice v x).voice v = x := by
  simp [State.voice_setVoice]
@[simp] theorem State.bank_setBank_same (s : State) (b : BankIx) (x : Bank) : (s.setBank b x).bank b = x := by
  simp [State.bank_setBank]
theorem State.slot_setSlot_ne (s : State) {i j : SlotIx} (x : Slot) (h : i ≠ j) :
    (s.setSlot i x).slot j = s.slot j := by
  simp [State.slot_setSlot, h]
theorem State.voice_setVoice_ne (s : State) {v w : VoiceIx} (x : Voice) (h : v ≠ w) :
    (s.setVoice v x).voice w = s.voice w := by
  simp [State.voice_setVoice, h]

/-- Slot j after slot i was changed by f. -/
theorem State.slot_modSlot (s : State) (i j : SlotIx) (f : Slot → Slot) :
    (s.modSlot i f).slot j = if i = j then f (s.slot i) else s.slot j :=
  s.slot_setSlot i j _

/-- Voice w after voice v was changed by f. -/
theorem State.voice_modVoice (s : State) (v w : VoiceIx) (f : Voice → Voice) :
    (s.modVoice v f).voice w = if v = w then f (s.voice v) else s.voice w :=
  s.voice_setVoice v w _

@[simp] theorem State.slot_modSlot_same (s : State) (i : SlotIx) (f : Slot → Slot) :
    (s.modSlot i f).slot i = f (s.slot i) := s.slot_setSlot_same i _
@[simp] theorem State.voice_modVoice_same (s : State) (v : VoiceIx) (f : Voice → Voice) :
    (s.modVoice v f).voice v = f (s.voice v) := s.voice_setVoice_same v _

/-! ### State.modSlot -/

@[simp] theorem State.modSlot_collector (s : State) (i : SlotIx) (f : Slot → Slot) : (s.modSlot i f).collector = s.collector := rfl
@[simp] theorem State.modSlot_receivers (s : State) (i : SlotIx) (f : Slot → Slot) : (s.modSlot i f).receivers = s.receivers := rfl
@[simp] theorem State.modSlot_pool (s : State) (i : SlotIx) (f : Slot → Slot) : (s.modSlot i f).pool = s.pool := rfl
@[simp] theorem State.modSlot_port (s : State) (i : SlotIx) (f : Slot → Slot) : (s.modSlot i f).port = s.port := rfl
@[simp] theorem State.modSlot_store (s : State) (i : SlotIx) (f : Slot → Slot) : (s.modSlot i f).store = s.store := rfl
@[simp] theorem State.modSlot_responder (s : State) (i : SlotIx) (f : Slot → Slot) : (s.modSlot i f).responder = s.responder := rfl
@[simp] theorem State.modSlot_notices (s : State) (i : SlotIx) (f : Slot → Slot) : (s.modSlot i f).notices = s.notices := rfl
@[simp] theorem State.modSlot_freeCount (s : State) (i : SlotIx) (f : Slot → Slot) : (s.modSlot i f).freeCount = s.freeCount := rfl
@[simp] theorem State.modSlot_pending (s : State) (i : SlotIx) (f : Slot → Slot) : (s.modSlot i f).pending = s.pending := rfl
@[simp] theorem State.modSlot_voice (s : State) (i : SlotIx) (f : Slot → Slot) (j : VoiceIx) : (s.modSlot i f).voice j = s.voice j := rfl
@[simp] theorem State.modSlot_bank (s : State) (i : SlotIx) (f : Slot → Slot) (j : BankIx) : (s.modSlot i f).bank j = s.bank j := rfl

/-! ### State.modVoice -/

@[simp] theorem State.modVoice_collector (s : State) (v : VoiceIx) (f : Voice → Voice) : (s.modVoice v f).collector = s.collector := rfl
@[simp] theorem State.modVoice_receivers (s : State) (v : VoiceIx) (f : Voice → Voice) : (s.modVoice v f).receivers = s.receivers := rfl
@[simp] theorem State.modVoice_slots (s : State) (v : VoiceIx) (f : Voice → Voice) : (s.modVoice v f).slots = s.slots := rfl
@[simp] theorem State.modVoice_port (s : State) (v : VoiceIx) (f : Voice → Voice) : (s.modVoice v f).port = s.port := rfl
@[simp] theorem State.modVoice_store (s : State) (v : VoiceIx) (f : Voice → Voice) : (s.modVoice v f).store = s.store := rfl
@[simp] theorem State.modVoice_responder (s : State) (v : VoiceIx) (f : Voice → Voice) : (s.modVoice v f).responder = s.responder := rfl
@[simp] theorem State.modVoice_notices (s : State) (v : VoiceIx) (f : Voice → Voice) : (s.modVoice v f).notices = s.notices := rfl
@[simp] theorem State.modVoice_freeCount (s : State) (v : VoiceIx) (f : Voice → Voice) : (s.modVoice v f).freeCount = s.freeCount := rfl
@[simp] theorem State.modVoice_pending (s : State) (v : VoiceIx) (f : Voice → Voice) : (s.modVoice v f).pending = s.pending := rfl
@[simp] theorem State.modVoice_slot (s : State) (v : VoiceIx) (f : Voice → Voice) (j : SlotIx) : (s.modVoice v f).slot j = s.slot j := rfl
@[simp] theorem State.modVoice_bank (s : State) (v : VoiceIx) (f : Voice → Voice) (j : BankIx) : (s.modVoice v f).bank j = s.bank j := rfl
@[simp] theorem State.modVoice_ageList (s : State) (v : VoiceIx) (f : Voice → Voice) : (s.modVoice v f).pool.ageList = s.pool.ageList := rfl
@[simp] theorem State.modVoice_releaseList (s : State) (v : VoiceIx) (f : Voice → Voice) : (s.modVoice v f).pool.releaseList = s.pool.releaseList := rfl
@[simp] theorem State.modVoice_rotation (s : State) (v : VoiceIx) (f : Voice → Voice) : (s.modVoice v f).pool.rotation = s.pool.rotation := rfl

end Sys2Proof.Machine
end

