-- ==== Sys2Proof/Laws/Frames.lean ====
section
/-! SUPPORT. The frame of each shared operation: the parts of the state it never touches, one lemma per operation
and field. Every operation but the collector port's own leaves the state of the collector link as it was. -/

namespace Sys2Proof.Machine

open Sys2Proof

/-- What raise leaves as it was. -/
@[simp] theorem State.raise_frame (s : State) (c : Capture) :
    (s.raise c).slots = s.slots ∧
      (s.raise c).pool = s.pool ∧
      (s.raise c).port = s.port ∧
      (s.raise c).store = s.store ∧
      (s.raise c).responder = s.responder ∧
      (s.raise c).freeCount = s.freeCount ∧
      (s.raise c).receivers = s.receivers ∧
      (s.raise c).pending = s.pending ∧
      (s.raise c).collector.up = s.collector.up := by
  unfold State.raise; dsimp only; split <;> (try split) <;> simp

@[simp] theorem State.raise_reads (s : State) (c : Capture) :
    (∀ j, (s.raise c).slot j = s.slot j) ∧
      (∀ j, (s.raise c).voice j = s.voice j) ∧
      (∀ j, (s.raise c).bank j = s.bank j) := by
  simp [State.slot, State.voice, State.bank]

/-- What raiseIf leaves as it was. -/
@[simp] theorem State.raiseIf_frame (s : State) (b : Bool) (c : Capture) :
    (s.raiseIf b c).slots = s.slots ∧
      (s.raiseIf b c).pool = s.pool ∧
      (s.raiseIf b c).port = s.port ∧
      (s.raiseIf b c).store = s.store ∧
      (s.raiseIf b c).responder = s.responder ∧
      (s.raiseIf b c).freeCount = s.freeCount ∧
      (s.raiseIf b c).receivers = s.receivers ∧
      (s.raiseIf b c).pending = s.pending ∧
      (s.raiseIf b c).collector.up = s.collector.up := by
  unfold State.raiseIf; split <;> simp

@[simp] theorem State.raiseIf_reads (s : State) (b : Bool) (c : Capture) :
    (∀ j, (s.raiseIf b c).slot j = s.slot j) ∧
      (∀ j, (s.raiseIf b c).voice j = s.voice j) ∧
      (∀ j, (s.raiseIf b c).bank j = s.bank j) := by
  simp [State.slot, State.voice, State.bank]

/-- What noticeInterval leaves as it was. -/
@[simp] theorem State.noticeInterval_frame (s : State) :
    (s.noticeInterval).slots = s.slots ∧
      (s.noticeInterval).pool = s.pool ∧
      (s.noticeInterval).port = s.port ∧
      (s.noticeInterval).store = s.store ∧
      (s.noticeInterval).responder = s.responder ∧
      (s.noticeInterval).freeCount = s.freeCount ∧
      (s.noticeInterval).receivers = s.receivers ∧
      (s.noticeInterval).pending = s.pending ∧
      (s.noticeInterval).collector.up = s.collector.up := by
  unfold State.noticeInterval; split <;> (try split) <;> simp

@[simp] theorem State.noticeInterval_reads (s : State) :
    (∀ j, (s.noticeInterval).slot j = s.slot j) ∧
      (∀ j, (s.noticeInterval).voice j = s.voice j) ∧
      (∀ j, (s.noticeInterval).bank j = s.bank j) := by
  simp [State.slot, State.voice, State.bank]

/-- What oweRefresh leaves as it was. -/
@[simp] theorem State.oweRefresh_frame (s : State) (r : VoiceRecord) :
    (s.oweRefresh r).slots = s.slots ∧
      (s.oweRefresh r).port = s.port ∧
      (s.oweRefresh r).store = s.store ∧
      (s.oweRefresh r).responder = s.responder ∧
      (s.oweRefresh r).freeCount = s.freeCount ∧
      (s.oweRefresh r).receivers = s.receivers ∧
      (s.oweRefresh r).pending = s.pending ∧
      (s.oweRefresh r).collector.up = s.collector.up := by
  unfold State.oweRefresh; split <;> simp

@[simp] theorem State.oweRefresh_reads (s : State) (r : VoiceRecord) :
    (∀ j, (s.oweRefresh r).slot j = s.slot j) ∧
      (∀ j, (s.oweRefresh r).bank j = s.bank j) := by
  simp [State.slot, State.bank]

/-- What noteEviction leaves as it was. -/
@[simp] theorem State.noteEviction_frame (s : State) (r : VoiceRecord) :
    (s.noteEviction r).slots = s.slots ∧
      (s.noteEviction r).port = s.port ∧
      (s.noteEviction r).store = s.store ∧
      (s.noteEviction r).responder = s.responder ∧
      (s.noteEviction r).freeCount = s.freeCount ∧
      (s.noteEviction r).receivers = s.receivers ∧
      (s.noteEviction r).pending = s.pending ∧
      (s.noteEviction r).collector.up = s.collector.up := by
  unfold State.noteEviction; split <;> simp

@[simp] theorem State.noteEviction_reads (s : State) (r : VoiceRecord) :
    (∀ j, (s.noteEviction r).slot j = s.slot j) ∧
      (∀ j, (s.noteEviction r).bank j = s.bank j) := by
  simp [State.slot, State.bank]

/-- What makeRoom leaves as it was. -/
@[simp] theorem State.makeRoom_frame (s : State) :
    (s.makeRoom).slots = s.slots ∧
      (s.makeRoom).store = s.store ∧
      (s.makeRoom).responder = s.responder ∧
      (s.makeRoom).freeCount = s.freeCount ∧
      (s.makeRoom).receivers = s.receivers ∧
      (s.makeRoom).pending = s.pending ∧
      (s.makeRoom).collector.up = s.collector.up := by
  unfold State.makeRoom; split <;> (try split) <;> simp

@[simp] theorem State.makeRoom_reads (s : State) :
    (∀ j, (s.makeRoom).slot j = s.slot j) ∧
      (∀ j, (s.makeRoom).bank j = s.bank j) := by
  simp [State.slot, State.bank]

/-- What enqueue leaves as it was. -/
@[simp] theorem State.enqueue_frame (s : State) (r : VoiceRecord) :
    (s.enqueue r).slots = s.slots ∧
      (s.enqueue r).store = s.store ∧
      (s.enqueue r).responder = s.responder ∧
      (s.enqueue r).freeCount = s.freeCount ∧
      (s.enqueue r).receivers = s.receivers ∧
      (s.enqueue r).pending = s.pending ∧
      (s.enqueue r).collector.up = s.collector.up := by
  unfold State.enqueue; dsimp only; split <;> simp

@[simp] theorem State.enqueue_reads (s : State) (r : VoiceRecord) :
    (∀ j, (s.enqueue r).slot j = s.slot j) ∧
      (∀ j, (s.enqueue r).bank j = s.bank j) := by
  simp [State.slot, State.bank]

/-- What enqueueHead leaves as it was. -/
@[simp] theorem State.enqueueHead_frame (s : State) (r : VoiceRecord) :
    (s.enqueueHead r).slots = s.slots ∧
      (s.enqueueHead r).store = s.store ∧
      (s.enqueueHead r).responder = s.responder ∧
      (s.enqueueHead r).freeCount = s.freeCount ∧
      (s.enqueueHead r).receivers = s.receivers ∧
      (s.enqueueHead r).pending = s.pending ∧
      (s.enqueueHead r).collector.up = s.collector.up := by
  unfold State.enqueueHead; dsimp only; split <;> simp

@[simp] theorem State.enqueueHead_reads (s : State) (r : VoiceRecord) :
    (∀ j, (s.enqueueHead r).slot j = s.slot j) ∧
      (∀ j, (s.enqueueHead r).bank j = s.bank j) := by
  simp [State.slot, State.bank]

/-- What settleStall leaves as it was. -/
@[simp] theorem State.settleStall_frame (s : State) :
    (s.settleStall).slots = s.slots ∧
      (s.settleStall).pool = s.pool ∧
      (s.settleStall).store = s.store ∧
      (s.settleStall).responder = s.responder ∧
      (s.settleStall).freeCount = s.freeCount ∧
      (s.settleStall).receivers = s.receivers ∧
      (s.settleStall).pending = s.pending ∧
      (s.settleStall).collector.up = s.collector.up := by
  and_intros <;> rfl

@[simp] theorem State.settleStall_reads (s : State) :
    (∀ j, (s.settleStall).slot j = s.slot j) ∧
      (∀ j, (s.settleStall).voice j = s.voice j) ∧
      (∀ j, (s.settleStall).bank j = s.bank j) := by
  simp [State.slot, State.voice, State.bank]

/-- What offerRetune leaves as it was. -/
@[simp] theorem State.offerRetune_frame (s : State) (v : VoiceIx) (p : Nat) :
    (s.offerRetune v p).slots = s.slots ∧
      (s.offerRetune v p).store = s.store ∧
      (s.offerRetune v p).responder = s.responder ∧
      (s.offerRetune v p).freeCount = s.freeCount ∧
      (s.offerRetune v p).receivers = s.receivers ∧
      (s.offerRetune v p).pending = s.pending ∧
      (s.offerRetune v p).collector.up = s.collector.up := by
  unfold State.offerRetune; dsimp only; split <;> simp

@[simp] theorem State.offerRetune_reads (s : State) (v : VoiceIx) (p : Nat) :
    (∀ j, (s.offerRetune v p).slot j = s.slot j) ∧
      (∀ j, (s.offerRetune v p).bank j = s.bank j) := by
  simp [State.slot, State.bank]

/-- What offerLevel leaves as it was. -/
@[simp] theorem State.offerLevel_frame (s : State) (v : VoiceIx) (l : Nat) :
    (s.offerLevel v l).slots = s.slots ∧
      (s.offerLevel v l).store = s.store ∧
      (s.offerLevel v l).responder = s.responder ∧
      (s.offerLevel v l).freeCount = s.freeCount ∧
      (s.offerLevel v l).receivers = s.receivers ∧
      (s.offerLevel v l).pending = s.pending ∧
      (s.offerLevel v l).collector.up = s.collector.up := by
  unfold State.offerLevel; dsimp only; split <;> simp

@[simp] theorem State.offerLevel_reads (s : State) (v : VoiceIx) (l : Nat) :
    (∀ j, (s.offerLevel v l).slot j = s.slot j) ∧
      (∀ j, (s.offerLevel v l).bank j = s.bank j) := by
  simp [State.slot, State.bank]

/-- What transmitted leaves as it was. -/
@[simp] theorem State.transmitted_frame (s : State) (r : VoiceRecord) :
    (s.transmitted r).slots = s.slots ∧
      (s.transmitted r).port = s.port ∧
      (s.transmitted r).store = s.store ∧
      (s.transmitted r).responder = s.responder ∧
      (s.transmitted r).freeCount = s.freeCount ∧
      (s.transmitted r).receivers = s.receivers ∧
      (s.transmitted r).pending = s.pending ∧
      (s.transmitted r).collector.up = s.collector.up := by
  unfold State.transmitted; split <;> (try split) <;> simp

@[simp] theorem State.transmitted_reads (s : State) (r : VoiceRecord) :
    (∀ j, (s.transmitted r).slot j = s.slot j) ∧
      (∀ j, (s.transmitted r).bank j = s.bank j) := by
  simp [State.slot, State.bank]

/-- What transmit leaves as it was. -/
@[simp] theorem State.transmit_frame (s : State) :
    (s.transmit).slots = s.slots ∧
      (s.transmit).store = s.store ∧
      (s.transmit).responder = s.responder ∧
      (s.transmit).freeCount = s.freeCount ∧
      (s.transmit).receivers = s.receivers ∧
      (s.transmit).pending = s.pending ∧
      (s.transmit).collector.up = s.collector.up := by
  unfold State.transmit; split <;> simp

@[simp] theorem State.transmit_reads (s : State) :
    (∀ j, (s.transmit).slot j = s.slot j) ∧
      (∀ j, (s.transmit).bank j = s.bank j) := by
  simp [State.slot, State.bank]

/-- What addCredit leaves as it was. -/
@[simp] theorem State.addCredit_frame (s : State) (n : Nat) :
    (s.addCredit n).slots = s.slots ∧
      (s.addCredit n).pool = s.pool ∧
      (s.addCredit n).store = s.store ∧
      (s.addCredit n).responder = s.responder ∧
      (s.addCredit n).freeCount = s.freeCount ∧
      (s.addCredit n).receivers = s.receivers ∧
      (s.addCredit n).pending = s.pending ∧
      (s.addCredit n).collector.up = s.collector.up := by
  unfold State.addCredit; simp

@[simp] theorem State.addCredit_reads (s : State) (n : Nat) :
    (∀ j, (s.addCredit n).slot j = s.slot j) ∧
      (∀ j, (s.addCredit n).voice j = s.voice j) ∧
      (∀ j, (s.addCredit n).bank j = s.bank j) := by
  simp [State.slot, State.voice, State.bank]

/-- What stallExpiry leaves as it was. -/
@[simp] theorem State.stallExpiry_frame (s : State) :
    (s.stallExpiry).slots = s.slots ∧
      (s.stallExpiry).pool = s.pool ∧
      (s.stallExpiry).store = s.store ∧
      (s.stallExpiry).responder = s.responder ∧
      (s.stallExpiry).freeCount = s.freeCount ∧
      (s.stallExpiry).receivers = s.receivers ∧
      (s.stallExpiry).pending = s.pending ∧
      (s.stallExpiry).collector.up = s.collector.up := by
  unfold State.stallExpiry; split <;> simp

@[simp] theorem State.stallExpiry_reads (s : State) :
    (∀ j, (s.stallExpiry).slot j = s.slot j) ∧
      (∀ j, (s.stallExpiry).voice j = s.voice j) ∧
      (∀ j, (s.stallExpiry).bank j = s.bank j) := by
  simp [State.slot, State.voice, State.bank]

/-- What attach leaves as it was. -/
@[simp] theorem State.attach_frame (s : State) :
    (s.attach).slots = s.slots ∧
      (s.attach).store = s.store ∧
      (s.attach).responder = s.responder ∧
      (s.attach).freeCount = s.freeCount ∧
      (s.attach).receivers = s.receivers ∧
      (s.attach).pending = s.pending ∧
      (s.attach).collector.up = s.collector.up := by
  unfold State.attach; dsimp only; split <;> (try split) <;> simp

@[simp] theorem State.attach_reads (s : State) :
    (∀ j, (s.attach).slot j = s.slot j) ∧
      (∀ j, (s.attach).bank j = s.bank j) := by
  simp [State.slot, State.bank]

/-- What cutFormer leaves as it was. -/
@[simp] theorem State.cutFormer_frame (s : State) (v : VoiceIx) :
    (s.cutFormer v).slots = s.slots ∧
      (s.cutFormer v).store = s.store ∧
      (s.cutFormer v).responder = s.responder ∧
      (s.cutFormer v).freeCount = s.freeCount ∧
      (s.cutFormer v).receivers = s.receivers ∧
      (s.cutFormer v).pending = s.pending ∧
      (s.cutFormer v).collector.up = s.collector.up := by
  unfold State.cutFormer; simp

@[simp] theorem State.cutFormer_reads (s : State) (v : VoiceIx) :
    (∀ j, (s.cutFormer v).slot j = s.slot j) ∧
      (∀ j, (s.cutFormer v).bank j = s.bank j) := by
  simp [State.slot, State.bank]

/-- What steal leaves as it was. -/
@[simp] theorem State.steal_frame (s : State) (v : VoiceIx) (i : SlotIx) :
    (s.steal v i).store = s.store ∧
      (s.steal v i).responder = s.responder ∧
      (s.steal v i).freeCount = s.freeCount ∧
      (s.steal v i).receivers = s.receivers ∧
      (s.steal v i).pending = s.pending ∧
      (s.steal v i).collector.up = s.collector.up := by
  unfold State.steal; dsimp only; split <;> (try split) <;> (try split) <;> simp

@[simp] theorem State.steal_reads (s : State) (v : VoiceIx) (i : SlotIx) :
    ∀ j, (s.steal v i).bank j = s.bank j := by
  simp [State.bank]

/-- What takeVoice leaves as it was. -/
@[simp] theorem State.takeVoice_frame (s : State) (k : AllocClass) (v : VoiceIx) (i : SlotIx) :
    (s.takeVoice k v i).store = s.store ∧
      (s.takeVoice k v i).responder = s.responder ∧
      (s.takeVoice k v i).freeCount = s.freeCount ∧
      (s.takeVoice k v i).receivers = s.receivers ∧
      (s.takeVoice k v i).pending = s.pending ∧
      (s.takeVoice k v i).collector.up = s.collector.up := by
  unfold State.takeVoice; split <;> simp

@[simp] theorem State.takeVoice_reads (s : State) (k : AllocClass) (v : VoiceIx) (i : SlotIx) :
    ∀ j, (s.takeVoice k v i).bank j = s.bank j := by
  simp [State.bank]

/-- What giveVoice leaves as it was. -/
@[simp] theorem State.giveVoice_frame (s : State) (v : VoiceIx) (o : Owner) :
    (s.giveVoice v o).slots = s.slots ∧
      (s.giveVoice v o).port = s.port ∧
      (s.giveVoice v o).store = s.store ∧
      (s.giveVoice v o).responder = s.responder ∧
      (s.giveVoice v o).freeCount = s.freeCount ∧
      (s.giveVoice v o).receivers = s.receivers ∧
      (s.giveVoice v o).pending = s.pending ∧
      (s.giveVoice v o).collector.up = s.collector.up := by
  unfold State.giveVoice; simp

@[simp] theorem State.giveVoice_reads (s : State) (v : VoiceIx) (o : Owner) :
    (∀ j, (s.giveVoice v o).slot j = s.slot j) ∧
      (∀ j, (s.giveVoice v o).bank j = s.bank j) := by
  simp [State.slot, State.bank]

/-- What placeStart leaves as it was. -/
@[simp] theorem State.placeStart_frame (s : State) (v : VoiceIx) (a b d e f : Nat) :
    (s.placeStart v a b d e f).slots = s.slots ∧
      (s.placeStart v a b d e f).store = s.store ∧
      (s.placeStart v a b d e f).responder = s.responder ∧
      (s.placeStart v a b d e f).freeCount = s.freeCount ∧
      (s.placeStart v a b d e f).receivers = s.receivers ∧
      (s.placeStart v a b d e f).pending = s.pending ∧
      (s.placeStart v a b d e f).collector.up = s.collector.up := by
  unfold State.placeStart; simp

@[simp] theorem State.placeStart_reads (s : State) (v : VoiceIx) (a b d e f : Nat) :
    (∀ j, (s.placeStart v a b d e f).slot j = s.slot j) ∧
      (∀ j, (s.placeStart v a b d e f).bank j = s.bank j) := by
  simp [State.slot, State.bank]

/-- What cancelVoice leaves as it was. -/
@[simp] theorem State.cancelVoice_frame (s : State) (v : VoiceIx) :
    (s.cancelVoice v).slots = s.slots ∧
      (s.cancelVoice v).store = s.store ∧
      (s.cancelVoice v).responder = s.responder ∧
      (s.cancelVoice v).freeCount = s.freeCount ∧
      (s.cancelVoice v).receivers = s.receivers ∧
      (s.cancelVoice v).pending = s.pending ∧
      (s.cancelVoice v).collector.up = s.collector.up := by
  unfold State.cancelVoice; simp

@[simp] theorem State.cancelVoice_reads (s : State) (v : VoiceIx) :
    (∀ j, (s.cancelVoice v).slot j = s.slot j) ∧
      (∀ j, (s.cancelVoice v).bank j = s.bank j) := by
  simp [State.slot, State.bank]

/-- What stopVoice leaves as it was. -/
@[simp] theorem State.stopVoice_frame (s : State) (v : VoiceIx) (k : StopKind) :
    (s.stopVoice v k).slots = s.slots ∧
      (s.stopVoice v k).store = s.store ∧
      (s.stopVoice v k).responder = s.responder ∧
      (s.stopVoice v k).freeCount = s.freeCount ∧
      (s.stopVoice v k).receivers = s.receivers ∧
      (s.stopVoice v k).pending = s.pending ∧
      (s.stopVoice v k).collector.up = s.collector.up := by
  unfold State.stopVoice; simp

@[simp] theorem State.stopVoice_reads (s : State) (v : VoiceIx) (k : StopKind) :
    (∀ j, (s.stopVoice v k).slot j = s.slot j) ∧
      (∀ j, (s.stopVoice v k).bank j = s.bank j) := by
  simp [State.slot, State.bank]

/-- What releaseVoice leaves as it was. -/
@[simp] theorem State.releaseVoice_frame (s : State) (v : VoiceIx) (k : StopKind) :
    (s.releaseVoice v k).slots = s.slots ∧
      (s.releaseVoice v k).store = s.store ∧
      (s.releaseVoice v k).responder = s.responder ∧
      (s.releaseVoice v k).freeCount = s.freeCount ∧
      (s.releaseVoice v k).receivers = s.receivers ∧
      (s.releaseVoice v k).pending = s.pending ∧
      (s.releaseVoice v k).collector.up = s.collector.up := by
  unfold State.releaseVoice; split <;> simp

@[simp] theorem State.releaseVoice_reads (s : State) (v : VoiceIx) (k : StopKind) :
    (∀ j, (s.releaseVoice v k).slot j = s.slot j) ∧
      (∀ j, (s.releaseVoice v k).bank j = s.bank j) := by
  simp [State.slot, State.bank]

/-- What releaseLayers leaves as it was. -/
@[simp] theorem State.releaseLayers_frame (s : State) (k : StopKind) (es : List (Option VoiceIx)) :
    (State.releaseLayers k es s).slots = s.slots ∧
      (State.releaseLayers k es s).store = s.store ∧
      (State.releaseLayers k es s).responder = s.responder ∧
      (State.releaseLayers k es s).freeCount = s.freeCount ∧
      (State.releaseLayers k es s).receivers = s.receivers ∧
      (State.releaseLayers k es s).pending = s.pending ∧
      (State.releaseLayers k es s).collector.up = s.collector.up := by
  induction es generalizing s with
  | nil => simp [State.releaseLayers]
  | cons e es ih => cases e <;> simp [State.releaseLayers, ih]

@[simp] theorem State.releaseLayers_reads (s : State) (k : StopKind) (es : List (Option VoiceIx)) :
    (∀ j, (State.releaseLayers k es s).slot j = s.slot j) ∧
      (∀ j, (State.releaseLayers k es s).bank j = s.bank j) := by
  simp [State.slot, State.bank]

/-- What releaseExpiry leaves as it was. -/
@[simp] theorem State.releaseExpiry_frame (s : State) (v : VoiceIx) :
    (s.releaseExpiry v).slots = s.slots ∧
      (s.releaseExpiry v).port = s.port ∧
      (s.releaseExpiry v).store = s.store ∧
      (s.releaseExpiry v).responder = s.responder ∧
      (s.releaseExpiry v).freeCount = s.freeCount ∧
      (s.releaseExpiry v).receivers = s.receivers ∧
      (s.releaseExpiry v).pending = s.pending ∧
      (s.releaseExpiry v).collector.up = s.collector.up := by
  unfold State.releaseExpiry; split <;> simp

@[simp] theorem State.releaseExpiry_reads (s : State) (v : VoiceIx) :
    (∀ j, (s.releaseExpiry v).slot j = s.slot j) ∧
      (∀ j, (s.releaseExpiry v).bank j = s.bank j) := by
  simp [State.slot, State.bank]

/-- What freedReport leaves as it was. -/
@[simp] theorem State.freedReport_frame (s : State) (v : VoiceIx) (g : Byte) :
    (s.freedReport v g).slots = s.slots ∧
      (s.freedReport v g).port = s.port ∧
      (s.freedReport v g).store = s.store ∧
      (s.freedReport v g).responder = s.responder ∧
      (s.freedReport v g).freeCount = s.freeCount ∧
      (s.freedReport v g).receivers = s.receivers ∧
      (s.freedReport v g).pending = s.pending ∧
      (s.freedReport v g).collector.up = s.collector.up := by
  unfold State.freedReport; dsimp only; split <;> (try split) <;> simp

@[simp] theorem State.freedReport_reads (s : State) (v : VoiceIx) (g : Byte) :
    (∀ j, (s.freedReport v g).slot j = s.slot j) ∧
      (∀ j, (s.freedReport v g).bank j = s.bank j) := by
  simp [State.slot, State.bank]

/-- What flushPool leaves as it was. -/
@[simp] theorem State.flushPool_frame (s : State) (b : Bool) :
    (s.flushPool b).slots = s.slots ∧
      (s.flushPool b).store = s.store ∧
      (s.flushPool b).responder = s.responder ∧
      (s.flushPool b).freeCount = s.freeCount ∧
      (s.flushPool b).receivers = s.receivers ∧
      (s.flushPool b).pending = s.pending ∧
      (s.flushPool b).collector.up = s.collector.up := by
  and_intros <;> rfl

@[simp] theorem State.flushPool_reads (s : State) (b : Bool) :
    (∀ j, (s.flushPool b).slot j = s.slot j) ∧
      (∀ j, (s.flushPool b).bank j = s.bank j) := by
  simp [State.slot, State.bank]

/-- What refreshResolution leaves as it was. -/
@[simp] theorem State.refreshResolution_frame (s : State) (i : SlotIx) :
    (s.refreshResolution i).pool = s.pool ∧
      (s.refreshResolution i).port = s.port ∧
      (s.refreshResolution i).store = s.store ∧
      (s.refreshResolution i).responder = s.responder ∧
      (s.refreshResolution i).freeCount = s.freeCount ∧
      (s.refreshResolution i).receivers = s.receivers ∧
      (s.refreshResolution i).pending = s.pending ∧
      (s.refreshResolution i).collector.up = s.collector.up := by
  and_intros <;> rfl

@[simp] theorem State.refreshResolution_reads (s : State) (i : SlotIx) :
    (∀ j, (s.refreshResolution i).voice j = s.voice j) ∧
      (∀ j, (s.refreshResolution i).bank j = s.bank j) := by
  simp [State.voice, State.bank]

/-- What startLayer leaves as it was. -/
@[simp] theorem State.startLayer_frame (s : State) (i : SlotIx) (pk : Packet) (r : Resolution) (vc : Voicing) (k : Nat) (l : Layer) :
    (s.startLayer i pk r vc k l).store = s.store ∧
      (s.startLayer i pk r vc k l).responder = s.responder ∧
      (s.startLayer i pk r vc k l).freeCount = s.freeCount ∧
      (s.startLayer i pk r vc k l).receivers = s.receivers ∧
      (s.startLayer i pk r vc k l).pending = s.pending ∧
      (s.startLayer i pk r vc k l).collector.up = s.collector.up := by
  unfold State.startLayer; dsimp only; split <;> simp

@[simp] theorem State.startLayer_reads (s : State) (i : SlotIx) (pk : Packet) (r : Resolution) (vc : Voicing) (k : Nat) (l : Layer) :
    ∀ j, (s.startLayer i pk r vc k l).bank j = s.bank j := by
  simp [State.bank]

/-- What startLayers leaves as it was. -/
@[simp] theorem State.startLayers_frame (s : State) (i : SlotIx) (pk : Packet) (r : Resolution) (vc : Voicing) (k : Nat) (ls : List Layer) :
    (State.startLayers i pk r vc k ls s).store = s.store ∧
      (State.startLayers i pk r vc k ls s).responder = s.responder ∧
      (State.startLayers i pk r vc k ls s).freeCount = s.freeCount ∧
      (State.startLayers i pk r vc k ls s).receivers = s.receivers ∧
      (State.startLayers i pk r vc k ls s).pending = s.pending ∧
      (State.startLayers i pk r vc k ls s).collector.up = s.collector.up := by
  induction ls generalizing s k with
  | nil => simp [State.startLayers]
  | cons l ls ih => simp [State.startLayers, ih]

@[simp] theorem State.startLayers_reads (s : State) (i : SlotIx) (pk : Packet) (r : Resolution) (vc : Voicing) (k : Nat) (ls : List Layer) :
    ∀ j, (State.startLayers i pk r vc k ls s).bank j = s.bank j := by
  simp [State.bank]

/-- What startNote leaves as it was. -/
@[simp] theorem State.startNote_frame (s : State) (i : SlotIx) (pk : Packet) (r : Resolution) :
    (s.startNote i pk r).store = s.store ∧
      (s.startNote i pk r).responder = s.responder ∧
      (s.startNote i pk r).freeCount = s.freeCount ∧
      (s.startNote i pk r).receivers = s.receivers ∧
      (s.startNote i pk r).pending = s.pending ∧
      (s.startNote i pk r).collector.up = s.collector.up := by
  unfold State.startNote; simp

@[simp] theorem State.startNote_reads (s : State) (i : SlotIx) (pk : Packet) (r : Resolution) :
    ∀ j, (s.startNote i pk r).bank j = s.bank j := by
  simp [State.bank]

/-- What produceRetune leaves as it was. -/
@[simp] theorem State.produceRetune_frame (s : State) (v : VoiceIx) (p : Nat) :
    (s.produceRetune v p).slots = s.slots ∧
      (s.produceRetune v p).store = s.store ∧
      (s.produceRetune v p).responder = s.responder ∧
      (s.produceRetune v p).freeCount = s.freeCount ∧
      (s.produceRetune v p).receivers = s.receivers ∧
      (s.produceRetune v p).pending = s.pending ∧
      (s.produceRetune v p).collector.up = s.collector.up := by
  unfold State.produceRetune; split <;> simp

@[simp] theorem State.produceRetune_reads (s : State) (v : VoiceIx) (p : Nat) :
    (∀ j, (s.produceRetune v p).slot j = s.slot j) ∧
      (∀ j, (s.produceRetune v p).bank j = s.bank j) := by
  simp [State.slot, State.bank]

/-- What produceLevel leaves as it was. -/
@[simp] theorem State.produceLevel_frame (s : State) (v : VoiceIx) (l : Nat) :
    (s.produceLevel v l).slots = s.slots ∧
      (s.produceLevel v l).store = s.store ∧
      (s.produceLevel v l).responder = s.responder ∧
      (s.produceLevel v l).freeCount = s.freeCount ∧
      (s.produceLevel v l).receivers = s.receivers ∧
      (s.produceLevel v l).pending = s.pending ∧
      (s.produceLevel v l).collector.up = s.collector.up := by
  unfold State.produceLevel; split <;> simp

@[simp] theorem State.produceLevel_reads (s : State) (v : VoiceIx) (l : Nat) :
    (∀ j, (s.produceLevel v l).slot j = s.slot j) ∧
      (∀ j, (s.produceLevel v l).bank j = s.bank j) := by
  simp [State.slot, State.bank]

/-- What retuneLayer leaves as it was. -/
@[simp] theorem State.retuneLayer_frame (s : State) (i : SlotIx) (pk : Packet) (r : Resolution) (k : Nat) (l : Layer) (v : VoiceIx) :
    (s.retuneLayer i pk r k l v).slots = s.slots ∧
      (s.retuneLayer i pk r k l v).store = s.store ∧
      (s.retuneLayer i pk r k l v).responder = s.responder ∧
      (s.retuneLayer i pk r k l v).freeCount = s.freeCount ∧
      (s.retuneLayer i pk r k l v).receivers = s.receivers ∧
      (s.retuneLayer i pk r k l v).pending = s.pending ∧
      (s.retuneLayer i pk r k l v).collector.up = s.collector.up := by
  unfold State.retuneLayer; simp

@[simp] theorem State.retuneLayer_reads (s : State) (i : SlotIx) (pk : Packet) (r : Resolution) (k : Nat) (l : Layer) (v : VoiceIx) :
    (∀ j, (s.retuneLayer i pk r k l v).slot j = s.slot j) ∧
      (∀ j, (s.retuneLayer i pk r k l v).bank j = s.bank j) := by
  simp [State.slot, State.bank]

/-- What retuneLayers leaves as it was. -/
@[simp] theorem State.retuneLayers_frame (s : State) (i : SlotIx) (pk : Packet) (r : Resolution) (k : Nat) (ls : List Layer) (es : List (Option VoiceIx)) :
    (State.retuneLayers i pk r k ls es s).slots = s.slots ∧
      (State.retuneLayers i pk r k ls es s).store = s.store ∧
      (State.retuneLayers i pk r k ls es s).responder = s.responder ∧
      (State.retuneLayers i pk r k ls es s).freeCount = s.freeCount ∧
      (State.retuneLayers i pk r k ls es s).receivers = s.receivers ∧
      (State.retuneLayers i pk r k ls es s).pending = s.pending ∧
      (State.retuneLayers i pk r k ls es s).collector.up = s.collector.up := by
  induction ls generalizing s k es with
  | nil => cases es <;> simp [State.retuneLayers]
  | cons l ls ih => cases es with
    | nil => simp [State.retuneLayers]
    | cons e es => cases e <;> simp [State.retuneLayers, ih]

@[simp] theorem State.retuneLayers_reads (s : State) (i : SlotIx) (pk : Packet) (r : Resolution) (k : Nat) (ls : List Layer) (es : List (Option VoiceIx)) :
    (∀ j, (State.retuneLayers i pk r k ls es s).slot j = s.slot j) ∧
      (∀ j, (State.retuneLayers i pk r k ls es s).bank j = s.bank j) := by
  simp [State.slot, State.bank]

/-- What updateLayers leaves as it was. -/
@[simp] theorem State.updateLayers_frame (s : State) (i : SlotIx) (pk : Packet) (r : Resolution) (o : Nat) (k : Nat) (ls : List Layer) (es : List (Option VoiceIx)) :
    (State.updateLayers i pk r o k ls es s).slots = s.slots ∧
      (State.updateLayers i pk r o k ls es s).store = s.store ∧
      (State.updateLayers i pk r o k ls es s).responder = s.responder ∧
      (State.updateLayers i pk r o k ls es s).freeCount = s.freeCount ∧
      (State.updateLayers i pk r o k ls es s).receivers = s.receivers ∧
      (State.updateLayers i pk r o k ls es s).pending = s.pending ∧
      (State.updateLayers i pk r o k ls es s).collector.up = s.collector.up := by
  induction ls generalizing s k es with
  | nil => cases es <;> simp [State.updateLayers]
  | cons l ls ih => cases es with
    | nil => simp [State.updateLayers]
    | cons e es => cases e <;> simp [State.updateLayers, ih]

@[simp] theorem State.updateLayers_reads (s : State) (i : SlotIx) (pk : Packet) (r : Resolution) (o : Nat) (k : Nat) (ls : List Layer) (es : List (Option VoiceIx)) :
    (∀ j, (State.updateLayers i pk r o k ls es s).slot j = s.slot j) ∧
      (∀ j, (State.updateLayers i pk r o k ls es s).bank j = s.bank j) := by
  simp [State.slot, State.bank]

/-- What legatoRetune leaves as it was. -/
@[simp] theorem State.legatoRetune_frame (s : State) (i : SlotIx) (pk : Packet) (r : Resolution) :
    (s.legatoRetune i pk r).store = s.store ∧
      (s.legatoRetune i pk r).responder = s.responder ∧
      (s.legatoRetune i pk r).freeCount = s.freeCount ∧
      (s.legatoRetune i pk r).receivers = s.receivers ∧
      (s.legatoRetune i pk r).pending = s.pending ∧
      (s.legatoRetune i pk r).collector.up = s.collector.up := by
  unfold State.legatoRetune; simp

@[simp] theorem State.legatoRetune_reads (s : State) (i : SlotIx) (pk : Packet) (r : Resolution) :
    ∀ j, (s.legatoRetune i pk r).bank j = s.bank j := by
  simp [State.bank]

/-- What retrigger leaves as it was. -/
@[simp] theorem State.retrigger_frame (s : State) (i : SlotIx) (pk : Packet) (r : Resolution) :
    (s.retrigger i pk r).store = s.store ∧
      (s.retrigger i pk r).responder = s.responder ∧
      (s.retrigger i pk r).freeCount = s.freeCount ∧
      (s.retrigger i pk r).receivers = s.receivers ∧
      (s.retrigger i pk r).pending = s.pending ∧
      (s.retrigger i pk r).collector.up = s.collector.up := by
  unfold State.retrigger; simp

@[simp] theorem State.retrigger_reads (s : State) (i : SlotIx) (pk : Packet) (r : Resolution) :
    ∀ j, (s.retrigger i pk r).bank j = s.bank j := by
  simp [State.bank]

/-- What changeFingering leaves as it was. -/
@[simp] theorem State.changeFingering_frame (s : State) (i : SlotIx) (pk : Packet) :
    (s.changeFingering i pk).store = s.store ∧
      (s.changeFingering i pk).responder = s.responder ∧
      (s.changeFingering i pk).freeCount = s.freeCount ∧
      (s.changeFingering i pk).receivers = s.receivers ∧
      (s.changeFingering i pk).pending = s.pending ∧
      (s.changeFingering i pk).collector.up = s.collector.up := by
  unfold State.changeFingering; split <;> (try split) <;> simp

@[simp] theorem State.changeFingering_reads (s : State) (i : SlotIx) (pk : Packet) :
    ∀ j, (s.changeFingering i pk).bank j = s.bank j := by
  simp [State.bank]

/-- What confirmSounding leaves as it was. -/
@[simp] theorem State.confirmSounding_frame (s : State) (i : SlotIx) (pk : Packet) (gap : Bool) (ks : KeySet) :
    (s.confirmSounding i pk gap ks).store = s.store ∧
      (s.confirmSounding i pk gap ks).responder = s.responder ∧
      (s.confirmSounding i pk gap ks).freeCount = s.freeCount ∧
      (s.confirmSounding i pk gap ks).receivers = s.receivers ∧
      (s.confirmSounding i pk gap ks).pending = s.pending ∧
      (s.confirmSounding i pk gap ks).collector.up = s.collector.up := by
  unfold State.confirmSounding; dsimp only; split <;> simp

@[simp] theorem State.confirmSounding_reads (s : State) (i : SlotIx) (pk : Packet) (gap : Bool) (ks : KeySet) :
    ∀ j, (s.confirmSounding i pk gap ks).bank j = s.bank j := by
  simp [State.bank]

/-- What stalledStart leaves as it was. -/
@[simp] theorem State.stalledStart_frame (s : State) (i : SlotIx) (pk : Packet) :
    (s.stalledStart i pk).store = s.store ∧
      (s.stalledStart i pk).responder = s.responder ∧
      (s.stalledStart i pk).freeCount = s.freeCount ∧
      (s.stalledStart i pk).receivers = s.receivers ∧
      (s.stalledStart i pk).pending = s.pending ∧
      (s.stalledStart i pk).collector.up = s.collector.up := by
  unfold State.stalledStart; split <;> simp

@[simp] theorem State.stalledStart_reads (s : State) (i : SlotIx) (pk : Packet) :
    ∀ j, (s.stalledStart i pk).bank j = s.bank j := by
  simp [State.bank]

/-- What confirm leaves as it was. -/
@[simp] theorem State.confirm_frame (s : State) (i : SlotIx) (pk : Packet) (first gap : Bool) (ks : KeySet) :
    (s.confirm i pk first gap ks).store = s.store ∧
      (s.confirm i pk first gap ks).responder = s.responder ∧
      (s.confirm i pk first gap ks).freeCount = s.freeCount ∧
      (s.confirm i pk first gap ks).receivers = s.receivers ∧
      (s.confirm i pk first gap ks).pending = s.pending ∧
      (s.confirm i pk first gap ks).collector.up = s.collector.up := by
  unfold State.confirm; split <;> (try split) <;> simp

@[simp] theorem State.confirm_reads (s : State) (i : SlotIx) (pk : Packet) (first gap : Bool) (ks : KeySet) :
    ∀ j, (s.confirm i pk first gap ks).bank j = s.bank j := by
  simp [State.bank]

/-- What perPacket leaves as it was. -/
@[simp] theorem State.perPacket_frame (s : State) (i : SlotIx) (pk : Packet) (e : Nat) :
    (s.perPacket i pk e).store = s.store ∧
      (s.perPacket i pk e).responder = s.responder ∧
      (s.perPacket i pk e).freeCount = s.freeCount ∧
      (s.perPacket i pk e).receivers = s.receivers ∧
      (s.perPacket i pk e).pending = s.pending ∧
      (s.perPacket i pk e).collector.up = s.collector.up := by
  unfold State.perPacket; dsimp only; split <;> simp

@[simp] theorem State.perPacket_reads (s : State) (i : SlotIx) (pk : Packet) (e : Nat) :
    ∀ j, (s.perPacket i pk e).bank j = s.bank j := by
  simp [State.bank]

/-- What drainBank leaves as it was. -/
@[simp] theorem State.drainBank_frame (s : State) (b : BankIx) :
    (s.drainBank b).slots = s.slots ∧
      (s.drainBank b).pool = s.pool ∧
      (s.drainBank b).port = s.port ∧
      (s.drainBank b).responder = s.responder ∧
      (s.drainBank b).freeCount = s.freeCount ∧
      (s.drainBank b).receivers = s.receivers ∧
      (s.drainBank b).pending = s.pending ∧
      (s.drainBank b).collector.up = s.collector.up := by
  unfold State.drainBank; split <;> simp

@[simp] theorem State.drainBank_reads (s : State) (b : BankIx) :
    (∀ j, (s.drainBank b).slot j = s.slot j) ∧
      (∀ j, (s.drainBank b).voice j = s.voice j) := by
  simp [State.slot, State.voice]

/-- What drain leaves as it was. -/
@[simp] theorem State.drain_frame (s : State) :
    (s.drain).slots = s.slots ∧
      (s.drain).pool = s.pool ∧
      (s.drain).port = s.port ∧
      (s.drain).responder = s.responder ∧
      (s.drain).freeCount = s.freeCount ∧
      (s.drain).receivers = s.receivers ∧
      (s.drain).pending = s.pending ∧
      (s.drain).collector.up = s.collector.up := by
  unfold State.drain; simp

@[simp] theorem State.drain_reads (s : State) :
    (∀ j, (s.drain).slot j = s.slot j) ∧
      (∀ j, (s.drain).voice j = s.voice j) := by
  simp [State.slot, State.voice]

/-- What switchBank leaves as it was. -/
@[simp] theorem State.switchBank_frame (s : State) (i : SlotIx) :
    (s.switchBank i).pool = s.pool ∧
      (s.switchBank i).port = s.port ∧
      (s.switchBank i).responder = s.responder ∧
      (s.switchBank i).freeCount = s.freeCount ∧
      (s.switchBank i).receivers = s.receivers ∧
      (s.switchBank i).pending = s.pending ∧
      (s.switchBank i).collector.up = s.collector.up := by
  unfold State.switchBank; simp

@[simp] theorem State.switchBank_reads (s : State) (i : SlotIx) :
    ∀ j, (s.switchBank i).voice j = s.voice j := by
  simp [State.voice]

/-- What switchAll leaves as it was. -/
@[simp] theorem State.switchAll_frame (s : State) :
    (s.switchAll).pool = s.pool ∧
      (s.switchAll).port = s.port ∧
      (s.switchAll).store = s.store ∧
      (s.switchAll).responder = s.responder ∧
      (s.switchAll).freeCount = s.freeCount ∧
      (s.switchAll).receivers = s.receivers ∧
      (s.switchAll).pending = s.pending ∧
      (s.switchAll).collector.up = s.collector.up := by
  and_intros <;> rfl

@[simp] theorem State.switchAll_reads (s : State) :
    (∀ j, (s.switchAll).voice j = s.voice j) ∧
      (∀ j, (s.switchAll).bank j = s.bank j) := by
  simp [State.voice, State.bank]

/-- What onset leaves as it was. -/
@[simp] theorem State.onset_frame (s : State) (i : SlotIx) (pk : Packet) (q e : Nat) :
    (s.onset i pk q e).responder = s.responder ∧
      (s.onset i pk q e).freeCount = s.freeCount ∧
      (s.onset i pk q e).receivers = s.receivers ∧
      (s.onset i pk q e).pending = s.pending ∧
      (s.onset i pk q e).collector.up = s.collector.up := by
  unfold State.onset; dsimp only; split <;> simp

/-- What abandonOnset leaves as it was. -/
@[simp] theorem State.abandonOnset_frame (s : State) (i : SlotIx) :
    (s.abandonOnset i).pool = s.pool ∧
      (s.abandonOnset i).port = s.port ∧
      (s.abandonOnset i).responder = s.responder ∧
      (s.abandonOnset i).freeCount = s.freeCount ∧
      (s.abandonOnset i).receivers = s.receivers ∧
      (s.abandonOnset i).pending = s.pending ∧
      (s.abandonOnset i).collector.up = s.collector.up := by
  unfold State.abandonOnset; simp

@[simp] theorem State.abandonOnset_reads (s : State) (i : SlotIx) :
    ∀ j, (s.abandonOnset i).voice j = s.voice j := by
  simp [State.voice]

/-- What releaseNote leaves as it was. -/
@[simp] theorem State.releaseNote_frame (s : State) (i : SlotIx) :
    (s.releaseNote i).responder = s.responder ∧
      (s.releaseNote i).freeCount = s.freeCount ∧
      (s.releaseNote i).receivers = s.receivers ∧
      (s.releaseNote i).pending = s.pending ∧
      (s.releaseNote i).collector.up = s.collector.up := by
  unfold State.releaseNote; simp

/-- What testSample leaves as it was. -/
@[simp] theorem State.testSample_frame (s : State) (i : SlotIx) (pk : Packet) (q e : Nat) :
    (s.testSample i pk q e).responder = s.responder ∧
      (s.testSample i pk q e).freeCount = s.freeCount ∧
      (s.testSample i pk q e).receivers = s.receivers ∧
      (s.testSample i pk q e).pending = s.pending ∧
      (s.testSample i pk q e).collector.up = s.collector.up := by
  unfold State.testSample; repeat' split
  all_goals simp

/-- What sample leaves as it was. -/
@[simp] theorem State.sample_frame (s : State) (i : SlotIx) (pk : Packet) (raw : Nat) :
    (State.sample i pk s raw).responder = s.responder ∧
      (State.sample i pk s raw).freeCount = s.freeCount ∧
      (State.sample i pk s raw).receivers = s.receivers ∧
      (State.sample i pk s raw).pending = s.pending ∧
      (State.sample i pk s raw).collector.up = s.collector.up := by
  unfold State.sample; simp

/-- What samples leaves as it was. -/
@[simp] theorem State.samples_frame (s : State) (i : SlotIx) (pk : Packet) (xs : List Nat) :
    (xs.foldl (State.sample i pk) s).responder = s.responder ∧
      (xs.foldl (State.sample i pk) s).freeCount = s.freeCount ∧
      (xs.foldl (State.sample i pk) s).receivers = s.receivers ∧
      (xs.foldl (State.sample i pk) s).pending = s.pending ∧
      (xs.foldl (State.sample i pk) s).collector.up = s.collector.up := by
  induction xs generalizing s with
  | nil => simp
  | cons x xs ih => simp [ih]

/-- What processPacket leaves as it was. -/
@[simp] theorem State.processPacket_frame (s : State) (i : SlotIx) (first gap : Bool) (p : Sense) :
    (s.processPacket i first gap p).responder = s.responder ∧
      (s.processPacket i first gap p).freeCount = s.freeCount ∧
      (s.processPacket i first gap p).receivers = s.receivers ∧
      (s.processPacket i first gap p).pending = s.pending ∧
      (s.processPacket i first gap p).collector.up = s.collector.up := by
  unfold State.processPacket; simp

/-- What leaveAbsent leaves as it was. -/
@[simp] theorem State.leaveAbsent_frame (s : State) (i : SlotIx) (p : Sense) :
    (s.leaveAbsent i p).pool = s.pool ∧
      (s.leaveAbsent i p).port = s.port ∧
      (s.leaveAbsent i p).responder = s.responder ∧
      (s.leaveAbsent i p).freeCount = s.freeCount ∧
      (s.leaveAbsent i p).receivers = s.receivers ∧
      (s.leaveAbsent i p).pending = s.pending ∧
      (s.leaveAbsent i p).collector.up = s.collector.up := by
  unfold State.leaveAbsent; simp

@[simp] theorem State.leaveAbsent_reads (s : State) (i : SlotIx) (p : Sense) :
    ∀ j, (s.leaveAbsent i p).voice j = s.voice j := by
  simp [State.voice]

/-- What takePacket leaves as it was. -/
@[simp] theorem State.takePacket_frame (s : State) (i : SlotIx) (p : Sense) :
    (s.takePacket i p).responder = s.responder ∧
      (s.takePacket i p).freeCount = s.freeCount ∧
      (s.takePacket i p).receivers = s.receivers ∧
      (s.takePacket i p).pending = s.pending ∧
      (s.takePacket i p).collector.up = s.collector.up := by
  unfold State.takePacket; dsimp only; split <;> (try split) <;> (try split) <;> simp

/-- What deliverSense leaves as it was. -/
@[simp] theorem State.deliverSense_frame (s : State) (fields : List Byte) :
    (s.deliverSense fields).responder = s.responder ∧
      (s.deliverSense fields).freeCount = s.freeCount ∧
      (s.deliverSense fields).receivers = s.receivers ∧
      (s.deliverSense fields).pending = s.pending ∧
      (s.deliverSense fields).collector.up = s.collector.up := by
  unfold State.deliverSense; split <;> (try split) <;> simp

/-- What unbind leaves as it was. -/
@[simp] theorem State.unbind_frame (s : State) (i : SlotIx) :
    (s.unbind i).responder = s.responder ∧
      (s.unbind i).freeCount = s.freeCount ∧
      (s.unbind i).receivers = s.receivers ∧
      (s.unbind i).pending = s.pending ∧
      (s.unbind i).collector.up = s.collector.up := by
  unfold State.unbind; simp

/-- What bind leaves as it was. -/
@[simp] theorem State.bind_frame (s : State) (i : SlotIx) (t : Half) :
    (s.bind i t).responder = s.responder ∧
      (s.bind i t).freeCount = s.freeCount ∧
      (s.bind i t).receivers = s.receivers ∧
      (s.bind i t).pending = s.pending ∧
      (s.bind i t).collector.up = s.collector.up := by
  unfold State.bind; dsimp only; split <;> simp

/-- What lossExpiry leaves as it was. -/
@[simp] theorem State.lossExpiry_frame (s : State) (i : SlotIx) :
    (s.lossExpiry i).responder = s.responder ∧
      (s.lossExpiry i).freeCount = s.freeCount ∧
      (s.lossExpiry i).receivers = s.receivers ∧
      (s.lossExpiry i).pending = s.pending ∧
      (s.lossExpiry i).collector.up = s.collector.up := by
  unfold State.lossExpiry; dsimp only; split <;> simp

/-- What flushSlot leaves as it was. -/
@[simp] theorem State.flushSlot_frame (s : State) (i : SlotIx) :
    (s.flushSlot i).pool = s.pool ∧
      (s.flushSlot i).port = s.port ∧
      (s.flushSlot i).responder = s.responder ∧
      (s.flushSlot i).freeCount = s.freeCount ∧
      (s.flushSlot i).receivers = s.receivers ∧
      (s.flushSlot i).pending = s.pending ∧
      (s.flushSlot i).collector.up = s.collector.up := by
  unfold State.flushSlot; split <;> simp

@[simp] theorem State.flushSlot_reads (s : State) (i : SlotIx) :
    ∀ j, (s.flushSlot i).voice j = s.voice j := by
  simp [State.voice]

/-- What flushSlots leaves as it was. -/
@[simp] theorem State.flushSlots_frame (s : State) (is : List SlotIx) :
    (is.foldl State.flushSlot s).pool = s.pool ∧
      (is.foldl State.flushSlot s).port = s.port ∧
      (is.foldl State.flushSlot s).responder = s.responder ∧
      (is.foldl State.flushSlot s).freeCount = s.freeCount ∧
      (is.foldl State.flushSlot s).receivers = s.receivers ∧
      (is.foldl State.flushSlot s).pending = s.pending ∧
      (is.foldl State.flushSlot s).collector.up = s.collector.up := by
  induction is generalizing s with
  | nil => simp
  | cons i is ih => simp [ih]

@[simp] theorem State.flushSlots_reads (s : State) (is : List SlotIx) :
    ∀ j, (is.foldl State.flushSlot s).voice j = s.voice j := by
  simp [State.voice]

/-- What voiceFlush leaves as it was. -/
@[simp] theorem State.voiceFlush_frame (s : State) (b : Bool) :
    (s.voiceFlush b).responder = s.responder ∧
      (s.voiceFlush b).freeCount = s.freeCount ∧
      (s.voiceFlush b).receivers = s.receivers ∧
      (s.voiceFlush b).pending = s.pending ∧
      (s.voiceFlush b).collector.up = s.collector.up := by
  unfold State.voiceFlush; simp

/-- What restartSlot leaves as it was. -/
@[simp] theorem State.restartSlot_frame (s : State) (i : SlotIx) :
    (s.restartSlot i).pool = s.pool ∧
      (s.restartSlot i).port = s.port ∧
      (s.restartSlot i).responder = s.responder ∧
      (s.restartSlot i).freeCount = s.freeCount ∧
      (s.restartSlot i).receivers = s.receivers ∧
      (s.restartSlot i).pending = s.pending ∧
      (s.restartSlot i).collector.up = s.collector.up := by
  unfold State.restartSlot; split <;> simp

@[simp] theorem State.restartSlot_reads (s : State) (i : SlotIx) :
    ∀ j, (s.restartSlot i).voice j = s.voice j := by
  simp [State.voice]

/-- What restartSlots leaves as it was. -/
@[simp] theorem State.restartSlots_frame (s : State) (is : List SlotIx) :
    (is.foldl State.restartSlot s).pool = s.pool ∧
      (is.foldl State.restartSlot s).port = s.port ∧
      (is.foldl State.restartSlot s).responder = s.responder ∧
      (is.foldl State.restartSlot s).freeCount = s.freeCount ∧
      (is.foldl State.restartSlot s).receivers = s.receivers ∧
      (is.foldl State.restartSlot s).pending = s.pending ∧
      (is.foldl State.restartSlot s).collector.up = s.collector.up := by
  induction is generalizing s with
  | nil => simp
  | cons i is ih => simp [ih]

@[simp] theorem State.restartSlots_reads (s : State) (is : List SlotIx) :
    ∀ j, (is.foldl State.restartSlot s).voice j = s.voice j := by
  simp [State.voice]

/-- What advanceCopy leaves as it was. -/
@[simp] theorem State.advanceCopy_frame (s : State) :
    (s.advanceCopy).slots = s.slots ∧
      (s.advanceCopy).pool = s.pool ∧
      (s.advanceCopy).port = s.port ∧
      (s.advanceCopy).responder = s.responder ∧
      (s.advanceCopy).receivers = s.receivers ∧
      (s.advanceCopy).pending = s.pending ∧
      (s.advanceCopy).collector.up = s.collector.up := by
  unfold State.advanceCopy; split <;> (try split) <;> simp

@[simp] theorem State.advanceCopy_reads (s : State) :
    (∀ j, (s.advanceCopy).slot j = s.slot j) ∧
      (∀ j, (s.advanceCopy).voice j = s.voice j) := by
  simp [State.slot, State.voice]

/-- What completeOk leaves as it was. -/
@[simp] theorem State.completeOk_frame (s : State) (w : Work) (b : BankIx) :
    (s.completeOk w b).slots = s.slots ∧
      (s.completeOk w b).pool = s.pool ∧
      (s.completeOk w b).port = s.port ∧
      (s.completeOk w b).store = s.store ∧
      (s.completeOk w b).responder = s.responder ∧
      (s.completeOk w b).freeCount = s.freeCount ∧
      (s.completeOk w b).receivers = s.receivers ∧
      (s.completeOk w b).pending = s.pending ∧
      (s.completeOk w b).collector.up = s.collector.up := by
  unfold State.completeOk; simp

@[simp] theorem State.completeOk_reads (s : State) (w : Work) (b : BankIx) :
    (∀ j, (s.completeOk w b).slot j = s.slot j) ∧
      (∀ j, (s.completeOk w b).voice j = s.voice j) ∧
      (∀ j, (s.completeOk w b).bank j = s.bank j) := by
  simp [State.slot, State.voice, State.bank]

/-- What completeFail leaves as it was. -/
@[simp] theorem State.completeFail_frame (s : State) (w : Work) (b : Option BankIx) (r : FailReason) :
    (s.completeFail w b r).slots = s.slots ∧
      (s.completeFail w b r).pool = s.pool ∧
      (s.completeFail w b r).port = s.port ∧
      (s.completeFail w b r).store = s.store ∧
      (s.completeFail w b r).responder = s.responder ∧
      (s.completeFail w b r).freeCount = s.freeCount ∧
      (s.completeFail w b r).receivers = s.receivers ∧
      (s.completeFail w b r).pending = s.pending ∧
      (s.completeFail w b r).collector.up = s.collector.up := by
  unfold State.completeFail; simp

@[simp] theorem State.completeFail_reads (s : State) (w : Work) (b : Option BankIx) (r : FailReason) :
    (∀ j, (s.completeFail w b r).slot j = s.slot j) ∧
      (∀ j, (s.completeFail w b r).voice j = s.voice j) ∧
      (∀ j, (s.completeFail w b r).bank j = s.bank j) := by
  simp [State.slot, State.voice, State.bank]

/-- What startWork leaves as it was. -/
@[simp] theorem State.startWork_frame (s : State) (ws : List Work) :
    (State.startWork ws s).slots = s.slots ∧
      (State.startWork ws s).pool = s.pool ∧
      (State.startWork ws s).port = s.port ∧
      (State.startWork ws s).responder = s.responder ∧
      (State.startWork ws s).freeCount = s.freeCount ∧
      (State.startWork ws s).receivers = s.receivers ∧
      (State.startWork ws s).pending = s.pending ∧
      (State.startWork ws s).collector.up = s.collector.up := by
  induction ws generalizing s with
  | nil => simp [State.startWork]
  | cons w ws ih => unfold State.startWork; split <;> simp [ih]

@[simp] theorem State.startWork_reads (s : State) (ws : List Work) :
    (∀ j, (State.startWork ws s).slot j = s.slot j) ∧
      (∀ j, (State.startWork ws s).voice j = s.voice j) := by
  simp [State.slot, State.voice]

/-- What queueWork leaves as it was. -/
@[simp] theorem State.queueWork_frame (s : State) (w : Work) :
    (s.queueWork w).slots = s.slots ∧
      (s.queueWork w).pool = s.pool ∧
      (s.queueWork w).port = s.port ∧
      (s.queueWork w).responder = s.responder ∧
      (s.queueWork w).freeCount = s.freeCount ∧
      (s.queueWork w).receivers = s.receivers ∧
      (s.queueWork w).pending = s.pending ∧
      (s.queueWork w).collector.up = s.collector.up := by
  unfold State.queueWork; split <;> simp

@[simp] theorem State.queueWork_reads (s : State) (w : Work) :
    (∀ j, (s.queueWork w).slot j = s.slot j) ∧
      (∀ j, (s.queueWork w).voice j = s.voice j) := by
  simp [State.slot, State.voice]

/-- What promote leaves as it was. -/
@[simp] theorem State.promote_frame (s : State) (b : BankIx) :
    (s.promote b).slots = s.slots ∧
      (s.promote b).pool = s.pool ∧
      (s.promote b).port = s.port ∧
      (s.promote b).responder = s.responder ∧
      (s.promote b).freeCount = s.freeCount ∧
      (s.promote b).receivers = s.receivers ∧
      (s.promote b).pending = s.pending ∧
      (s.promote b).collector.up = s.collector.up := by
  unfold State.promote; dsimp only; split <;> simp

@[simp] theorem State.promote_reads (s : State) (b : BankIx) :
    (∀ j, (s.promote b).slot j = s.slot j) ∧
      (∀ j, (s.promote b).voice j = s.voice j) := by
  simp [State.slot, State.voice]

/-- What swap leaves as it was. -/
@[simp] theorem State.swap_frame (s : State) (b : BankIx) :
    (s.swap b).pool = s.pool ∧
      (s.swap b).port = s.port ∧
      (s.swap b).responder = s.responder ∧
      (s.swap b).freeCount = s.freeCount ∧
      (s.swap b).receivers = s.receivers ∧
      (s.swap b).pending = s.pending ∧
      (s.swap b).collector.up = s.collector.up := by
  unfold State.swap; simp

@[simp] theorem State.swap_reads (s : State) (b : BankIx) :
    ∀ j, (s.swap b).voice j = s.voice j := by
  simp [State.voice]

/-- What copyCompletes leaves as it was. -/
@[simp] theorem State.copyCompletes_frame (s : State) :
    (s.copyCompletes).slots = s.slots ∧
      (s.copyCompletes).pool = s.pool ∧
      (s.copyCompletes).port = s.port ∧
      (s.copyCompletes).responder = s.responder ∧
      (s.copyCompletes).freeCount = s.freeCount ∧
      (s.copyCompletes).receivers = s.receivers ∧
      (s.copyCompletes).pending = s.pending ∧
      (s.copyCompletes).collector.up = s.collector.up := by
  unfold State.copyCompletes; split <;> (try split) <;> simp

@[simp] theorem State.copyCompletes_reads (s : State) :
    (∀ j, (s.copyCompletes).slot j = s.slot j) ∧
      (∀ j, (s.copyCompletes).voice j = s.voice j) := by
  simp [State.slot, State.voice]

/-- What verificationCompletes leaves as it was. -/
@[simp] theorem State.verificationCompletes_frame (s : State) :
    (s.verificationCompletes).pool = s.pool ∧
      (s.verificationCompletes).port = s.port ∧
      (s.verificationCompletes).responder = s.responder ∧
      (s.verificationCompletes).freeCount = s.freeCount ∧
      (s.verificationCompletes).receivers = s.receivers ∧
      (s.verificationCompletes).pending = s.pending ∧
      (s.verificationCompletes).collector.up = s.collector.up := by
  unfold State.verificationCompletes; dsimp only; split <;> (try split) <;> (try split) <;> simp

@[simp] theorem State.verificationCompletes_reads (s : State) :
    ∀ j, (s.verificationCompletes).voice j = s.voice j := by
  simp [State.voice]

/-- What abandonWork leaves as it was. -/
@[simp] theorem State.abandonWork_frame (s : State) :
    (s.abandonWork).slots = s.slots ∧
      (s.abandonWork).pool = s.pool ∧
      (s.abandonWork).port = s.port ∧
      (s.abandonWork).responder = s.responder ∧
      (s.abandonWork).receivers = s.receivers ∧
      (s.abandonWork).pending = s.pending ∧
      (s.abandonWork).collector.up = s.collector.up := by
  unfold State.abandonWork; dsimp only; split <;> simp

@[simp] theorem State.abandonWork_reads (s : State) :
    (∀ j, (s.abandonWork).slot j = s.slot j) ∧
      (∀ j, (s.abandonWork).voice j = s.voice j) := by
  simp [State.slot, State.voice]

/-- What writeBank leaves as it was. -/
@[simp] theorem State.writeBank_frame (s : State) (b : BankIx) (n : Nat) (es : List TableEntry) :
    (s.writeBank b n es).slots = s.slots ∧
      (s.writeBank b n es).pool = s.pool ∧
      (s.writeBank b n es).port = s.port ∧
      (s.writeBank b n es).responder = s.responder ∧
      (s.writeBank b n es).freeCount = s.freeCount ∧
      (s.writeBank b n es).receivers = s.receivers ∧
      (s.writeBank b n es).pending = s.pending ∧
      (s.writeBank b n es).collector.up = s.collector.up := by
  and_intros <;> rfl

@[simp] theorem State.writeBank_reads (s : State) (b : BankIx) (n : Nat) (es : List TableEntry) :
    (∀ j, (s.writeBank b n es).slot j = s.slot j) ∧
      (∀ j, (s.writeBank b n es).voice j = s.voice j) := by
  simp [State.slot, State.voice]

/-- What reply leaves as it was. -/
@[simp] theorem State.reply_frame (s : State) (r : Request) (st : Status) (pl : List Byte) :
    (s.reply r st pl).slots = s.slots ∧
      (s.reply r st pl).pool = s.pool ∧
      (s.reply r st pl).port = s.port ∧
      (s.reply r st pl).store = s.store ∧
      (s.reply r st pl).responder = s.responder ∧
      (s.reply r st pl).freeCount = s.freeCount ∧
      (s.reply r st pl).receivers = s.receivers ∧
      (s.reply r st pl).pending = s.pending ∧
      (s.reply r st pl).collector.up = s.collector.up := by
  unfold State.reply; simp

@[simp] theorem State.reply_reads (s : State) (r : Request) (st : Status) (pl : List Byte) :
    (∀ j, (s.reply r st pl).slot j = s.slot j) ∧
      (∀ j, (s.reply r st pl).voice j = s.voice j) ∧
      (∀ j, (s.reply r st pl).bank j = s.bank j) := by
  simp [State.slot, State.voice, State.bank]

/-- What refuse leaves as it was. -/
@[simp] theorem State.refuse_frame (s : State) (r : Request) (st : Status) :
    (s.refuse r st).slots = s.slots ∧
      (s.refuse r st).pool = s.pool ∧
      (s.refuse r st).port = s.port ∧
      (s.refuse r st).store = s.store ∧
      (s.refuse r st).responder = s.responder ∧
      (s.refuse r st).freeCount = s.freeCount ∧
      (s.refuse r st).receivers = s.receivers ∧
      (s.refuse r st).pending = s.pending ∧
      (s.refuse r st).collector.up = s.collector.up := by
  unfold State.refuse; simp

@[simp] theorem State.refuse_reads (s : State) (r : Request) (st : Status) :
    (∀ j, (s.refuse r st).slot j = s.slot j) ∧
      (∀ j, (s.refuse r st).voice j = s.voice j) ∧
      (∀ j, (s.refuse r st).bank j = s.bank j) := by
  simp [State.slot, State.voice, State.bank]

/-- What warmRestart leaves as it was. -/
@[simp] theorem State.warmRestart_frame (s : State) :
    (s.warmRestart).responder = s.responder ∧
      (s.warmRestart).receivers = s.receivers ∧
      (s.warmRestart).pending = s.pending ∧
      (s.warmRestart).collector.up = s.collector.up := by
  unfold State.warmRestart; simp

/-- What detach leaves as it was. -/
@[simp] theorem State.detach_frame (s : State) :
    (s.detach).responder = s.responder ∧
      (s.detach).freeCount = s.freeCount ∧
      (s.detach).receivers = s.receivers ∧
      (s.detach).pending = s.pending ∧
      (s.detach).collector.up = s.collector.up := by
  unfold State.detach; dsimp only; split <;> simp

/-- What deliverGrant leaves as it was. -/
@[simp] theorem State.deliverGrant_frame (s : State) (fields : List Byte) :
    (s.deliverGrant fields).slots = s.slots ∧
      (s.deliverGrant fields).pool = s.pool ∧
      (s.deliverGrant fields).store = s.store ∧
      (s.deliverGrant fields).responder = s.responder ∧
      (s.deliverGrant fields).freeCount = s.freeCount ∧
      (s.deliverGrant fields).receivers = s.receivers ∧
      (s.deliverGrant fields).pending = s.pending ∧
      (s.deliverGrant fields).collector.up = s.collector.up := by
  unfold State.deliverGrant; split <;> (try split) <;> simp

@[simp] theorem State.deliverGrant_reads (s : State) (fields : List Byte) :
    (∀ j, (s.deliverGrant fields).slot j = s.slot j) ∧
      (∀ j, (s.deliverGrant fields).voice j = s.voice j) ∧
      (∀ j, (s.deliverGrant fields).bank j = s.bank j) := by
  simp [State.slot, State.voice, State.bank]

/-- What deliverFreed leaves as it was. -/
@[simp] theorem State.deliverFreed_frame (s : State) (fields : List Byte) :
    (s.deliverFreed fields).slots = s.slots ∧
      (s.deliverFreed fields).port = s.port ∧
      (s.deliverFreed fields).store = s.store ∧
      (s.deliverFreed fields).responder = s.responder ∧
      (s.deliverFreed fields).freeCount = s.freeCount ∧
      (s.deliverFreed fields).receivers = s.receivers ∧
      (s.deliverFreed fields).pending = s.pending ∧
      (s.deliverFreed fields).collector.up = s.collector.up := by
  unfold State.deliverFreed; split <;> (try split) <;> simp

@[simp] theorem State.deliverFreed_reads (s : State) (fields : List Byte) :
    (∀ j, (s.deliverFreed fields).slot j = s.slot j) ∧
      (∀ j, (s.deliverFreed fields).bank j = s.bank j) := by
  simp [State.slot, State.bank]

end Sys2Proof.Machine
end

