-- ==== Sys2Proof/Laws/Notices.lean ====
section
/-! SUPPORT. What the notice unit's operations do, said once: a raise, the latch sets as bits, and what a raise
adds upstream. -/

namespace Sys2Proof.Machine

open Sys2Proof

/-! ### The sets of latches as bits (R183) -/

/-- The latch set of one latch. -/
theorem getLsbD_one_shift : ∀ l k : LatchIx, ((1#16 <<< k.val).getLsbD l.val) = decide (l = k) := by decide

/-- A bit of a latch set built by adding latches one by one. -/
theorem getLsbD_foldl_latches (p : LatchIx → Bool) (ls : List LatchIx) (acc : LatchSet) (l : LatchIx) :
    (ls.foldl (fun a k => if p k then a ||| (1#16 <<< k.val) else a) acc).getLsbD l =
      (acc.getLsbD l || (ls.contains l && p l)) := by
  induction ls generalizing acc with
  | nil => simp
  | cons k ks ih =>
    rw [List.foldl_cons, ih]
    by_cases hk : p k = true
    · have hb : ((1#16 <<< k.val).getLsbD l.val) = decide (l = k) := by
        exact getLsbD_one_shift l k
      rw [if_pos hk, BitVec.getLsbD_or, hb]
      by_cases h : l = k
      · subst h; simp [hk]
      · simp [h]
    · by_cases h : l = k
      · subst h; simp [hk]
      · simp [hk, h]

/-- A latch is in the latch set of a report exactly when it is set (R178). -/
theorem NoticeUnit.getLsbD_setLatches (n : NoticeUnit) (l : LatchIx) :
    n.setLatches.getLsbD l = n.latches[l].isSet := by
  rw [NoticeUnit.setLatches, getLsbD_foldl_latches (fun k => n.latches[k].isSet)]
  simp

/-- A latch is in the kept list of CLEAR_NOTICES exactly when it is kept (R179). -/
theorem NoticeUnit.getLsbD_keptLatches (n : NoticeUnit) (m : Half) (ls : LatchSet) (l : LatchIx) :
    (n.keptLatches m ls).getLsbD l = n.keeps m ls l := by
  rw [NoticeUnit.keptLatches, getLsbD_foldl_latches (n.keeps m ls)]
  simp

/-! ### Latches after each operation -/

/-- A latch after an event was taken: the event's own latch is set or counts a repeat, the others are as they
were (R175). -/
theorem NoticeUnit.latch_strike (n : NoticeUnit) (c : Capture) (l : LatchIx) :
    (n.strike c).latches[l] =
      if c.latch = l then
        if n.latches[l].isSet then
          { n.latches[l] with repeats := min 255 (n.latches[l].repeats + 1), lastMark := n.reportNumber }
        else { first := some c, repeats := 0, lastMark := n.reportNumber, isNew := true }
      else n.latches[l] := by
  by_cases h : c.latch = l
  · subst h
    simp [NoticeUnit.strike, NoticeUnit.evalLine]
  · have : c.latch.val ≠ l.val := fun e => h (Fin.ext e)
    simp [NoticeUnit.strike, NoticeUnit.evalLine, this, h]

/-- A latch after a report: its new flag is clear (R176). -/
theorem NoticeUnit.latch_report (n : NoticeUnit) (l : LatchIx) :
    n.report.latches[l] = { n.latches[l] with isNew := false } := by
  simp [NoticeUnit.report]

@[simp] theorem NoticeUnit.strike_fields (n : NoticeUnit) (c : Capture) :
    (n.strike c).reportNumber = n.reportNumber ∧ (n.strike c).lineEnable = n.lineEnable ∧
      (n.strike c).packetEnable = n.packetEnable ∧ (n.strike c).masterEnable = n.masterEnable ∧
      (n.strike c).timer = n.timer ∧ (n.strike c).owed = n.owed := by
  simp [NoticeUnit.strike, NoticeUnit.evalLine]

@[simp] theorem NoticeUnit.report_fields (n : NoticeUnit) :
    n.report.reportNumber = n.reportNumber + 1 ∧ n.report.lineEnable = n.lineEnable ∧
      n.report.packetEnable = n.packetEnable ∧ n.report.masterEnable = n.masterEnable ∧
      n.report.timer = n.timer ∧ n.report.owed = n.owed ∧ n.report.lineLow = n.lineLow := by
  simp [NoticeUnit.report]

/-- The line depends on the latches only through which of them are set, and on the enables (R177). -/
theorem NoticeUnit.line_congr {m n : NoticeUnit} (hm : m.masterEnable = n.masterEnable)
    (he : m.lineEnable = n.lineEnable) (hs : ∀ l : LatchIx, m.latches[l].isSet = n.latches[l].isSet) :
    m.line = n.line := by
  simp only [NoticeUnit.line, hm, he, hs]

/-- A report leaves the level of the line as it is (R177). -/
theorem NoticeUnit.line_report (n : NoticeUnit) : n.report.line = n.line := by
  refine NoticeUnit.line_congr (by simp) (by simp) fun l => ?_
  rw [NoticeUnit.latch_report]
  rfl

/-- After an event was taken the line stands as R177 gives it. -/
theorem NoticeUnit.lineLow_strike (n : NoticeUnit) (c : Capture) : (n.strike c).lineLow = (n.strike c).line := rfl

/-! ### A raise (R175, R178) -/

/-- Everything a raise can do: the event is taken by its latch, and a NOTICE that becomes owed is produced at once
while the interval timer is stopped, marked owed while it runs. -/
theorem State.raise_cases (s : State) (c : Capture) :
    (s.notices.owes c = false ∧ s.raise c = { s with notices := s.notices.strike c }) ∨
      (s.notices.owes c = true ∧ s.notices.timer ≠ none ∧
        s.raise c = { s with notices := { s.notices.strike c with owed := true } }) ∨
      (s.notices.owes c = true ∧ s.notices.timer = none ∧
        s.raise c =
          { s with
            notices :=
              { (s.notices.strike c).report with timer := some s.responder.engine.noticeInterval }
            collector := s.collector.push (s.notices.strike c).noticePacket }) := by
  unfold State.raise
  dsimp only
  by_cases ho : s.notices.owes c = true
  · by_cases ht : s.notices.timer = none
    · exact .inr (.inr ⟨ho, ht, by simp [ho, ht]⟩)
    · exact .inr (.inl ⟨ho, ht, by simp [ho, ht]⟩)
  · exact .inl ⟨by simpa using ho, by simp [ho]⟩

/-- A raise adds at most one packet upstream, and that a NOTICE (R178, R162). -/
theorem State.raise_upstream (s : State) (c : Capture) :
    ∃ ps, (s.raise c).collector.upstream = s.collector.upstream ++ ps ∧
      ∀ p ∈ ps, p.isImmediate = false := by
  rcases s.raise_cases c with ⟨-, h⟩ | ⟨-, -, h⟩ | ⟨-, -, h⟩
  · exact ⟨[], by simp [h]⟩
  · exact ⟨[], by simp [h]⟩
  · by_cases hu : s.collector.up = true
    · refine ⟨[(s.notices.strike c).noticePacket], ?_, ?_⟩
      · rw [h]; simp [CollectorPort.push, hu]
      · simp [NoticeUnit.noticePacket, Upstream.isImmediate]
    · exact ⟨[], by rw [h]; simp [CollectorPort.push, hu]⟩

/-- A raise keeps the law of the line (R177). -/
theorem State.raise_lineLaw (s : State) (c : Capture) : (s.raise c).LineLaw := by
  rcases s.raise_cases c with ⟨-, h⟩ | ⟨-, -, h⟩ | ⟨-, -, h⟩ <;> rw [h]
  · rfl
  · rfl
  · exact (NoticeUnit.line_report _).symm

end Sys2Proof.Machine
end

