-- ==== Sys2Proof/Laws/Queue.lean ====
section
/-! SUPPORT. What the operations of the emission queue do, said once: the search of an eviction, making room,
appending, coalescing and the stall timer. -/

namespace Sys2Proof.Machine

open Sys2Proof

/-! ### Taking the first element with a property -/

/-- Everything takeFirst can answer: a split of the list at its first element with the property. -/
theorem takeFirst_eq_some {α : Type} {p : α → Bool} {l : List α} {x : α} {r : List α} :
    takeFirst p l = some (x, r) ↔
      ∃ a b, l = a ++ x :: b ∧ r = a ++ b ∧ p x = true ∧ ∀ y ∈ a, p y = false := by
  induction l generalizing r with
  | nil => simp [takeFirst]
  | cons z zs ih =>
    unfold takeFirst
    by_cases hz : p z = true
    · simp only [hz, if_true, Option.some.injEq, Prod.mk.injEq]
      constructor
      · rintro ⟨rfl, rfl⟩
        exact ⟨[], zs, by simp, by simp, hz, by simp⟩
      · rintro ⟨a, b, hl, hr, hx, ha⟩
        cases a with
        | nil => simp_all
        | cons w ws =>
          simp only [List.cons_append, List.cons.injEq] at hl
          have := ha w (by simp)
          simp_all
    · simp only [hz, if_false, Bool.false_eq_true, Option.map_eq_some_iff, Prod.mk.injEq, Prod.exists]
      constructor
      · rintro ⟨x', r', h, rfl, rfl⟩
        obtain ⟨a, b, rfl, rfl, hx, ha⟩ := ih.1 h
        refine ⟨z :: a, b, by simp, by simp, hx, ?_⟩
        intro y hy
        rcases List.mem_cons.1 hy with rfl | hy
        · simpa using hz
        · exact ha y hy
      · rintro ⟨a, b, hl, hr, hx, ha⟩
        cases a with
        | nil => simp_all
        | cons w ws =>
          simp only [List.cons_append, List.cons.injEq] at hl
          obtain ⟨rfl, rfl⟩ := hl
          exact ⟨x, ws ++ b, ih.2 ⟨ws, b, rfl, rfl, hx, fun y hy => ha y (by simp [hy])⟩, rfl, by simp [hr]⟩

/-- takeFirst finds nothing exactly when no element has the property. -/
theorem takeFirst_eq_none {α : Type} {p : α → Bool} {l : List α} :
    takeFirst p l = none ↔ ∀ y ∈ l, p y = false := by
  induction l with
  | nil => simp [takeFirst]
  | cons z zs ih =>
    unfold takeFirst
    by_cases hz : p z = true <;> simp [hz, ih]

/-- The list without the element taken is one shorter. -/
theorem takeFirst_length {α : Type} {p : α → Bool} {l : List α} {x : α} {r : List α}
    (h : takeFirst p l = some (x, r)) : r.length + 1 = l.length := by
  obtain ⟨a, b, rfl, rfl, -, -⟩ := takeFirst_eq_some.1 h
  simp [Nat.add_assoc]

/-! ### Eviction (R129) -/

/-- An eviction takes an update, a LEVEL while there is one, and leaves a queue one shorter. -/
theorem evictFrom_eq_some {q r : List VoiceRecord} {x : VoiceRecord} (h : evictFrom q = some (x, r)) :
    r.length + 1 = q.length ∧
      (takeFirst VoiceRecord.isLevel q = some (x, r) ∨
        (∀ y ∈ q, y.isLevel = false) ∧ takeFirst VoiceRecord.isRetune q = some (x, r)) := by
  unfold evictFrom at h
  cases hl : takeFirst VoiceRecord.isLevel q with
  | some y =>
    simp only [hl, Option.orElse_eq_or, Option.some_or, Option.some.injEq] at h
    subst h
    exact ⟨takeFirst_length hl, .inl rfl⟩
  | none =>
    simp only [hl, Option.orElse_eq_or, Option.none_or] at h
    exact ⟨takeFirst_length h, .inr ⟨takeFirst_eq_none.1 hl, h⟩⟩

/-- Nothing can be evicted exactly when no record is an update. -/
theorem evictFrom_eq_none {q : List VoiceRecord} :
    evictFrom q = none ↔ ∀ y ∈ q, y.isUpdate = false := by
  simp only [evictFrom, Option.orElse_eq_or, Option.or_eq_none_iff,
    takeFirst_eq_none, VoiceRecord.isUpdate, Bool.or_eq_false_iff]
  exact ⟨fun h y hy => ⟨h.1 y hy, h.2 y hy⟩, fun h => ⟨fun y hy => (h y hy).1, fun y hy => (h y hy).2⟩⟩

@[simp] theorem State.oweRefresh_queue (s : State) (r : VoiceRecord) :
    (s.oweRefresh r).port.queue = s.port.queue := by simp

@[simp] theorem State.noteEviction_port (s : State) (r : VoiceRecord) :
    (s.noteEviction r).port = s.port := by
  unfold State.noteEviction; split <;> simp

/-- Everything making room can do: nothing while there is room, or when nothing can be evicted; else one
eviction. -/
theorem State.makeRoom_cases (s : State) :
    (s.port.queue.length < queueCapacity ∧ s.makeRoom = s) ∨
      (queueCapacity ≤ s.port.queue.length ∧
        ((evictFrom s.port.queue = none ∧ s.makeRoom = s) ∨
          ∃ r q, evictFrom s.port.queue = some (r, q) ∧
            s.makeRoom = (s.setQueue q).noteEviction r)) := by
  unfold State.makeRoom
  by_cases h : s.port.queue.length < queueCapacity
  · exact .inl ⟨h, by simp [h]⟩
  · refine .inr ⟨Nat.le_of_not_lt h, ?_⟩
    rw [if_neg h]
    cases he : evictFrom s.port.queue with
    | none => exact .inl ⟨rfl, rfl⟩
    | some x => exact .inr ⟨x.1, x.2, rfl, rfl⟩

/-- A record is appended at the tail whenever room is found (R125, R128). -/
theorem State.enqueue_queue (s : State) (r : VoiceRecord) :
    (s.enqueue r).port.queue =
      if s.makeRoom.port.queue.length < queueCapacity then s.makeRoom.port.queue ++ [r]
      else s.makeRoom.port.queue := by
  unfold State.enqueue
  dsimp only
  split <;> simp

/-- With room in the queue, an append changes nothing but the queue (R125). -/
theorem State.enqueue_of_room (s : State) (r : VoiceRecord) (h : s.port.queue.length < queueCapacity) :
    s.enqueue r = s.setQueue (s.port.queue ++ [r]) := by
  simp [State.enqueue, State.makeRoom, h]

/-- With room in the queue, a record placed at the head changes nothing but the queue (R136). -/
theorem State.enqueueHead_of_room (s : State) (r : VoiceRecord) (h : s.port.queue.length < queueCapacity) :
    s.enqueueHead r = s.setQueue (r :: s.port.queue) := by
  simp [State.enqueueHead, State.makeRoom, h]

/-- The queue never grows beyond its capacity by making room (R128). -/
theorem State.makeRoom_length (s : State) : s.makeRoom.port.queue.length ≤ s.port.queue.length := by
  rcases s.makeRoom_cases with ⟨-, h⟩ | ⟨-, ⟨-, h⟩ | ⟨r, q, he, h⟩⟩
  · rw [h]
  · rw [h]
  · rw [h]
    have := (evictFrom_eq_some he).1
    simp
    omega

/-- The queue never grows beyond its capacity by an append (R128). -/
theorem State.enqueue_length (s : State) (r : VoiceRecord) (h : s.port.queue.length ≤ queueCapacity) :
    (s.enqueue r).port.queue.length ≤ queueCapacity := by
  have := s.makeRoom_length
  rw [State.enqueue_queue]
  split
  · simp; omega
  · omega

/-! ### The stall timer (R135) -/

@[simp] theorem State.settleStall_port (s : State) :
    s.settleStall.port.queue = s.port.queue ∧ s.settleStall.port.credit = s.port.credit ∧
      s.settleStall.port.attached = s.port.attached ∧ s.settleStall.port.allStopOwed = s.port.allStopOwed ∧
      s.settleStall.port.sending = s.port.sending := by
  and_intros <;> rfl

/-- Once settled, the stall timer runs exactly under its condition (R135). -/
theorem State.settleStall_law (s : State) : s.settleStall.StallLaw := by
  simp only [State.StallLaw, State.settleStall]
  by_cases h : s.port.stalled = true
  · have : s.port.attached = true ∧ s.port.queue.isEmpty = false ∧ s.port.credit = 0 := by
      simpa [VoicePort.stalled, and_assoc] using h
    simp [VoicePort.stalled, this]
  · have h' : s.port.stalled = false := by simpa using h
    simp only [h', Bool.false_eq_true, if_false, Option.isSome_none]
    simpa [VoicePort.stalled] using h'.symm

/-! ### Coalescing (R126) -/

/-- A merge keeps every record in its place. -/
theorem mergeRetune_length {v : VoiceIx} {g : Byte} {p : Nat} {q r : List VoiceRecord}
    (h : mergeRetune v g p q = some r) : r.length = q.length := by
  unfold mergeRetune at h
  split at h
  · cases h; simp
  · split at h
    · cases h; simp
    · cases h

/-- A merge keeps every record in its place. -/
theorem mergeLevel_length {v : VoiceIx} {g : Byte} {l : Nat} {q r : List VoiceRecord}
    (h : mergeLevel v g l q = some r) : r.length = q.length := by
  unfold mergeLevel at h
  split at h
  · cases h; simp
  · split at h
    · cases h; simp
    · cases h

/-- An offered RETUNE keeps the queue within its capacity, and the stall timer's law holds after it. -/
theorem State.offerRetune_port (s : State) (v : VoiceIx) (p : Nat) :
    (s.offerRetune v p).StallLaw ∧
      (s.port.queue.length ≤ queueCapacity → (s.offerRetune v p).port.queue.length ≤ queueCapacity) := by
  refine ⟨State.settleStall_law _, fun h => ?_⟩
  unfold State.offerRetune
  dsimp only
  split
  · rename_i q hq
    have := mergeRetune_length hq
    simp
    omega
  · simpa using s.enqueue_length _ h

/-- An offered LEVEL keeps the queue within its capacity, and the stall timer's law holds after it. -/
theorem State.offerLevel_port (s : State) (v : VoiceIx) (l : Nat) :
    (s.offerLevel v l).StallLaw ∧
      (s.port.queue.length ≤ queueCapacity → (s.offerLevel v l).port.queue.length ≤ queueCapacity) := by
  refine ⟨State.settleStall_law _, fun h => ?_⟩
  unfold State.offerLevel
  dsimp only
  split
  · rename_i q hq
    have := mergeLevel_length hq
    simp
    omega
  · simpa using s.enqueue_length _ h

/-! ### Records within their ranges (R58) -/

@[simp] theorem VoiceRecord.inRange_start (v : VoiceIx) (g : Byte) (ch pg p vel l : Nat) :
    (VoiceRecord.start v g ch pg p vel l).inRange = true ↔
      ch ≤ 15 ∧ pg ≤ 127 ∧ p ≤ 8191 ∧ (1 ≤ vel ∧ vel ≤ 127) ∧ l ≤ 16383 := by
  simp [VoiceRecord.inRange, and_assoc]

@[simp] theorem VoiceRecord.inRange_retune (v : VoiceIx) (g : Byte) (p : Nat) :
    (VoiceRecord.retune v g p).inRange = true ↔ p ≤ 8191 := by
  simp [VoiceRecord.inRange]

@[simp] theorem VoiceRecord.inRange_level (v : VoiceIx) (g : Byte) (l : Nat) :
    (VoiceRecord.level v g l).inRange = true ↔ l ≤ 16383 := by
  simp [VoiceRecord.inRange]

@[simp] theorem VoiceRecord.inRange_stop (v : VoiceIx) (g : Byte) (k : StopKind) :
    (VoiceRecord.stop v g k).inRange = true := rfl

@[simp] theorem VoiceRecord.inRange_allStop : VoiceRecord.allStop.inRange = true := rfl

end Sys2Proof.Machine
end

