-- ==== Sys2Proof/Laws/Pool.lean ====
section
/-! SUPPORT. What the voice pool's operations do, said once: the search of an allocation, a release's two courses,
and the slots a steal or a start touches. -/

namespace Sys2Proof.Machine

open Sys2Proof

/-! ### Candidates (R108) -/

/-- Everything the search of an allocation can answer: the lowest-numbered voice of class 1, else of class 2, else
the head of the release list, else the class 4 victim. -/
theorem Pool.candidate_cases (p : Pool) (mode : StealMode) (π : Fin 4) :
    (∃ v, (List.finRange 32).find? (fun v => p.voices[v].isClass1) = some v ∧
        p.candidate mode π = some (.class1, v)) ∨
      ((∀ v : VoiceIx, p.voices[v].isClass1 = false) ∧
        ((∃ v, (List.finRange 32).find? (fun v => p.voices[v].isClass2) = some v ∧
            p.candidate mode π = some (.class2, v)) ∨
          ((∀ v : VoiceIx, p.voices[v].isClass2 = false) ∧
            ((∃ v, p.releaseList.head? = some v ∧ p.candidate mode π = some (.class3, v)) ∨
              (p.releaseList = [] ∧
                p.candidate mode π = (p.victim mode π).map fun v => (.class4, v)))))) := by
  have none1 {f : VoiceIx → Bool} (h : (List.finRange 32).find? f = none) : ∀ v, f v = false := fun v => by
    simpa using List.find?_eq_none.1 h v (List.mem_finRange v)
  unfold Pool.candidate
  cases h1 : (List.finRange 32).find? fun v => p.voices[v].isClass1 with
  | some v => exact .inl ⟨v, rfl, rfl⟩
  | none =>
    refine .inr ⟨none1 h1, ?_⟩
    cases h2 : (List.finRange 32).find? fun v => p.voices[v].isClass2 with
    | some v => exact .inl ⟨v, rfl, rfl⟩
    | none =>
      refine .inr ⟨none1 h2, ?_⟩
      cases h3 : p.releaseList with
      | nil => exact .inr ⟨rfl, rfl⟩
      | cons v vs => exact .inl ⟨v, rfl, rfl⟩

/-- A class 4 victim is a SOUNDING voice of a priority strictly below the request's (R109). -/
theorem Pool.victim_isClass4 {p : Pool} {mode : StealMode} {π : Fin 4} {v : VoiceIx}
    (h : p.victim mode π = some v) : v ∈ p.ageList ∧ p.voices[v].isClass4 π = true := by
  have mem : v ∈ p.considered π := by
    unfold Pool.victim at h
    cases mode with
    | fixed => exact (List.mem_filter.1 (List.mem_of_mem_head? h)).1
    | rotating =>
      dsimp only at h
      split at h
      · exact List.mem_of_find?_eq_some h
      · cases h
  exact List.mem_filter.1 mem

/-! ### Release (R114, R115) -/

/-- A release takes one of two courses: cancellation of an unsent START, or a STOP for a note the rack holds. -/
theorem State.releaseVoice_cases (s : State) (v : VoiceIx) (k : StopKind) :
    ((s.voice v).dn = .pending ∧ s.releaseVoice v k = s.cancelVoice v) ∨
      ((s.voice v).dn = .opened ∧ s.releaseVoice v k = s.stopVoice v k) ∨
      ((s.voice v).dn ≠ .pending ∧ (s.voice v).dn ≠ .opened ∧ s.releaseVoice v k = s) := by
  unfold State.releaseVoice
  cases h : (s.voice v).dn <;> simp

/-- A cancellation writes exactly this (R114). -/
theorem State.voice_cancelVoice (s : State) (v w : VoiceIx) :
    (s.cancelVoice v).voice w =
      if v = w then
        { s.voice v with phase := .free, owner := none, dn := .none, pitchOwed := false, levelOwed := false }
      else s.voice w := by
  simp [State.cancelVoice, State.voice_modVoice]

/-- A cancellation removes the START of the voice's generation and nothing else (R114, R127). -/
theorem State.cancelVoice_queue (s : State) (v : VoiceIx) :
    (s.cancelVoice v).port.queue = cancelStart v (s.voice v).generation s.port.queue := by
  simp [State.cancelVoice]

/-- A removal keeps the order of the records that stay, and never lengthens the queue (R125, R127). -/
theorem removals_sublist (v : VoiceIx) (g : Byte) (q : List VoiceRecord) :
    (cancelStart v g q).Sublist q ∧ (removeUpdates v g q).Sublist q ∧ (removeAll v g q).Sublist q :=
  ⟨List.filter_sublist, List.filter_sublist, List.filter_sublist⟩

/-- The releases of a layer list, one after the other. -/
theorem State.releaseLayers_append (k : StopKind) (es fs : List (Option VoiceIx)) (s : State) :
    State.releaseLayers k (es ++ fs) s = State.releaseLayers k fs (State.releaseLayers k es s) := by
  induction es generalizing s with
  | nil => rfl
  | cons e es ih => cases e <;> simp [State.releaseLayers, ih]

/-- An empty layer list, or one whose entries are all absent, releases nothing (R12, R17, R85). -/
theorem State.releaseLayers_of_none (k : StopKind) (n : Nat) (s : State) :
    State.releaseLayers k (List.replicate n none) s = s := by
  induction n with
  | zero => rfl
  | succ n ih => rw [List.replicate_succ]; exact ih

/-! ### Layer lists (R93) -/

/-- Dropping a voice from a layer list keeps the number of entries and every entry that names another voice. -/
theorem dropVoice_layers (v : VoiceIx) (x : Slot) :
    (dropVoice v x).layers.length = x.layers.length ∧
      ∀ k : Nat, (dropVoice v x).layers[k]? =
        (x.layers[k]?).map fun e => if e = some v then none else e := by
  simp [dropVoice]

/-- A steal changes no field of a slot but its layer list (R93). -/
theorem State.slot_steal (s : State) (v : VoiceIx) (i j : SlotIx) :
    (s.steal v i).slot j = s.slot j ∨ (s.steal v i).slot j = dropVoice v (s.slot j) := by
  unfold State.steal
  dsimp only
  split
  · exact .inl rfl
  · rename_i o ho
    have key : ∀ t : State, (t.slot j = s.slot j ∨ t.slot j = dropVoice v (s.slot j)) →
        ((if s.responder.engine.stealMode = .rotating then (t.raise (.steal v o.slot i)).setRotation o.slot
          else t.raise (.steal v o.slot i)).slot j = s.slot j ∨
        (if s.responder.engine.stealMode = .rotating then (t.raise (.steal v o.slot i)).setRotation o.slot
          else t.raise (.steal v o.slot i)).slot j = dropVoice v (s.slot j)) := by
      intro t ht
      split <;> simpa using ht
    apply key
    have base : ((s.setAgeList (s.pool.ageList.erase v)).modSlot o.slot (dropVoice v)).slot j = s.slot j ∨
        ((s.setAgeList (s.pool.ageList.erase v)).modSlot o.slot (dropVoice v)).slot j = dropVoice v (s.slot j) := by
      by_cases h : o.slot = j
      · subst h; exact .inr (by simp)
      · exact .inl (by simp [State.slot_modSlot, h])
    split <;> simpa using base

/-- An allocation changes no field of a slot but its layer list (R93, R112). -/
theorem State.slot_takeVoice (s : State) (k : AllocClass) (v : VoiceIx) (i j : SlotIx) :
    (s.takeVoice k v i).slot j = s.slot j ∨ (s.takeVoice k v i).slot j = dropVoice v (s.slot j) := by
  unfold State.takeVoice
  split
  · exact .inl rfl
  · exact .inl (by simp)
  · exact .inl (by simp)
  · exact s.slot_steal v i j

end Sys2Proof.Machine
end

