-- ==== Sys2Proof/Laws/Store.lean ====
section
/-! SUPPORT. What the table store's operations do, said once: the LIVE and staging banks, the drain, the bank
switching rule and the starts of long work. -/

namespace Sys2Proof.Machine

open Sys2Proof

/-- There are two banks. -/
theorem bankIx_cases : ∀ d : BankIx, d = 0 ∨ d = 1 := by decide

/-! ### Finding banks (R144) -/

/-- The LIVE bank, when one is found, is LIVE. -/
theorem State.liveBank_state {s : State} {b : BankIx} (h : s.store.liveBank = some b) :
    (s.bank b).state = .live := by
  have := List.find?_some h
  simpa [State.bank] using this

/-- There is no LIVE bank exactly when no bank is LIVE. -/
theorem State.liveBank_eq_none {s : State} :
    s.store.liveBank = none ↔ ∀ b : BankIx, (s.bank b).state ≠ .live := by
  simp only [TableStore.liveBank, List.find?_eq_none, State.bank, beq_iff_eq, List.mem_finRange, true_imp_iff]

/-- The staging bank is neither LIVE nor DRAINING while some bank is LIVE (R144). -/
theorem State.stagingBank_state {s : State} {b : BankIx} (hl : s.store.liveBank ≠ none)
    (h : s.store.stagingBank = some b) : (s.bank b).state ≠ .live ∧ (s.bank b).state ≠ .draining := by
  unfold TableStore.stagingBank at h
  rw [if_neg (by simpa using hl)] at h
  have := List.find?_some h
  simpa [State.bank] using this

/-- A bank of long work is COPYING or VERIFYING (R149). -/
theorem State.workBank_state {s : State} {b : BankIx} (h : s.store.workBank = some b) :
    (s.bank b).state = .copying ∨ (s.bank b).state = .verifying := by
  have := List.find?_some h
  simpa [State.bank] using this

/-! ### The drain (R148) -/

/-- The drain test on one bank changes the state of that bank alone, from DRAINING to STAGED. -/
theorem State.bank_drainBank (s : State) (b d : BankIx) :
    (s.drainBank b).bank d = s.bank d ∨
      d = b ∧ (s.bank b).state = .draining ∧ s.bankUsed b = false ∧
        (s.drainBank b).bank d = { s.bank b with state := .staged } := by
  unfold State.drainBank
  split
  · rename_i h
    by_cases hd : b = d
    · subst hd; exact .inr ⟨rfl, h.1, h.2, by simp [State.bank_setBankState]⟩
    · exact .inl (by simp [State.bank_setBankState, hd])
  · exact .inl rfl

@[simp] theorem State.drainBank_used (s : State) (b d : BankIx) : (s.drainBank b).bankUsed d = s.bankUsed d := by
  simp [State.bankUsed]

/-- The drain test changes no bank but a DRAINING one that no slot uses, which becomes STAGED with its contents
as they stood (R148). -/
theorem State.bank_drain (s : State) (d : BankIx) :
    s.drain.bank d =
      if (s.bank d).state = .draining ∧ s.bankUsed d = false then { s.bank d with state := .staged }
      else s.bank d := by
  have step (t : State) (b : BankIx) :
      (t.drainBank b).bank d =
        if b = d ∧ (t.bank d).state = .draining ∧ t.bankUsed d = false then
          { t.bank d with state := .staged } else t.bank d := by
    unfold State.drainBank
    by_cases hb : b = d
    · subst hb
      by_cases h : (t.bank b).state = .draining ∧ t.bankUsed b = false
      · rw [if_pos h, if_pos ⟨rfl, h⟩]; simp [State.bank_setBankState]
      · rw [if_neg h, if_neg (by simpa using h)]
    · rw [if_neg (c := b = d ∧ _) (by simp [hb])]
      split
      · simp [State.bank_setBankState, hb]
      · rfl
  unfold State.drain
  rw [step, step]
  have hd := bankIx_cases d
  rcases hd with rfl | rfl <;> simp

/-- The drain test leaves the long-work queue and the progress of a copy as they are. -/
@[simp] theorem State.drain_work (s : State) :
    s.drain.store.work = s.store.work ∧ s.drain.store.copied = s.store.copied := by
  have one (t : State) (b : BankIx) :
      (t.drainBank b).store.work = t.store.work ∧ (t.drainBank b).store.copied = t.store.copied := by
    unfold State.drainBank
    split <;> exact ⟨rfl, rfl⟩
  simp [State.drain, one]

/-- The drain test never makes or ends a LIVE bank (R148). -/
theorem State.drain_live (s : State) (d : BankIx) : (s.drain.bank d).state = .live ↔ (s.bank d).state = .live := by
  rw [State.bank_drain]
  split
  · rename_i h
    simp [h.1]
  · rfl

/-- The LIVE bank is found from the bank states alone. -/
theorem State.liveBank_congr {s t : State} (h : ∀ d, (t.bank d).state = .live ↔ (s.bank d).state = .live) :
    t.store.liveBank = s.store.liveBank := by
  unfold TableStore.liveBank
  congr 1
  funext d
  have := h d
  simp only [State.bank] at this
  rw [Bool.eq_iff_iff, beq_iff_eq, beq_iff_eq]
  exact this

@[simp] theorem State.drain_liveBank (s : State) : s.drain.store.liveBank = s.store.liveBank :=
  State.liveBank_congr s.drain_live

/-! ### The bank switching rule (R147) -/

/-- What the rule gives a slot, by its state (R147). -/
theorem switchedBank_cases (live : Option BankIx) (x : Slot) :
    (x.phase = .unbound ∧ switchedBank live x = none) ∨
      (x.phase = .sounding ∧ switchedBank live x = x.bank) ∨
      (x.phase ≠ .unbound ∧ x.phase ≠ .sounding ∧ switchedBank live x = live.or x.bank) := by
  unfold switchedBank
  cases h : x.phase <;> simp

/-- The switching rule changes no field of a slot but its bank in use, and no slot but its own (R147). -/
theorem State.slot_switchBank (s : State) (i j : SlotIx) :
    (s.switchBank i).slot j =
      if i = j then { s.slot j with bank := switchedBank s.store.liveBank (s.slot j) } else s.slot j := by
  unfold State.switchBank
  simp only [State.drain_reads, State.slot_modSlot]
  split
  · rename_i h; subst h; rfl
  · rfl

/-- The switching rule leaves the LIVE bank as it is (R147, R148). -/
@[simp] theorem State.switchBank_liveBank (s : State) (i : SlotIx) :
    (s.switchBank i).store.liveBank = s.store.liveBank := by
  simp [State.switchBank]

/-! ### Starts of long work (R149 to R151) -/

/-- What the start of an operation does: it fails at once and the next starts, or it runs. -/
theorem State.startWork_cons (w : Work) (ws : List Work) (s : State) :
    (∃ b r, s.store.startOf w.kind = .fails b r ∧
        State.startWork (w :: ws) s = State.startWork ws ((s.setWork ws).completeFail w b r)) ∨
      ∃ b x, s.store.startOf w.kind = .running b x ∧ (x = .copying ∨ x = .verifying) ∧
        (State.startWork (w :: ws) s).store.work = w :: ws ∧
        ∀ d, (State.startWork (w :: ws) s).bank d = if b = d then { s.bank b with state := x } else s.bank d := by
  conv => enter [1, 1, b, 1, r, 2, 1]; unfold State.startWork
  cases h : s.store.startOf w.kind with
  | fails b r => exact .inl ⟨b, r, rfl, rfl⟩
  | running b x =>
    refine .inr ⟨b, x, rfl, ?_, ?_, fun d => ?_⟩
    · unfold TableStore.startOf at h
      split at h
      · cases h
      · split at h <;> cases h; exact .inl rfl
      · split at h <;> cases h; exact .inr rfl
    · unfold State.startWork; rw [h]; rfl
    · unfold State.startWork; rw [h]
      exact State.bank_setBankState (s.setWork (w :: ws)) b d x

/-- A table write leaves the other bank as it is (R146). -/
theorem State.bank_writeBank_ne (s : State) {b d : BankIx} (n : Nat) (es : List TableEntry) (h : b ≠ d) :
    (s.writeBank b n es).bank d = s.bank d := by
  simp [State.writeBank, State.bank_setBank, h]

end Sys2Proof.Machine
end

