-- ==== Sys2Proof/Laws/Manage.lean ====
section
/-! SUPPORT. What the management responder does, said once: how a request arrives and is taken, what an answer
is, and what every command leaves as it was. -/

namespace Sys2Proof.Machine

open Sys2Proof

/-- A link on which a packet can be received is up (R184). -/
theorem State.linkUp_of_receives {s : State} {l : Link} (h : s.receives l = true) : s.linkUp l = true := by
  simp only [State.receives, Bool.and_eq_true] at h
  exact h.1

/-- The collector link is up where a packet can be received on it (R184). -/
theorem State.up_of_receives {s : State} (h : s.receives .collector = true) : s.collector.up = true :=
  State.linkUp_of_receives h

/-- A request that meets a ready responder is taken at once: it is carried out with the responder waiting and no
request in the list (R161). -/
theorem State.submit_ready {s : State} (h : s.Ready) (r : Request) :
    s.submit r = carryOut r { s with responder := { s.responder with waiting := true } } := by
  obtain ⟨hu, hw, hr⟩ := h
  unfold State.submit
  rw [if_pos hu, if_neg (by simp [hr, requestCapacity])]
  unfold State.serve
  simp only [hw, hr, List.nil_append]

/-- A reply is one immediate packet behind those that wait, while the link is up (R160, R162). -/
theorem State.reply_of_up {s : State} (h : s.collector.up = true) (r : Request) (st : Status) (pl : List Byte) :
    s.reply r st pl =
      { s with
        collector :=
          { s.collector with upstream := s.collector.upstream ++ [.immediate r.id r.code st pl] } } := by
  simp [State.reply, State.push, CollectorPort.push, h]

/-- A refusal in a ready state is the reply alone (R160). -/
theorem State.refuse_ready {s : State} (h : s.Ready) (r : Request) (st : Status) :
    State.refuse { s with responder := { s.responder with waiting := true } } r st = s.answered r.id r.code st [] := by
  unfold State.refuse
  rw [State.reply_of_up (by exact State.up_of_receives h.1)]
  rfl

/-- Every request leaves the commands waiting, the link and the request list as they were. -/
@[simp] theorem carryOut_frame (r : Request) (s : State) :
    (carryOut r s).pending = s.pending ∧ (carryOut r s).collector.up = s.collector.up ∧
      (carryOut r s).receivers = s.receivers ∧
      (carryOut r s).responder.requests = s.responder.requests ∧
      (carryOut r s).responder.waiting = s.responder.waiting := by
  have work (k : WorkKind) : (requestWork k r s).pending = s.pending ∧
      (requestWork k r s).collector.up = s.collector.up ∧ (requestWork k r s).receivers = s.receivers ∧
      (requestWork k r s).responder = s.responder := by
    unfold requestWork; repeat' split
    all_goals simp
  unfold carryOut
  split
  · unfold cmdStatus; split <;> simp
  · unfold cmdClearNotices; split <;> simp
  · unfold cmdSetNotices; repeat' split
    all_goals simp
  · unfold cmdReadCapture; repeat' split
    all_goals simp
  · unfold cmdBindSlot
    split <;> (try split) <;> (try dsimp only) <;> (try split) <;> (try split) <;> simp
  · unfold cmdUnbindSlot; repeat' split
    all_goals simp
  · unfold cmdSetSlot; repeat' split
    all_goals simp
  · unfold cmdReadSlot; repeat' split
    all_goals simp
  · unfold cmdSetEngine; repeat' split
    all_goals simp
  · unfold cmdReadEngine; split <;> simp
  · unfold cmdWriteTable; repeat' split
    all_goals simp
  · unfold cmdReadTable; repeat' split
    all_goals (try dsimp only)
    all_goals simp
  · exact ⟨(work .copyLive).1, (work .copyLive).2.1, (work .copyLive).2.2.1, by rw [cmdCopyLive, (work .copyLive).2.2.2],
      by rw [cmdCopyLive, (work .copyLive).2.2.2]⟩
  · exact ⟨(work .commit).1, (work .commit).2.1, (work .commit).2.2.1, by rw [cmdCommit, (work .commit).2.2.2],
      by rw [cmdCommit, (work .commit).2.2.2]⟩
  · unfold cmdAbortWork; repeat' split
    all_goals simp
  · unfold cmdReadVoices; repeat' split
    all_goals simp
  · unfold cmdPanic; split <;> simp
  · unfold cmdRestart; split <;> simp
  · simp

@[simp] theorem State.serve_frame (s : State) :
    s.serve.pending = s.pending ∧ s.serve.collector.up = s.collector.up ∧
      s.serve.receivers = s.receivers := by
  unfold State.serve; split <;> simp

@[simp] theorem State.submit_frame (s : State) (r : Request) :
    (s.submit r).pending = s.pending ∧ (s.submit r).collector.up = s.collector.up ∧
      (s.submit r).receivers = s.receivers := by
  unfold State.submit; split <;> (try split) <;> simp

@[simp] theorem State.deliverManage_frame (s : State) (fields : List Byte) :
    (s.deliverManage fields).pending = s.pending ∧ (s.deliverManage fields).collector.up = s.collector.up ∧
      (s.deliverManage fields).receivers = s.receivers := by
  unfold State.deliverManage; split <;> simp

@[simp] theorem State.replySent_frame (s : State) :
    s.replySent.pending = s.pending ∧ s.replySent.collector.up = s.collector.up ∧
      s.replySent.receivers = s.receivers := by
  unfold State.replySent; split <;> simp

@[simp] theorem State.upstreamSent_frame (s : State) :
    s.upstreamSent.pending = s.pending ∧ s.upstreamSent.collector.up = s.collector.up ∧
      s.upstreamSent.receivers = s.receivers ∧
      s.upstreamSent.responder = s.responder := by
  unfold State.upstreamSent; split <;> simp

end Sys2Proof.Machine
end

