-- ==== Sys2Proof/Laws/Arith.lean ====
section
/-! SUPPORT. The ranges of the arithmetic and the laws of the byte encodings: small lemmas the larger facts are
built from. -/

namespace Sys2Proof.Machine

open Sys2Proof

/-! ### Clamping (R1) -/

/-- A clamped value lies in the range. -/
theorem clamp_mem {lo hi : Int} (h : lo ≤ hi) (v : Int) : lo ≤ clamp lo hi v ∧ clamp lo hi v ≤ hi := by
  unfold clamp
  split
  · omega
  · split <;> omega

/-- A value inside the range is left as it is. -/
theorem clamp_of_mem {lo hi v : Int} (h1 : lo ≤ v) (h2 : v ≤ hi) : clamp lo hi v = v := by
  unfold clamp
  rw [if_neg (by omega), if_neg (by omega)]

/-! ### Breath (R40 to R47) -/

/-- The scaled pressure lies in 0..4095 (R41). -/
theorem scaledPressure_le (st : Settings) (x : Nat) : scaledPressure st x ≤ 4095 := Nat.min_le_left _ _

/-- An out level that moves stays between where it was and where it goes (R45). -/
theorem slewed_between (slew out e : Nat) :
    min out e ≤ slewed slew out e ∧ slewed slew out e ≤ max out e := by
  unfold slewed
  split <;> omega

/-- A layer's level does not exceed the out level (R46). -/
theorem layerLevel_le {out trim : Nat} (h : trim ≤ 127) : layerLevel out trim ≤ out := by
  unfold layerLevel
  calc out * trim / 127 ≤ out * 127 / 127 := Nat.div_le_div_right (Nat.mul_le_mul_left _ h)
    _ = out := by simp

/-- A pitch code lies in 0..8191 (R50). -/
theorem pitchCode_le (v : Int) : pitchCode v ≤ 8191 := by
  have := clamp_mem (lo := 0) (hi := 8191) (by decide) v
  unfold pitchCode
  omega

/-- An onset velocity lies in 1..127 (R47). -/
theorem onsetVelocityOf_mem (gain q qPrev : Nat) :
    1 ≤ onsetVelocityOf gain q qPrev ∧ onsetVelocityOf gain q qPrev ≤ 127 := by
  have := clamp_mem (lo := 1) (hi := 127) (by decide) (((q : Int) - qPrev) * gain / 64)
  unfold onsetVelocityOf
  omega

/-! ### Bytes (R183) -/

/-- A two-byte field is read back from its bytes. -/
theorem half_bytes (h : Half) : half (h.extractLsb' 8 8) (h.extractLsb' 0 8) = h := by
  apply BitVec.eq_of_getLsbD_eq
  intro i hi
  simp only [half, BitVec.getLsbD_append, BitVec.getLsbD_extractLsb']
  by_cases h8 : i < 8
  · simp [h8]
  · have h1 : i - 8 < 8 := by omega
    have h2 : 8 + (i - 8) = i := by omega
    simp [h8, h1, h2]

/-- A key set is read back from its three bytes. -/
theorem keySet_bytes (ks : KeySet) :
    keySet (ks.extractLsb' 16 8) (ks.extractLsb' 8 8) (ks.extractLsb' 0 8) = ks := by
  apply BitVec.eq_of_getLsbD_eq
  intro i hi
  simp only [keySet, BitVec.getLsbD_append, BitVec.getLsbD_extractLsb']
  by_cases h8 : i < 8
  · simp [h8]
  · by_cases h16 : i < 16
    · have h1 : i - 8 < 8 := by omega
      have h2 : 8 + (i - 8) = i := by omega
      simp [h8, h1, h2]
    · have h1 : ¬(i - 8 < 8) := by omega
      have h3 : i - 8 - 8 < 8 := by omega
      have h2 : 16 + (i - 8 - 8) = i := by omega
      simp [h8, h1, h2, h3]

/-- The two-byte fields of a run of bytes are read back from their bytes. -/
theorem halves_halfBytes (hs : List Half) : halves (hs.flatMap halfBytes) = hs := by
  induction hs with
  | nil => rfl
  | cons h hs ih =>
    rw [List.flatMap_cons]
    show halves (h.extractLsb' 8 8 :: h.extractLsb' 0 8 :: hs.flatMap halfBytes) = h :: hs
    rw [halves, ih, half_bytes]

/-- A number of one byte is read back from its byte. -/
theorem toNat_byte {n : Nat} (h : n ≤ 255) : (BitVec.ofNat 8 n).toNat = n := by
  rw [BitVec.toNat_ofNat]
  omega

/-- A number of two bytes is read back from its field. -/
theorem toNat_half {n : Nat} (h : n ≤ 65535) : (BitVec.ofNat 16 n).toNat = n := by
  rw [BitVec.toNat_ofNat]
  omega

/-- A signed number of one byte is read back from its byte. -/
theorem toInt_byte {v : Int} (h1 : -128 ≤ v) (h2 : v ≤ 127) : (BitVec.ofInt 8 v).toInt = v := by
  rw [BitVec.toInt_ofInt]
  unfold Int.bmod
  norm_num
  split <;> omega

end Sys2Proof.Machine
end

