-- ==== Sys2Proof/Laws/Beside.lean ====
section
/-! SUPPORT. The operations that requests are carried out with look at neither the request list nor the receivers, and
leave both as they are: each commutes with State.beside (R161). -/

namespace Sys2Proof.Machine

open Sys2Proof

variable (s : State) (rs : List Request) (x : Receivers)

/-! ### The named operations -/

@[simp] theorem State.beside_reads :
    (s.beside rs x).collector = s.collector ∧ (s.beside rs x).slots = s.slots ∧
      (s.beside rs x).pool = s.pool ∧ (s.beside rs x).port = s.port ∧ (s.beside rs x).store = s.store ∧
      (s.beside rs x).notices = s.notices ∧ (s.beside rs x).freeCount = s.freeCount ∧
      (s.beside rs x).pending = s.pending ∧ (s.beside rs x).receivers = x ∧
      (s.beside rs x).responder = { s.responder with requests := rs } ∧
      (∀ i, (s.beside rs x).slot i = s.slot i) ∧ (∀ v, (s.beside rs x).voice v = s.voice v) ∧
      ∀ b, (s.beside rs x).bank b = s.bank b := by
  simp [State.beside, State.slot, State.voice, State.bank]

@[simp] theorem State.beside_writes :
    (∀ p, (s.beside rs x).push p = (s.push p).beside rs x) ∧
      (∀ i y, (s.beside rs x).setSlot i y = (s.setSlot i y).beside rs x) ∧
      (∀ i f, (s.beside rs x).modSlot i f = (s.modSlot i f).beside rs x) ∧
      (∀ v y, (s.beside rs x).setVoice v y = (s.setVoice v y).beside rs x) ∧
      (∀ v f, (s.beside rs x).modVoice v f = (s.modVoice v f).beside rs x) ∧
      (∀ b y, (s.beside rs x).setBank b y = (s.setBank b y).beside rs x) ∧
      (∀ b y, (s.beside rs x).setBankState b y = (s.setBankState b y).beside rs x) ∧
      (∀ l, (s.beside rs x).setAgeList l = (s.setAgeList l).beside rs x) ∧
      (∀ l, (s.beside rs x).setReleaseList l = (s.setReleaseList l).beside rs x) ∧
      (∀ i, (s.beside rs x).setRotation i = (s.setRotation i).beside rs x) ∧
      (∀ q, (s.beside rs x).setQueue q = (s.setQueue q).beside rs x) ∧
      (∀ ws, (s.beside rs x).setWork ws = (s.setWork ws).beside rs x) ∧
      (∀ e, (s.beside rs x).setEngine e = (s.setEngine e).beside rs x) ∧
      (s.beside rs x).settleStall = s.settleStall.beside rs x :=
  ⟨fun _ => rfl, fun _ _ => rfl, fun _ _ => rfl, fun _ _ => rfl, fun _ _ => rfl, fun _ _ => rfl, fun _ _ => rfl,
    fun _ => rfl, fun _ => rfl, fun _ => rfl, fun _ => rfl, fun _ => rfl, fun _ => rfl, rfl⟩

@[simp] theorem State.beside_raise (c : Capture) : (s.beside rs x).raise c = (s.raise c).beside rs x := by
  unfold State.raise
  simp only [State.beside_reads]
  (repeat' split) <;> rfl

/-- A run of operations, each of which commutes. -/
theorem State.beside_foldl {α : Type} (f : State → α → State)
    (h : ∀ t a, f (State.beside t rs x) a = (f t a).beside rs x) (l : List α) :
    l.foldl f (s.beside rs x) = (l.foldl f s).beside rs x := by
  induction l generalizing s with
  | nil => rfl
  | cons a l ih => simp [h, ih]

/-! ### The queue and the pool -/

@[simp] theorem State.beside_noteEviction (r : VoiceRecord) :
    (s.beside rs x).noteEviction r = (s.noteEviction r).beside rs x := by
  have owe : (s.beside rs x).oweRefresh r = (s.oweRefresh r).beside rs x := by cases r <;> rfl
  unfold State.noteEviction
  split <;> simp [owe]

@[simp] theorem State.beside_makeRoom : (s.beside rs x).makeRoom = s.makeRoom.beside rs x := by
  unfold State.makeRoom
  simp only [State.beside_reads]
  (repeat' split) <;> simp

@[simp] theorem State.beside_enqueue (r : VoiceRecord) : (s.beside rs x).enqueue r = (s.enqueue r).beside rs x := by
  simp only [State.enqueue, State.beside_makeRoom, State.beside_reads]
  split <;> rfl

@[simp] theorem State.beside_releaseVoice (v : VoiceIx) (k : StopKind) :
    (s.beside rs x).releaseVoice v k = (s.releaseVoice v k).beside rs x := by
  unfold State.releaseVoice
  simp only [State.beside_reads]
  split
  · simp [State.cancelVoice]
  · simp [State.stopVoice]
  · rfl

@[simp] theorem State.beside_releaseLayers (k : StopKind) (es : List (Option VoiceIx)) :
    State.releaseLayers k es (s.beside rs x) = (State.releaseLayers k es s).beside rs x := by
  induction es generalizing s with
  | nil => rfl
  | cons e es ih => cases e <;> simp [State.releaseLayers, ih]

/-! ### Banks and slots -/

@[simp] theorem State.beside_drain : (s.beside rs x).drain = s.drain.beside rs x := by
  have one (t : State) (b : BankIx) : (t.beside rs x).drainBank b = (t.drainBank b).beside rs x := by
    have used : (t.beside rs x).bankUsed b = t.bankUsed b := rfl
    simp only [State.drainBank, State.beside_reads, used]
    split <;> rfl
  simp [State.drain, one]

@[simp] theorem State.beside_switchBank (i : SlotIx) :
    (s.beside rs x).switchBank i = (s.switchBank i).beside rs x := by
  simp [State.switchBank]

@[simp] theorem State.beside_unbind (i : SlotIx) : (s.beside rs x).unbind i = (s.unbind i).beside rs x := by
  simp [State.unbind]

@[simp] theorem State.beside_bind (i : SlotIx) (t : Half) : (s.beside rs x).bind i t = (s.bind i t).beside rs x := by
  simp only [State.bind, State.beside_reads]
  split <;> simp

@[simp] theorem State.beside_voiceFlush (place : Bool) :
    (s.beside rs x).voiceFlush place = (s.voiceFlush place).beside rs x := by
  have pool : (s.beside rs x).flushPool place = (s.flushPool place).beside rs x := rfl
  have one (t : State) (i : SlotIx) : (t.beside rs x).flushSlot i = (t.flushSlot i).beside rs x := by
    unfold State.flushSlot
    simp only [State.beside_reads]
    split <;> simp
  rw [State.voiceFlush, pool, State.beside_foldl _ _ _ _ one]
  rfl

@[simp] theorem State.beside_restartSlot (i : SlotIx) :
    (s.beside rs x).restartSlot i = (s.restartSlot i).beside rs x := by
  unfold State.restartSlot
  simp only [State.beside_reads]
  split <;> simp

/-! ### Long work -/

@[simp] theorem State.beside_advanceCopy : (s.beside rs x).advanceCopy = s.advanceCopy.beside rs x := by
  unfold State.advanceCopy
  simp only [State.beside_reads]
  (repeat' split) <;> rfl

@[simp] theorem State.beside_abandonWork : (s.beside rs x).abandonWork = s.abandonWork.beside rs x := by
  simp only [State.abandonWork, State.beside_advanceCopy, State.beside_reads]
  split <;> rfl

@[simp] theorem State.beside_startWork (ws : List Work) :
    State.startWork ws (s.beside rs x) = (State.startWork ws s).beside rs x := by
  induction ws generalizing s with
  | nil => rfl
  | cons w ws ih =>
    simp only [State.startWork, State.beside_reads]
    split
    · rfl
    · simp [State.completeFail, ih]

@[simp] theorem State.beside_queueWork (w : Work) : (s.beside rs x).queueWork w = (s.queueWork w).beside rs x := by
  unfold State.queueWork
  simp only [State.beside_reads]
  split <;> simp

@[simp] theorem State.beside_warmRestart : (s.beside rs x).warmRestart = s.warmRestart.beside rs x := by
  unfold State.warmRestart
  dsimp only
  rw [State.beside_abandonWork, State.beside_voiceFlush, State.beside_foldl _ _ _ _ fun t i => t.beside_restartSlot rs x i]
  generalize List.foldl _ _ _ = t
  rfl

end Sys2Proof.Machine
end

