-- ==== Sys2Proof/Laws/Links.lean ====
section
/-! SUPPORT. What a receiver and its link do, said once: how a reading moves a receiver, and what it does to the
link (R184). -/

namespace Sys2Proof.Machine

open Sys2Proof

/-! ### The receiver -/

/-- A reading moves the alignment and counts the consecutive valid groups there; a locked receiver that keeps lock
stays as it is (R184). -/
theorem Receiver.read_cases (r : Receiver) (x : Reading) :
    (r.locked = true ∧ r.keepsLock x = true ∧ r.read x = r) ∨
      (r.locked = true ∧ r.keepsLock x = false ∧
        r.read x =
          { locked := false, alignment := x.alignment, validGroups := r.run x, lockless := 0
            packet := if r.packet = .inside then .cut else r.packet }) ∨
      (r.locked = false ∧ 16 ≤ r.run x ∧
        r.read x =
          { locked := true, alignment := x.alignment, validGroups := r.run x, lockless := 0, packet := r.packet }) ∨
      (r.locked = false ∧ r.run x < 16 ∧
        r.read x =
          { locked := false, alignment := x.alignment, validGroups := r.run x
            lockless := min 256 (r.lockless + r.elapsed x), packet := r.packet }) := by
  unfold Receiver.read
  cases hl : r.locked with
  | true =>
    cases hk : r.keepsLock x with
    | true => simp
    | false => simp
  | false =>
    by_cases hr : 16 ≤ r.run x
    · simp [hr]
    · simp [hr, Nat.lt_of_not_le hr]

/-- The consecutive valid groups counted never exceed the sixteen that give lock (R184). -/
theorem Receiver.run_le (r : Receiver) (x : Reading) : r.run x ≤ 16 := by
  unfold Receiver.run
  split
  · omega
  · split
    · exact Nat.min_le_left ..
    · decide

/-- The next group ends within ten symbol times. -/
theorem Receiver.elapsed_le (r : Receiver) (x : Reading) : 1 ≤ r.elapsed x ∧ r.elapsed x ≤ 10 := by
  unfold Receiver.elapsed
  split
  · omega
  · rename_i h
    have hne : (x.alignment - r.alignment).val ≠ 0 := fun hz =>
      h (sub_eq_zero.mp (Fin.ext hz))
    have := (x.alignment - r.alignment).isLt
    omega

/-! ### The link -/

@[simp] theorem State.endPacket_frame (s : State) (l : Link) :
    (s.endPacket l).collector = s.collector ∧ (s.endPacket l).slots = s.slots ∧ (s.endPacket l).pool = s.pool ∧
      (s.endPacket l).port = s.port ∧ (s.endPacket l).store = s.store ∧
      (s.endPacket l).responder = s.responder ∧ (s.endPacket l).notices = s.notices ∧
      (s.endPacket l).freeCount = s.freeCount ∧ (s.endPacket l).pending = s.pending := by
  unfold State.endPacket; simp

@[simp] theorem State.collectorDown_frame (s : State) :
    s.collectorDown.freeCount = s.freeCount ∧ s.collectorDown.pending = s.pending :=
  ⟨rfl, rfl⟩

@[simp] theorem State.collectorUp_frame (s : State) :
    s.collectorUp.freeCount = s.freeCount ∧ s.collectorUp.pending = s.pending :=
  ⟨rfl, rfl⟩

@[simp] theorem State.lineDown_frame (s : State) (l : Link) :
    (s.lineDown l).freeCount = s.freeCount ∧ (s.lineDown l).pending = s.pending := by
  unfold State.lineDown; split <;> (try split) <;> simp

@[simp] theorem State.lineUp_frame (s : State) (l : Link) :
    (s.lineUp l).freeCount = s.freeCount ∧ (s.lineUp l).pending = s.pending := by
  unfold State.lineUp; split <;> (try split) <;> simp

@[simp] theorem State.hear_frame (l : Link) (s : State) (x : Reading) :
    (State.hear l s x).freeCount = s.freeCount ∧ (State.hear l s x).pending = s.pending := by
  unfold State.hear; dsimp only; split <;> (try split) <;> (try split) <;> simp

@[simp] theorem State.hearAll_frame (s : State) (l : Link) (xs : List Reading) :
    (s.hearAll l xs).freeCount = s.freeCount ∧ (s.hearAll l xs).pending = s.pending := by
  induction xs generalizing s with
  | nil => exact ⟨rfl, rfl⟩
  | cons x xs ih =>
    obtain ⟨h1, h2⟩ := ih (State.hear l s x)
    exact ⟨h1.trans (State.hear_frame l s x).1, h2.trans (State.hear_frame l s x).2⟩

@[simp] theorem State.packetCut_frame (s : State) (l : Link) (xs : List Reading) :
    (s.packetCut l xs).freeCount = s.freeCount ∧ (s.packetCut l xs).pending = s.pending := by
  unfold State.packetCut; dsimp only; split <;> split <;> simp

/-- A group that keeps lock changes nothing (R184). -/
theorem State.hear_inLock {s : State} {l : Link} {x : Reading} (hl : (s.receiver l).locked = true)
    (hk : (s.receiver l).keepsLock x = true) : State.hear l s x = s := by
  have hr : (s.receiver l).read x = s.receiver l := by simp [Receiver.read, hl, hk]
  unfold State.hear
  simp only [hl, if_true, hr]
  cases l <;> rfl

/-- The loss of lock moves the receiver alone (R184). -/
theorem State.hear_losesLock {s : State} {l : Link} {x : Reading} (hl : (s.receiver l).locked = true) :
    State.hear l s x = s.setReceiver l ((s.receiver l).read x) := by
  unfold State.hear
  simp only [hl, if_true]

/-- While lock is absent and neither regained nor given up, a reading moves the receiver alone (R184). -/
theorem State.hear_waits {s : State} {l : Link} {x : Reading} (hl : (s.receiver l).locked = false)
    (hr : (s.receiver l).run x < 16) (ha : (s.receiver l).lockless + (s.receiver l).elapsed x < 256) :
    State.hear l s x = s.setReceiver l ((s.receiver l).read x) := by
  have hn : ((s.receiver l).read x).locked = false := by
    simp [Receiver.read, hl, Nat.not_le.mpr hr]
  unfold State.hear
  simp only [hl, hn, Bool.false_eq_true, if_false]
  rw [if_neg (Nat.not_le.mpr ha)]

/-- The readings are taken one by one (R184). -/
theorem State.hearAll_cons (s : State) (l : Link) (x : Reading) (xs : List Reading) :
    s.hearAll l (x :: xs) = (State.hear l s x).hearAll l xs := rfl

end Sys2Proof.Machine
end

