-- ==== Sys2Proof/Laws/Taking.lean ====
section
/-! SUPPORT. How a slot takes a packet: when each way applies (R13, R14), and what taking it leaves of the slots. -/

namespace Sys2Proof.Machine

open Sys2Proof

/-- A packet is the first out of ABSENT exactly when its slot is ABSENT (R13). -/
theorem State.taking_first_iff (s : State) (i : SlotIx) (p : Sense) :
    s.taking i p = some .first ↔ (s.slot i).phase = .absent := by
  unfold State.taking
  split <;> rename_i h <;> simp only [h, iff_false]
  repeat' split
  all_goals simp

/-- A packet is in order exactly when a slot that is not ABSENT expects its number (R14). -/
theorem State.taking_inOrder_iff (s : State) (i : SlotIx) (p : Sense) :
    s.taking i p = some .inOrder ↔ (s.slot i).phase ≠ .absent ∧ (s.slot i).expectedSeq = some p.sequence := by
  unfold State.taking
  split
  · simp_all
  · cases h : (s.slot i).expectedSeq with
    | none => simp
    | some e =>
      simp only [ne_eq, *, not_false_eq_true, true_and, Option.some.injEq]
      constructor
      · intro h2
        repeat' split at h2
        · bv_omega
        all_goals simp at h2
      · rintro rfl
        simp

/-- A packet follows a gap exactly when its number lies 1 to 127 ahead of the one its slot expects (R14). -/
theorem State.taking_afterGap_iff (s : State) (i : SlotIx) (p : Sense) :
    s.taking i p = some .afterGap ↔
      (s.slot i).phase ≠ .absent ∧ ∃ e, (s.slot i).expectedSeq = some e ∧
        1 ≤ (p.sequence - e).toNat ∧ (p.sequence - e).toNat ≤ 127 := by
  unfold State.taking
  split
  · simp_all
  · cases h : (s.slot i).expectedSeq with
    | none => simp
    | some e =>
      simp only [ne_eq, *, not_false_eq_true, true_and, Option.some.injEq, exists_eq_left']
      generalize (p.sequence - e).toNat = d
      repeat' split
      all_goals simp
      all_goals omega

@[simp] theorem State.takenAs_inOrder (s : State) (i : SlotIx) (p : Sense) : s.takenAs i p .inOrder = s := rfl

/-- After a gap the slots are as they were (R14). -/
@[simp] theorem State.takenAs_afterGap_slots (s : State) (i : SlotIx) (p : Sense) :
    (s.takenAs i p .afterGap).slots = s.slots := by
  simp [State.takenAs]

/-- A slot that leaves ABSENT is QUIET with q_prev 0 in the LIVE bank (R13, R147). -/
theorem State.takenAs_first_slot (s : State) (i : SlotIx) (p : Sense) :
    (s.takenAs i p .first).slot i =
      { s.slot i with
        phase := .quiet, absentCause := none, qPrev := 0, bank := s.store.liveBank.or (s.slot i).bank } := by
  simp [State.takenAs, State.slot, State.setSlot]

/-- Whatever the way, no other slot moves (R4). -/
theorem State.takenAs_slot_ne (s : State) (i j : SlotIx) (p : Sense) (way : Taking) (h : j ≠ i) :
    (s.takenAs i p way).slot j = s.slot j := by
  have hv : i.val ≠ j.val := fun e => h (Fin.ext e.symm)
  cases way <;> simp [State.takenAs, State.slot, State.setSlot, hv]

end Sys2Proof.Machine
end

