-- ==== Sys2Proof/Tests/Slice0.lean ====
section
/-! SUPPORT. Tests: the smoke test of WellFormed, the figures the spec works out by hand, one small test for each
command, and for every certificate with hypotheses a concrete state and operands that meet them. Each expected value
is the spec's or is worked out by hand from its rules; the source stands in the comment. -/

namespace Sys2Proof.Tests

open Sys2Proof Sys2Proof.Machine

set_option Elab.async false

/-! ### Helpers -/

/-- The state a command leaves. -/
def after (s : State) (cmd : Instr) : State :=
  match exec cmd s with
  | .next t => t
  | _ => s

/-- The state a run of commands leaves. -/
def afterAll (s : State) (cs : List Instr) : State := cs.foldl after s

/-- Status and payload of the reply the upstream list ends with. -/
def lastReply (s : State) : Option (Status × List Byte) :=
  match s.collector.upstream.getLast? with
  | some (.immediate _ _ st pl) => some (st, pl)
  | _ => none

/-- A receiver in lock (R184). -/
def inLock : Receiver := { locked := true, validGroups := 16 }

/-- Idle groups read in line at alignment 0. -/
def groups (n : Nat) : List Reading := List.replicate n ⟨0, some .idle⟩

/-- Groups read at alignment 0 that are none of the 259. -/
def noise (n : Nat) : List Reading := List.replicate n ⟨0, none⟩

/-- Power-on with the collector link up and in lock. -/
def up : State := { collector := { up := true }, receivers := { collector := inLock } }

/-- A bank with key n on position n, the curve of 3.7, and three fingerings: entry 0 meets every key set (note 62,
voicing 0), entry 1 meets keys 0 and 1 (note 64, voicing 0), entry 2 meets keys 1 and 2 (note 67, voicing 1). -/
def demoBank : Bank :=
  { state := .live
    profiles := Vector.replicate 4 { map := Vector.ofFn some }
    curves := Vector.replicate 4 #v[0, 1200, 2800, 4800, 7000, 9400, 12000, 14600, 16383]
    fingerings :=
      (((Vector.replicate 256 {}).set 0 { valid := true, note := 62 }).set 1
        { valid := true, care := 3, pattern := 3, note := 64 }).set 2
        { valid := true, care := 6, pattern := 6, note := 67, voicing := 1 }
    voicings :=
      ((Vector.replicate 64 {}).set 0 { layers := [⟨0, 71, 0, 100, true⟩] }).set 1
        { mode := .retrigger, fixedVelocity := 90, layers := [⟨-12, 42, 1, 127, false⟩] } }

/-- Slot 2 of 3.7: QUIET, bound to tag 1, expecting packet 7. -/
def quietSlot : Slot :=
  { tag := some 1, phase := .quiet, expectedSeq := some 7, lossTimer := some 60, bank := some 0, qPrev := 450
    settings :=
      { zero := 300, gain := 320, onThreshold := 600, offThreshold := 500, velocityGain := 5, slew := 1000
        transpose := -2, tune := 3, confirmCount := 1 } }

/-- The same slot with a note of one layer, held by voice 0. -/
def playingSlot : Slot :=
  { quietSlot with
    phase := .sounding, runCount := 8, resolution := some ⟨0, 62, 0, 0⟩, qPrev := 2000, outLevel := 6793
    onsetVelocity := 121, layers := [some 0] }

/-- A part with its links up and in lock, the demo bank LIVE and slot 2 as given. -/
def stage (x : Slot) : State :=
  { receivers := { collector := inLock, voice := inLock }
    collector := { up := true }
    slots := (Vector.replicate 8 {}).set 2 x
    port := { attached := true, credit := 3 }
    store := { banks := #v[demoBank, {}] } }

/-- Slot 2 waits for its onset. -/
def quiet : State := stage quietSlot

/-- Slot 2 plays a note on voice 0 at generation 5, which the rack holds. -/
def playing : State :=
  let s := stage playingSlot
  (s.setVoice 0
    { phase := .sounding, owner := some ⟨2, 0, 1⟩, generation := 5, dn := .opened, dnGeneration := 5
      lastPitch := 4611, lastLevel := 5348 }).setAgeList [0]

/-- A SENSE packet of the demo controller with one sample. -/
def packet (keys : Byte) (sample : Half) (flags : Byte) (tail : List Byte) : List Byte :=
  [0#8, 1#8, 7#8, 0#8, 0#8, keys, 1#8, flags] ++ halfBytes sample ++ tail

/-- What that packet carries. -/
def carried (keys : KeySet) (sample : Nat) (lip roller : Option Nat) : Sense :=
  { tag := 1, sequence := 7, keyWord := keys, samples := [sample], lip := lip, roller := roller }

/-! ### WellFormed: an ill-formed term for each check -/

theorem test_wf_refuses_long_packets :
    Instr.wf (.sense (List.replicate 256 0)) = false ∧ Instr.wf (.manage (List.replicate 256 0)) = false ∧
      Instr.wf (.grant (List.replicate 256 0)) = false ∧ Instr.wf (.freed (List.replicate 256 0)) = false := by
  decide +kernel

theorem test_wf_refuses_long_arguments :
    ([Instr.unknownCommand 0 0 (List.replicate 254 0), .status 0 (List.replicate 254 0),
      .clearNotices 0 (List.replicate 254 0), .setNotices 0 (List.replicate 254 0),
      .readCapture 0 (List.replicate 254 0), .bindSlot 0 (List.replicate 254 0),
      .unbindSlot 0 (List.replicate 254 0), .setSlot 0 (List.replicate 254 0),
      .readSlot 0 (List.replicate 254 0), .setEngine 0 (List.replicate 254 0),
      .readEngine 0 (List.replicate 254 0), .writeTable 0 (List.replicate 254 0),
      .readTable 0 (List.replicate 254 0), .copyLive 0 (List.replicate 254 0),
      .commit 0 (List.replicate 254 0), .abortWork 0 (List.replicate 254 0),
      .readVoices 0 (List.replicate 254 0), .panic 0 (List.replicate 254 0),
      .restart 0 (List.replicate 254 0)].all fun c => !c.wf) = true := by
  decide +kernel

theorem test_wf_refuses_a_known_code_as_unknown :
    Instr.wf (.unknownCommand 0 0x23#8 []) = false ∧ Instr.wf (.unknownCommand 0 0x25#8 []) = true := by
  decide +kernel

/-- A REPLY packet is no packet the collector link accepts; a GRANT with a right check is one the voice link does. -/
theorem test_wf_refuses_sound_packets_as_discards :
    Instr.wf (.envelopeDiscard .voice (envelope 0x51#8 [5#8])) = false ∧
      Instr.wf (.envelopeDiscard .collector (envelope 0x51#8 [5#8])) = true := by
  decide +kernel

theorem test_wf_refuses_link_events_without_groups :
    Instr.wf (.collectorLinkUp []) = false ∧ Instr.wf (.collectorLinkDown []) = false ∧
      Instr.wf (.attachment (groups 15 ++ noise 1)) = false ∧ Instr.wf (.detachment []) = false ∧
      Instr.wf (.packetCut .voice []) = false ∧ Instr.wf (.collectorLinkUp (noise 1 ++ groups 16)) = true ∧
      Instr.wf (.detachment (noise 27)) = true := by
  decide +kernel

/-- No table row gives bits, so no word spells a command. -/
theorem test_no_word_is_a_command : decodeTableWord 16 0x1234 = none ∧ decodeTableWord 0 0 = none := by decide

/-! ### Figures of the spec -/

/-- 11: the check over the bytes 0x31 to 0x39 is 0x29B1. -/
theorem test_crc_figure :
    crc16 [0x31#8, 0x32#8, 0x33#8, 0x34#8, 0x35#8, 0x36#8, 0x37#8, 0x38#8, 0x39#8] = 0x29B1#16 := by
  decide +kernel

/-- 3.7: sample 1900 gives q 2000 and e 6793, level 5348 and velocity 121. -/
theorem test_breath_figures :
    scaledPressure quietSlot.settings 1900 = 2000 ∧ curveValue demoBank.curves[0] 2000 = 6793 ∧
      layerLevel 6793 100 = 5348 ∧ onsetVelocityOf 5 2000 450 = 121 ∧
      curveValue demoBank.curves[0] 2250 = 7946 := by
  decide +kernel

/-- 3.7: pitch 4638 with lip 620 and 4583 with lip 400; lips 509 and 515 bend nothing; the limit case. -/
theorem test_pitch_figures :
    pitchValue quietSlot.settings (some 5) (some 620) 62 0 0 = 4638 ∧
      pitchValue quietSlot.settings (some 5) (some 620) 62 0 (-12) = 3870 ∧
      pitchValue quietSlot.settings (some 5) (some 400) 62 0 0 = 4583 ∧
      lipBend quietSlot.settings (some 509) = 0 ∧ lipBend quietSlot.settings (some 515) = 0 ∧
      pitchValue { transpose := 24 } (some 7) none 120 0 0 = 11520 ∧ pitchCode 11520 = 8191 := by
  decide +kernel

/-- 3.7: on the falling segment 9000 to 8000 the value at q 2561 is 8998. -/
theorem test_falling_segment : curveValue #v[0, 0, 0, 0, 0, 9000, 8000, 0, 0] 2561 = 8998 := by decide +kernel

/-- 2.2: bits at 0, 2, 3, 9, 10, 13, 14, 16 through the rig's profile give keys 0, 2, 3, 8, 11, 12, 13. -/
theorem test_profile_example :
    canonicalKeys
      { map := Vector.ofFn fun p =>
          if p.val < 12 then some p else if p.val < 14 then some 12 else if p.val < 16 then none
          else some (Fin.ofNat 24 (p.val - 3))
        inversion := 0x000F00#24 }
      0x01660D#24 = 0x00390D#24 := by
  decide +kernel

/-- 4.6, over the three entries of the demo bank: the more specific entry wins, and entry 0 meets the rest. -/
theorem test_lookup_picks_the_specific :
    lookupEntry demoBank.fingerings 3 = some 1 ∧ lookupEntry demoBank.fingerings 6 = some 2 ∧
      lookupEntry demoBank.fingerings 7 = some 1 ∧ lookupEntry demoBank.fingerings 0 = some 0 ∧
      lookupEntry (Vector.replicate 256 {}) 3 = none := by
  decide +kernel

/-- R186: with its two delimiters a START takes 16 code groups, a STOP 10 and an ALL_STOP 7. -/
theorem test_voice_packet_sizes :
    (VoiceRecord.start 31 255 15 127 8191 127 16383).wire.length + 2 = 16 ∧
      (VoiceRecord.stop 31 255 .cut).wire.length + 2 = 10 ∧ VoiceRecord.allStop.wire.length + 2 = 7 := by
  decide +kernel

/-! ### Commands -/

theorem test_power_on (s : State) : after s .powerOn = { State.reset with pending := s.pending, freeCount := s.freeCount } :=
  rfl

/-- 3.7, packet A's first sample: a START with pitch 4638, velocity 121 and level 5348. -/
theorem test_sense_starts_a_note :
    (after quiet (.sense
      [0#8, 1#8, 7#8, 0#8, 0#8, 0#8, 1#8, 3#8, 0x07#8, 0x6C#8, 0x02#8, 0x6C#8, 5#8])).port.queue =
      [.start 0 1 0 71 4638 121 5348] := by
  decide +kernel

/-- 5.12, the last packet's figure: sample 620 gives q 400, below the off threshold of 500, and the note ends. -/
theorem test_sense_ends_a_note :
    ((after playing (.sense (packet 0 620 0 []))).slot 2).phase = .quiet ∧
      (after playing (.sense (packet 0 620 0 []))).port.queue = [.stop 0 5 .release] := by
  decide +kernel

/-- R159: a body of one byte is a CONTENT discard; R161: the fifth waiting request is discarded. -/
theorem test_manage :
    (after up (.manage [1#8])).notices.latches[0].first = some (.corrupt .content .collector) ∧
      (afterAll up (List.replicate 6 (.manage [1#8, 1#8]))).responder.requests.length = 4 := by
  decide +kernel

/-- R161: when its reply has been sent the responder takes the next request. -/
theorem test_reply_sent :
    (afterAll up [.readEngine 1 [], .status 2 [], .replySent]).responder.requests = [] ∧
      (afterAll up [.readEngine 1 [], .status 2 [], .replySent]).collector.upstream.length = 1 ∧
      (afterAll up [.readEngine 1 [], .replySent]).responder.waiting = false := by
  decide +kernel

theorem test_unknown_command : lastReply (after up (.unknownCommand 8 0x7F#8 [1#8])) = some (.unknown, []) := by
  decide +kernel

/-- R166, R176: from power-on the first STATUS carries report number 1, no latch and worst class none. -/
theorem test_status :
    ((lastReply (after up (.status 1 []))).map fun r => (r.1, r.2.take 5)) =
      some (.ok, [0#8, 1#8, 0#8, 0#8, 0xFF#8]) := by
  decide +kernel

/-- 10.7: STALL at mark 118 and EVICT at 119, the unit at 120. -/
def stalledUnit : State :=
  { up with
    notices :=
      { reportNumber := 120
        latches :=
          ((Vector.replicate 16 {}).set 9 { first := some (.stall 9), lastMark := 118 }).set 8
            { first := some (.evict 17 false), lastMark := 119 }
        lineLow := true } }

/-- 10.7, the clear taken first: mark 120 clears both, nothing is kept and the line is released. -/
theorem test_clear_notices :
    lastReply (after stalledUnit (.clearNotices 1 [0#8, 120#8, 0x03#8, 0x00#8])) = some (.ok, [0#8, 0#8]) ∧
      (after stalledUnit (.clearNotices 1 [0#8, 120#8, 0x03#8, 0x00#8])).notices.lineLow = false := by
  decide +kernel

/-- 10.7, the expiry taken first: STALL is struck at 120, so mark 120 keeps it and clears EVICT. -/
theorem test_clear_notices_keeps :
    lastReply (after (stalledUnit.raise (.stall 11)) (.clearNotices 1 [0#8, 120#8, 0x03#8, 0x00#8])) =
      some (.ok, [0x02#8, 0x00#8]) := by
  decide +kernel

/-- R177: taking STALL out of the line-enable set releases the line. -/
theorem test_set_notices :
    (after stalledUnit (.setNotices 1 [0x80#8, 0x00#8, 0x00#8, 0x00#8, 1#8])).notices.lineLow = false ∧
      lastReply (after stalledUnit (.setNotices 1 [0#8, 0#8, 0#8, 0#8, 2#8])) = some (.badArg, []) := by
  decide +kernel

/-- R169: latch 9 set at mark 118, no repeat, capture depth 9. -/
theorem test_read_capture :
    lastReply (after stalledUnit (.readCapture 1 [9#8])) =
      some (.ok, [9#8, 1#8, 0#8, 118#8, 0#8, 9#8]) := by
  decide +kernel

/-- R11: slot 3 bound to tag 10833 (1.8) is ABSENT with cause BIND. -/
theorem test_bind_slot :
    ((after up (.bindSlot 1 [3#8, 0x2A#8, 0x51#8])).slot 3).tag = some 10833 ∧
      ((after up (.bindSlot 1 [3#8, 0x2A#8, 0x51#8])).slot 3).absentCause = some .bind ∧
      lastReply (after up (.bindSlot 1 [8#8, 0x01#8, 0xF4#8])) = some (.badArg, []) := by
  decide +kernel

/-- R12: the slot's voice is released with FLUSH, and the slot is UNBOUND. -/
theorem test_unbind_slot :
    (after playing (.unbindSlot 1 [2#8])).port.queue = [.stop 0 5 .flush] ∧
      ((after playing (.unbindSlot 1 [2#8])).slot 2).phase = .unbound := by
  decide +kernel

/-- 1.2, the example: while SOUNDING, gain 2000 is written as 1023 and transpose +5 goes into the pending record. -/
theorem test_set_slot :
    lastReply (after playing (.setSlot 1 [2#8, 0x02#8, 0x08#8, 0x07#8, 0xD0#8, 0x00#8, 0x05#8])) =
        some (.clamped, []) ∧
      ((after playing (.setSlot 1 [2#8, 0x02#8, 0x08#8, 0x07#8, 0xD0#8, 0x00#8, 0x05#8])).slot 2).settings.gain =
        1023 ∧
      ((after playing (.setSlot 1 [2#8, 0x02#8, 0x08#8, 0x07#8, 0xD0#8, 0x00#8, 0x05#8])).slot
        2).pendingSettings = some { transpose := some 5 } := by
  decide +kernel

/-- R23: an UNBOUND slot's context begins with tag none, state UNBOUND and cause none (R186, R187). -/
theorem test_read_slot :
    ((lastReply (after up (.readSlot 1 [0#8]))).map fun r => (r.1, r.2.take 4)) =
      some (.ok, [0xFF#8, 0xFF#8, 0#8, 0xFF#8]) := by
  decide +kernel

/-- 9.7, requests 1 and 2: ROTATING, 8000 clamped to 5000, dead band 12. -/
theorem test_set_and_read_engine :
    lastReply (after up (.setEngine 1 [7#8, 0#8, 1#8, 0x1F#8, 0x40#8, 0#8, 12#8])) = some (.clamped, []) ∧
      lastReply (afterAll up
        [.setEngine 1 [7#8, 0#8, 1#8, 0x1F#8, 0x40#8, 0#8, 12#8], .replySent, .readEngine 2 []]) =
        some (.ok, [1#8, 0x13#8, 0x88#8, 12#8, 20#8, 10#8, 7#8]) := by
  decide +kernel

/-- R145, R146, R167: a voicing entry written at index 3 makes bank 0 STAGED and reads back. -/
theorem test_write_and_read_table :
    (after up (.writeTable 1 [3#8, 3#8, 1#8, 1#8, 0#8, 90#8, 0xF4#8, 42#8, 1#8, 80#8, 0#8])).store.banks[0].state =
        .staged ∧
      lastReply (afterAll up
        [.writeTable 1 [3#8, 3#8, 1#8, 1#8, 0#8, 90#8, 0xF4#8, 42#8, 1#8, 80#8, 0#8], .replySent,
          .readTable 2 [0#8, 3#8, 3#8, 1#8]]) =
        some (.ok, [1#8, 0#8, 90#8, 0xF4#8, 42#8, 1#8, 80#8, 0#8]) := by
  decide +kernel

/-- R150: with no LIVE bank COPY_LIVE fails with NO_SOURCE after its QUEUED reply. -/
theorem test_copy_live :
    (after quiet (.copyLive 1 [])).store.banks[1].state = .copying ∧
      (after up (.copyLive 1 [])).collector.upstream =
        [.immediate 1 0x22#8 .queued [], .completion 1 .copyLive (some 0) (some .noSource),
          .notice 1 0x8000#16 [.workFail .copyLive .noSource]] := by
  decide +kernel

/-- Two full banks: the demo bank LIVE and a copy of it STAGED. -/
def twoBanks (x : Slot) : State := (stage x).setBank 1 { demoBank with state := .staged }

/-- 8.9, steps 1 and 2. -/
theorem test_commit :
    (after (twoBanks quietSlot) (.commit 17 [])).store.banks[1].state = .verifying ∧
      (afterAll (twoBanks quietSlot) [.commit 17 [], .replySent, .commit 18 []]).store.work =
        [⟨.commit, 17⟩, ⟨.commit, 18⟩] := by
  decide +kernel

/-- 8.9, step 4: the swap, and the second COMMIT's failure for want of a staging bank. -/
theorem test_verification_completion :
    let s := afterAll (twoBanks playingSlot)
      [.commit 17 [], .replySent, .commit 18 [], .replySent, .verificationCompletion]
    (s.store.banks[0].state = .draining ∧ s.store.banks[1].state = .live ∧ s.store.work = []) ∧
      s.notices.latches[15].first = some (.workFail .commit .noStaging) ∧ (s.slot 2).bank = some 0 := by
  decide +kernel

/-- R150: the copied bank is STAGED with the LIVE contents. -/
theorem test_copy_completion :
    (afterAll quiet [.copyLive 1 [], .replySent, .copyCompletion]).store.banks[1].state = .staged ∧
      (afterAll quiet [.copyLive 1 [], .replySent, .copyCompletion]).store.banks[1].fingerings[2].note = 67 := by
  decide +kernel

/-- R154: the running COMMIT is answered FAILED with ABORTED ahead of the reply. -/
theorem test_abort_work :
    (afterAll (twoBanks quietSlot) [.commit 17 [], .replySent, .abortWork 18 []]).collector.upstream =
      [.completion 17 .commit (some 1) (some .aborted), .immediate 18 0x24#8 .ok [1#8, 0#8]] := by
  decide +kernel

/-- 9.7, request 3: 28 + 8 - 1 = 35 lies above 31. -/
theorem test_read_voices :
    lastReply (after up (.readVoices 1 [28#8, 8#8])) = some (.noSuch, []) ∧
      ((lastReply (after up (.readVoices 1 [28#8, 4#8]))).map fun r => r.2.take 5) =
        some [28#8, 0#8, 0xFF#8, 0xFF#8, 0xFF#8] := by
  decide +kernel

/-- R121, R171: every generation moves on and the queue holds the ALL_STOP alone. -/
theorem test_panic :
    (after playing (.panic 1 [])).port.queue = [.allStop] ∧
      ((after playing (.panic 1 [])).voice 0).generation = 6 ∧ ((after playing (.panic 1 [])).slot 2).rearm = true := by
  decide +kernel

/-- R21, R172: slot 2 is ABSENT with cause RESTART and keeps its tag. -/
theorem test_restart :
    ((after playing (.restart 1 [])).slot 2).absentCause = some .restart ∧
      ((after playing (.restart 1 [])).slot 2).tag = some 1 ∧
      (after playing (.restart 1 [])).port.queue = [.allStop] := by
  decide +kernel

/-- R17: the voice is released with LOST and LOST is raised with the state left. -/
theorem test_loss_timer_expiry :
    (after playing (.lossTimerExpiry 2)).port.queue = [.stop 0 5 .lost] ∧
      (after playing (.lossTimerExpiry 2)).notices.latches[4].first = some (.lost 2 .sounding) := by
  decide +kernel

/-- R116: the voice released becomes FREE, its dn state kept. -/
theorem test_release_timer_expiry :
    let s := afterAll playing [.sense (packet 0 620 0 []), .releaseTimerExpiry 0]
    (s.voice 0).phase = .free ∧ (s.voice 0).dn = .opened ∧ s.pool.releaseList = [] := by
  decide +kernel

/-- A stalled port (R135): ATTACHED, one record, no credit. -/
def stuck : State :=
  { up with
    receivers := { collector := inLock, voice := inLock }
    port := { attached := true, queue := [.allStop], stallTimer := some 20 } }

/-- R135, 7.12 event 5: STALL with depth 1, and the timer starts anew. -/
theorem test_stall_timer_expiry :
    (after stuck .stallTimerExpiry).notices.latches[9].first = some (.stall 1) ∧
      (after stuck .stallTimerExpiry).port.stallTimer = some 20 := by
  decide +kernel

/-- R178: the first FAULT is sent at once and starts the timer; with nothing owed its expiry stops it. -/
theorem test_notice_interval_expiry :
    (after stuck .stallTimerExpiry).notices.timer = some 10 ∧
      (afterAll stuck [.stallTimerExpiry, .noticeIntervalExpiry]).notices.timer = none := by
  decide +kernel

/-- R130, R118: the STOP sent ends voice 0's note downstream. -/
theorem test_transmission :
    let s := afterAll playing [.sense (packet 0 620 0 []), .transmission]
    s.port.sending = some (.stop 0 5 .release) ∧ s.port.credit = 2 ∧ (s.voice 0).dn = .tail := by
  decide +kernel

/-- R133: the credit saturates at 255; 0 and 65 are CONTENT discards. -/
theorem test_grant :
    (afterAll stuck (List.replicate 4 (.grant [64#8]))).port.credit = 255 ∧
      (after stuck (.grant [64#8])).port.stallTimer = none ∧
      (after stuck (.grant [65#8])).notices.latches[0].first = some (.corrupt .content .voice) := by
  decide +kernel

/-- R119: the report of the tail's end frees the RELEASING voice; a second one is stale. -/
theorem test_freed :
    let s := afterAll playing [.sense (packet 0 620 0 []), .transmission, .freed [0#8, 5#8]]
    (s.voice 0).phase = .free ∧ (s.voice 0).dn = .none ∧
      (after s (.freed [0#8, 5#8])).notices.latches[12].first = some (.staleFreed 0 5) := by
  decide +kernel

/-- R185: two bytes are too short, and a MANAGE packet is none of the voice link's classes. -/
theorem test_envelope_discard :
    (after playing (.envelopeDiscard .voice [0x51#8, 1#8])).notices.latches[0].first =
        some (.corrupt .length .voice) ∧
      (after playing (.envelopeDiscard .voice (envelope 0x22#8 [1#8]))).notices.latches[0].first =
        some (.corrupt .classByte .voice) := by
  decide +kernel

/-- R184: lock that returns after one invalid group raises LENGTH, and so does lock lost to another alignment and
found there; 26 groups, 260 symbol times, later the link has gone down. -/
theorem test_packet_cut :
    (after playing (.packetCut .collector (noise 1 ++ groups 16))).notices.latches[0].first =
        some (.corrupt .length .collector) ∧
      (after playing (.packetCut .voice (List.replicate 16 ⟨3, some .idle⟩))).notices.latches[0].first =
        some (.corrupt .length .voice) ∧
      (after playing (.packetCut .collector (noise 27))).notices.latches[0].first = none ∧
      (after playing (.packetCut .collector (noise 27))).collector.up = false := by
  decide +kernel

/-- R184: sixteen valid groups bring the link up, fifteen do not; the first invalid group loses lock, and 26 more, the
last of which ends at symbol time 260, bring it down. -/
theorem test_collector_link :
    (after State.reset (.collectorLinkUp (groups 15))).collector.up = false ∧
      (after State.reset (.collectorLinkUp (groups 16))).collector.up = true ∧
      (after up (.collectorLinkDown (noise 26))).collector.up = true ∧
      (afterAll up [.status 1 [], .status 2 [], .collectorLinkDown (noise 27)]).collector = {} ∧
      (afterAll up [.status 1 [], .status 2 [], .collectorLinkDown (noise 27)]).responder.requests = [] := by
  decide +kernel

/-- R184: lock that returns in time keeps the link up with no event. -/
theorem test_lock_regained :
    (afterAll playing [.detachment (noise 1), .attachment (groups 15)]).receivers.voice.locked = false ∧
      afterAll playing [.detachment (noise 1), .attachment (groups 16)] = playing := by
  decide +kernel

/-- R136, R137: detachment owes an ALL_STOP, and attachment places it at the head. -/
theorem test_attachment_and_detachment :
    (after playing (.detachment (noise 27))).port.allStopOwed = true ∧
      (after playing (.detachment (noise 27))).notices.latches[10].first = some (.detach 0 1) ∧
      (afterAll playing [.detachment (noise 27), .attachment (groups 16)]).port.queue = [.allStop] ∧
      (afterAll playing [.detachment (noise 27), .attachment (groups 16)]).notices.latches[11].first =
        some (.attach 1 true) := by
  decide +kernel

/-- R162: the NOTICE behind the reply goes once it heads the list. -/
theorem test_upstream_packet_sent :
    (afterAll up [.copyLive 1 [], .upstreamPacketSent]).collector.upstream.length = 3 ∧
      (afterAll up [.copyLive 1 [], .replySent, .upstreamPacketSent]).collector.upstream =
        [.notice 1 0x8000#16 [.workFail .copyLive .noSource]] := by
  decide +kernel

/-- The commands the world sends are taken from the front, and an empty queue idles (log 1). -/
theorem test_step :
    (match step { up with pending := [.attachment (groups 16), .transmission] } with
      | .next t => t.port.attached && t.pending == [.transmission]
      | _ => false) = true ∧
      (State.reset.withFetchWord 16 7).pending = [] := by
  decide +kernel

/-! ### Witnesses: states and operands that meet the hypotheses of the certificates -/

/-- Four requests wait behind one being answered. -/
def crowded : State := afterAll up (List.replicate 5 (.manage [1#8, 1#8]))

theorem test_witness_ManagePacketJoinsTheList :
    State.reset.receives .collector = false ∧ (after up (.collectorLinkDown (noise 1))).receives .collector = false ∧
      (up.receives .collector = true ∧ ([1#8] : List Byte).length < 2) ∧
      ((afterAll up (List.replicate 4 (.manage [1#8, 1#8]))).receives .collector = true ∧
        (afterAll up (List.replicate 4 (.manage [1#8, 1#8]))).responder.waiting = true ∧
        (afterAll up (List.replicate 4 (.manage [1#8, 1#8]))).responder.requests.length = 3) ∧
      crowded.receives .collector = true ∧ crowded.responder.requests.length = 4 := by
  decide +kernel

/-- A ready state, as every statement of a request that is taken asks: TakenRequestIsAnsweredOnce, StatusReports and
the statements below of one request each. -/
theorem test_witness_Ready : up.Ready ∧ playing.Ready ∧ (twoBanks playingSlot).Ready ∧ stalledUnit.Ready := by
  decide +kernel

theorem test_witness_UpstreamHeadLeaves :
    (up.answered 1 2 .ok []).collector.upstream = [.immediate 1 2 .ok []] ∧
      (up.answered 1 2 .ok []).responder.requests = [] ∧
      crowded.responder.requests = ⟨1, 1, []⟩ :: List.replicate 3 ⟨1, 1, []⟩ ∧
      (crowded.collector.upstream.head?.map Upstream.isImmediate) = some true ∧
      (up.push (.notice 1 0 [])).collector.upstream = [.notice 1 0 []] ∧
      Upstream.isImmediate (.notice 1 0 []) = false ∧ up.collector.upstream = [] := by
  decide +kernel

/-- The request that waits second is carried out on the state that its predecessors' replies leave. -/
theorem test_witness_TakenRequestIsAnsweredOnce :
    up.Ready ∧ crowded.responder.requests = List.replicate 4 ⟨1, 1, []⟩ ∧
      (after crowded .replySent).responder.requests = List.replicate 3 ⟨1, 1, []⟩ ∧
      (crowded.beside [] {}).responder.waiting = true := by
  decide +kernel

theorem test_witness_MalformedRequestsAreRefused :
    (0x05#8).toNat ∉ commandCodes ∧
      ([0#8] : List Byte).length ≠ 2 * (List.range 16).countP (half 0#8 1#8).getLsbD ∧
      ([0#8, 0#8] : List Byte).length ≠ 2 * (List.range 5).countP (0x1F#8).getLsbD ∧ 32 ≤ (0x20#8).toNat := by
  decide +kernel

theorem test_witness_RaisedEventIsLatched :
    (up.notices.latches[9].first = none ∧
      (up.notices.masterEnable && up.notices.packetEnable.getLsbD 9) = true ∧ up.notices.timer = none) ∧
      stalledUnit.notices.latches[9].first ≠ none ∧
      ((up.raise (.stall 1)).notices.latches[15].first = none ∧
        ((up.raise (.stall 1)).notices.masterEnable && (up.raise (.stall 1)).notices.packetEnable.getLsbD 15) = true ∧
        (up.raise (.stall 1)).notices.timer ≠ none) ∧
      up.notices.latches[0].first = none ∧
      (up.notices.masterEnable && up.notices.packetEnable.getLsbD 0) = false := by
  decide +kernel

/-- Latch 9 set with last mark 118: marks 119 and 118 + 32767 clear it, 118 and 118 + 32768 do not. -/
theorem test_witness_ClearNoticesAgainstMark :
    (half 0x03#8 0x00#8).getLsbD 9 = true ∧ (half 0x03#8 0x00#8).getLsbD 10 = false ∧
      stalledUnit.notices.latches[10].first = none ∧ stalledUnit.notices.latches[9].first ≠ none ∧
      (119#16 - stalledUnit.notices.latches[9].lastMark).toNat = 1 ∧
      (32885#16 - stalledUnit.notices.latches[9].lastMark).toNat = 32767 ∧
      (118#16 - stalledUnit.notices.latches[9].lastMark).toNat = 0 ∧
      (32886#16 - stalledUnit.notices.latches[9].lastMark).toNat = 32768 := by
  decide +kernel

theorem test_witness_SetNoticesWritesEnables : (1#8).toNat ≤ 1 ∧ 2 ≤ (2#8).toNat := by decide

theorem test_witness_ReadCaptureReports :
    (9#8).toNat = (9 : LatchIx).val ∧ stalledUnit.notices.latches[9].first = some (.stall 9) ∧
      (15#8).toNat = (15 : LatchIx).val ∧ stalledUnit.notices.latches[15].first = none ∧ 15 < (16#8).toNat := by
  decide +kernel

theorem test_witness_BindSlotBinds :
    7 < (8#8).toNat ∧ (7#8).toNat = (7 : SlotIx).val ∧ half 0#8 0#8 = 0#16 ∧ half 0xFF#8 0xFF#8 = 65535#16 ∧
      (half 0#8 1#8 ≠ 0#16 ∧ half 0xFF#8 0xFE#8 ≠ 65535#16) ∧
      (∃ j : SlotIx, j ≠ 7 ∧ (quiet.slot j).phase ≠ .unbound ∧ (quiet.slot j).tag = some (half 0#8 1#8)) ∧
      (∀ j : SlotIx, j ≠ 7 → (quiet.slot j).phase ≠ .unbound → (quiet.slot j).tag ≠ some (half 0xFF#8 0xFE#8)) ∧
      (quiet.slot 7).phase = .unbound ∧
      (∀ j : SlotIx, j ≠ 2 → (quiet.slot j).phase ≠ .unbound → (quiet.slot j).tag ≠ some (half 0#8 1#8)) ∧
      (quiet.slot 2).phase ≠ .unbound := by
  decide +kernel

/-- A pending record that holds transpose alone (R8, R9): 5 takes the place of -2, the profile and the roller center stay. -/
theorem test_witness_UnbindSlotReleases :
    (let x : Slot := { playingSlot with pendingSettings := some { transpose := some 5 } };
      x.applyPending = { playingSlot with settings := { playingSlot.settings with transpose := 5 } } ∧
        x.applyPending.settings.value 11 = 4) ∧
      7 < (8#8).toNat ∧ (7#8).toNat = (7 : SlotIx).val ∧ (playing.slot 7).phase = .unbound ∧
      (2#8).toNat = (2 : SlotIx).val ∧ (playing.slot 2).phase ≠ .unbound := by
  decide +kernel

/-- The mask names settings 4, 5, 9 and 10: four values of two bytes, of which 0xFFFF is -1 for transpose. -/
theorem test_witness_SetSlotWritesSettings :
    7 < (8#8).toNat ∧ (2#8).toNat = (2 : SlotIx).val ∧ 1 ≤ (playing.slot 2).settings.onThreshold ∧
      ([0#8, 1#8, 0#8, 9#8, 0xFF#8, 0xFF#8, 0#8, 5#8] : List Byte).length =
        2 * (List.range 16).countP (half 0x06#8 0x30#8).getLsbD ∧
      (List.range 9).countP (half 0x06#8 0x30#8).getLsbD = 2 := by
  decide +kernel

theorem test_witness_SetEngineWritesSettings :
    (0x1F#8).toNat < 32 ∧
      ([0#8, 1#8, 0#8, 9#8, 1#8, 0#8, 0#8, 0#8, 0#8, 1#8] : List Byte).length =
        2 * (List.range 5).countP (0x1F#8).getLsbD ∧
      ((0x1F#8).getLsbD 0 = true ∧ (half 0#8 1#8).toNat ≤ 1) ∧
      (([0#8, 2#8] : List Byte).length = 2 * (List.range 5).countP (0x01#8).getLsbD ∧
        (0x01#8).getLsbD 0 = true ∧ 1 < (half 0#8 2#8).toNat) ∧
      ([] : List Byte).length = 2 * (List.range 5).countP (0x00#8).getLsbD := by
  decide +kernel

theorem test_witness_ReadEngineReports :
    exec (.setEngine 1 [1#8, 0#8, 1#8]) up = .next (after up (.setEngine 1 [1#8, 0#8, 1#8])) := rfl

theorem test_witness_ReadSlotReports : 7 < (8#8).toNat ∧ (7#8).toNat = (7 : SlotIx).val := by decide

theorem test_witness_ReadVoicesReports :
    ((0#8).toNat = 0 ∧ 8 < (9#8).toNat) ∧
      (1 ≤ (8#8).toNat ∧ (8#8).toNat ≤ 8 ∧ 31 < (25#8).toNat + (8#8).toNat - 1) ∧
      (1 ≤ (1#8).toNat ∧ 31 < (32#8).toNat) ∧
      ([24, 25, 26, 27, 28, 29, 30, 31] : List VoiceIx).map (·.val) = List.range' (24#8).toNat (8#8).toNat := by
  decide

theorem test_witness_ReadTableReports :
    (1 < (2#8).toNat ∧ 3 < (4#8).toNat ∧ 16 < (17#8).toNat ∧ (3#8).toNat = 3 ∧ 10 < (11#8).toNat) ∧
      ((1#8).toNat = (1 : BankIx).val ∧ (0#8).toNat = 0 ∧ (1#8).toNat = 1 ∧ (2#8).toNat = 2 ∧ 1 ≤ (10#8).toNat ∧ (10#8).toNat ≤ 10) ∧
      63 < (64#8).toNat ∧ 63 < (55#8).toNat + (10#8).toNat - 1 ∧ (54#8).toNat + (10#8).toNat - 1 ≤ 63 ∧
      (let s := after quiet (.copyLive 1 []);
        (s.bank 1).state = .copying ∧ s.store.workBank = some 1 ∧ s.store.liveBank = some 0) := by
  decide +kernel

/-- A voicing entry for index 63, with no layers. -/
def lastVoicing : List Byte := [3#8, 63#8, 1#8, 0#8, 0#8, 64#8]

/-- A part with bank 0 DRAINING, since a note still reads it, and bank 1 LIVE. -/
def draining : State :=
  afterAll ((twoBanks playingSlot).setAgeList []) [.commit 17 [], .replySent, .verificationCompletion, .upstreamPacketSent]

theorem test_witness_WriteTableWritesStagingBank :
    readTableWrite [3#8, 64#8, 1#8, 0#8, 0#8, 64#8] = none ∧
      readTableWrite lastVoicing = some ⟨.voicing, 63, [.voicing {}]⟩ ∧
      readTableWrite [2#8, 0xFF#8, 1#8, 0xFF#8, 0#8, 0#8, 1#8, 0xFF#8, 0xFF#8, 0xFF#8, 62#8, 0#8, 3#8] =
        some ⟨.fingering, 255,
          [.fingering { valid := true, care := 1, pattern := 0xFFFFFF#24, note := 62, voicing := 3 }]⟩ ∧
      (draining.Ready ∧ draining.store.stagingBank = none) ∧
      ((twoBanks quietSlot).store.stagingBank = some 1 ∧ (twoBanks quietSlot).store.work = []) ∧
      (up.store.stagingBank = some 0 ∧ (up.bank 0).state = .empty) ∧
      (after quiet (.copyLive 1 [])).store.stagingBank ≠ none ∧ (after quiet (.copyLive 1 [])).store.work ≠ [] ∧
      (∀ b : BankIx, (up.bank b).state ≠ .live) ∧ (quiet.bank 0).state = .live ∧ (quiet.bank 1).state = .empty ∧
      (draining.bank 1).state = .live ∧ draining.store.liveBank = some 1 ∧
      (after quiet (.copyLive 1 [])).store.workBank = some 1 := by
  decide +kernel

/-- The reply of a request has been sent. -/
def sent (s : State) : State := after s .replySent

theorem test_witness_LongWorkIsQueued :
    draining.store.stagingBank = none ∧
      (let s := sent (after (sent (after (twoBanks quietSlot) (.commit 1 []))) (.commit 2 []));
        s.Ready ∧ s.store.stagingBank = some 1 ∧ 2 ≤ s.store.work.length) ∧
      (let s := sent (after (twoBanks quietSlot) (.commit 1 []));
        s.Ready ∧ s.store.stagingBank = some 1 ∧ s.store.work.length = 1) ∧
      (quiet.store.work = [] ∧ quiet.store.stagingBank = some 1 ∧ quiet.store.liveBank ≠ none ∧
        (quiet.bank 1).state = .empty) ∧
      (up.store.work = [] ∧ up.store.stagingBank = some 0 ∧ up.store.liveBank = none) ∧
      (twoBanks quietSlot).store.work = [] ∧ ((twoBanks quietSlot).bank 1).state ≠ .empty := by
  decide +kernel

/-- A copy runs alone, or a COPY_LIVE or a COMMIT waits behind it, with WORK_DONE clear and with it set. -/
theorem test_witness_CopyCompletionFillsBank :
    let s := after quiet (.copyLive 1 [])
    (s.notices.latches[14].first = none ∧
      (s.raise (.workDone .commit 1)).notices.latches[14].first = some (.workDone .commit 1)) ∧
    (s.store.work = [⟨.copyLive, 1⟩] ∧ s.store.workBank = some 1 ∧ s.store.liveBank = some 0 ∧
      s.collector.up = true) ∧
      (after (sent s) (.copyLive 2 [])).store.work = [⟨.copyLive, 1⟩, ⟨.copyLive, 2⟩] ∧
      (after (sent s) (.commit 2 [])).store.work = [⟨.copyLive, 1⟩, ⟨.commit, 2⟩] := by
  decide +kernel

/-- A COMMIT runs on a staging bank that names an empty voicing, or that has no valid entry, with these operations
waiting behind it. -/
def failing (s : State) (b : BankIx) (f : Fingering) (ws : List Work) : State :=
  let t := after (s.setBank b { state := .staged, fingerings := (Vector.replicate 256 {}).set 255 f }) (.commit 1 [])
  t.setWork (t.store.work ++ ws)

theorem test_witness_FailedVerificationStages :
    (let s := failing quiet 1 { valid := true } [];
      s.store.work = [⟨.commit, 1⟩] ∧ s.store.workBank = some 1 ∧ (s.bank 1).fingerings[255].valid = true ∧
        (s.bank 1).voicings[(s.bank 1).fingerings[255].voicing].layers = [] ∧
        ∀ j : EntryIx, j < 255 → (s.bank 1).fingerings[j].valid = true →
          (s.bank 1).voicings[(s.bank 1).fingerings[j].voicing].layers ≠ []) ∧
      (let s := failing quiet 1 {} [];
        s.store.work = [⟨.commit, 1⟩] ∧ s.store.workBank = some 1 ∧
          ∀ i : EntryIx, (s.bank 1).fingerings[i].valid = false) ∧
      (let s := failing quiet 1 {} [⟨.copyLive, 2⟩];
        s.store.work = [⟨.commit, 1⟩, ⟨.copyLive, 2⟩] ∧ s.store.stagingBank = some 1 ∧ s.store.liveBank ≠ none) ∧
      (failing quiet 1 {} [⟨.commit, 2⟩]).store.work = [⟨.commit, 1⟩, ⟨.commit, 2⟩] ∧
      (let s := failing up 0 {} [⟨.copyLive, 2⟩];
        s.store.work = [⟨.commit, 1⟩, ⟨.copyLive, 2⟩] ∧ s.store.liveBank = none ∧ s.store.workBank = some 0 ∧
          s.store.stagingBank = some 0) := by
  decide +kernel

/-- The swap over a LIVE bank that a note reads, over one that none reads, and over none at all: bank 0 becomes
DRAINING, STAGED, or stays EMPTY, with an operation waiting. -/
theorem test_witness_VerifiedBankGoesLive :
    (let s := after (twoBanks playingSlot) (.commit 1 []);
      s.store.work = [⟨.commit, 1⟩] ∧ s.store.workBank = some 1 ∧ (s.bank 0).state ≠ .draining ∧
        (∃ i : EntryIx, (s.bank 1).fingerings[i].valid = true) ∧
        (∀ i : EntryIx, (s.bank 1).fingerings[i].valid = true →
          (s.bank 1).voicings[(s.bank 1).fingerings[i].voicing].layers ≠ []) ∧
        s.store.liveBank = some 0 ∧ s.collector.up = true ∧
        s.notices.latches[14].first = none ∧ s.notices.latches[15].first = none ∧
        ∃ i : SlotIx, (s.slot i).phase = .sounding ∧ (s.slot i).bank = some 0) ∧
      (let s := after (sent (after (twoBanks playingSlot) (.commit 1 []))) (.commit 2 []);
        s.store.work = [⟨.commit, 1⟩, ⟨.commit, 2⟩] ∧ s.store.workBank = some 1 ∧ (s.bank 0).state = .live) ∧
      (let s := after (sent (after (twoBanks quietSlot) (.commit 1 []))) (.copyLive 2 []);
        s.store.work = [⟨.commit, 1⟩, ⟨.copyLive, 2⟩] ∧ s.store.liveBank = some 0 ∧
          ∀ i : SlotIx, (s.slot i).phase ≠ .sounding) ∧
      (let s := (after (sent (after (twoBanks quietSlot) (.commit 1 []))) (.commit 2 [])).setBank 0 {};
        s.store.work = [⟨.commit, 1⟩, ⟨.commit, 2⟩] ∧ s.store.workBank = some 1 ∧ s.store.liveBank ≠ some 0 ∧
          (s.bank 0).state = .empty) := by
  decide +kernel

theorem test_witness_AbortWorkStopsLongWork :
    (up.Ready ∧ up.store.work = []) ∧
      (let s := sent (after (twoBanks quietSlot) (.commit 1 []));
        s.Ready ∧ s.store.work = [⟨.commit, 1⟩] ∧ s.store.workBank = some 1 ∧ (s.bank 1).state = .verifying) ∧
      (let s := sent (after (sent (after quiet (.copyLive 1 []))) (.commit 2 []));
        s.Ready ∧ s.store.work = [⟨.copyLive, 1⟩, ⟨.commit, 2⟩] ∧ s.store.workBank = some 1 ∧
          (s.bank 1).state = .copying ∧ s.store.liveBank = some 0) := by
  decide +kernel

theorem test_witness_PanicFlushes :
    playing.Ready ∧ (playing.slot 2).phase = .sounding ∧
      (stage { quietSlot with phase := .stalled }).Ready ∧
      ((stage { quietSlot with phase := .stalled }).slot 2).phase = .stalled ∧
      (playing.slot 0).phase = .unbound ∧ (playing.bank 0).state ≠ .draining ∧
      draining.BankLaws ∧ (draining.bank 0).state = .draining := by
  decide +kernel

theorem test_witness_RestartIsWarm :
    playing.Ready ∧ (playing.slot 0).phase = .unbound ∧ (playing.slot 2).phase ≠ .unbound ∧
      (playing.bank 0).state = .live ∧ (playing.bank 1).state = .empty ∧
      (let s := sent (after (twoBanks quietSlot) (.commit 1 []));
        s.Ready ∧ s.store.workBank = some 1 ∧ (s.bank 1).state = .verifying) ∧
      (let s := sent (after quiet (.copyLive 1 []));
        s.Ready ∧ s.store.workBank = some 1 ∧ (s.bank 1).state = .copying ∧ s.store.liveBank = some 0) ∧ draining.Ready ∧
      draining.BankLaws ∧ (draining.bank 0).state = .draining := by
  refine ⟨?_, ?_, ?_, ?_, ?_, ?_, ?_, ?_, ?_, ?_⟩ <;> decide +kernel

theorem test_witness_RunningTimersExpire :
    (playing.slot 2).lossTimer ≠ none ∧
      ((after playing (.sense (packet 0 620 0 []))).voice 0).releaseTimer ≠ none ∧ stuck.port.stallTimer ≠ none ∧
      ((up.raise (.stall 1)).notices.timer ≠ none ∧ (up.raise (.stall 1)).notices.owed = false) ∧
      (((up.raise (.stall 1)).raise (.detach 1 1)).notices.timer ≠ none ∧
        ((up.raise (.stall 1)).raise (.detach 1 1)).notices.owed = true) := by
  decide +kernel

theorem test_witness_StoppedTimersDoNothing :
    (up.slot 2).lossTimer = none ∧ (up.voice 0).releaseTimer = none ∧ up.port.stallTimer = none ∧
      up.notices.timer = none ∧ up.store.work.head?.map (·.kind) ≠ some .copyLive ∧
      up.store.work.head?.map (·.kind) ≠ some .commit := by
  decide +kernel

theorem test_witness_TransmissionSendsHead :
    (stuck.setQueue [.allStop]).port.attached = true ∧
      ({ stuck with port := { stuck.port with credit := 1 } } : State).port.credit = 1 ∧
      stuck.port.queue = [.allStop] ∧ up.port.attached = false ∧ stuck.port.credit = 0 ∧ playing.port.queue = [] := by
  decide +kernel

theorem test_witness_GrantAddsCredit :
    stuck.receives .voice = true ∧ 1 ≤ (1#8).toNat ∧ (64#8).toNat ≤ 64 ∧ (0#8).toNat = 0 ∧ 64 < (65#8).toNat ∧
      ([] : List Byte).length ≠ 1 ∧ up.receives .voice = false ∧
      (after stuck (.detachment (noise 1))).receives .voice = false := by
  decide +kernel

theorem test_witness_FreedReportEndsTail :
    (let s := afterAll playing [.sense (packet 0 620 0 []), .transmission];
      s.receives .voice = true ∧ (s.voice 0).dn = .tail ∧ (s.voice 0).dnGeneration = 5 ∧
        (s.voice 0).phase = .releasing ∧ (s.voice 0).generation = 5 ∧ (s.voice 0).dnGeneration ≠ 6) ∧
      (let s := afterAll playing [.sense (packet 0 620 0 []), .transmission, .releaseTimerExpiry 0];
        s.receives .voice = true ∧ (s.voice 0).dn = .tail ∧ (s.voice 0).phase = .free) ∧
      (31#8).toNat = (31 : VoiceIx).val ∧ (playing.voice 31).dn ≠ .tail ∧ 31 < (32#8).toNat ∧
      ([0#8] : List Byte).length ≠ 2 ∧ up.receives .voice = false := by
  decide +kernel

/-- Fifteen valid groups have come since lock was lost, inside a packet: lock has been absent for 150 symbol times. -/
def waiting : Receiver := { validGroups := 15, lockless := 150, packet := .cut }

/-- A packet of one field byte with a right length byte: its check is right in the second, wrong in the first. -/
theorem test_witness_DiscardedPacketsRaiseCorrupt :
    playing.receives .collector = true ∧ playing.receives .voice = true ∧ ([0#8, 0#8, 0#8] : List Byte).length < 4 ∧
      (let bytes := [0x21#8, 1#8, 0#8, 0#8, 0#8];
        bytes.length = (bytes.getD 1 0).toNat + 4 ∧
          bytes.drop (bytes.length - 2) ≠ halfBytes (crc16 (bytes.take (bytes.length - 2)))) ∧
      (let bytes := envelope 0x41#8 [0#8];
        bytes.length = (bytes.getD 1 0).toNat + 4 ∧
          bytes.drop (bytes.length - 2) = halfBytes (crc16 (bytes.take (bytes.length - 2))) ∧
          bytes.getD 0 0 ≠ 0x51#8 ∧ bytes.getD 0 0 ≠ 0x52#8 ∧ bytes.getD 0 0 ≠ 0x21#8 ∧ bytes.getD 0 0 ≠ 0x22#8) ∧
      ((0 : Fin 10) = (playing.receiver .voice).alignment ∧ (9 : Fin 10) ≠ (playing.receiver .voice).alignment ∧
        (playing.receiver .voice).packet = .none) ∧
      (let s := playing.setReceiver .collector waiting;
        s.linkUp .collector = true ∧ (s.receiver .collector).locked = false ∧ 15 ≤ waiting.validGroups ∧
          waiting.lockless + 10 < 256 ∧ { waiting with lockless := 245 }.lockless + 10 < 256 ∧
          s.receives .collector = false ∧ (s.receiver .collector).packet ≠ .inside) ∧
      State.reset.receives .collector = false ∧ State.reset.receives .voice = false := by
  decide +kernel

/-- The readings of each clause of a receiver, at the alignment it stands at and at another: 246 + 10 symbol times are
the 256 that end a link, 245 + 10 are not. -/
theorem test_witness_CollectorLinkChanges :
    (let r := up.receivers.collector;
      r.locked = true ∧ r.alignment = 0 ∧ (9 : Fin 10) ≠ r.alignment ∧ up.ReceiverLaws) ∧
      (let s := up.setReceiver .collector { waiting with packet := .none };
        s.receivers.collector.locked = false ∧ min 16 (15 + 1) = 16 ∧ s.collector.up = true ∧ 150 + 10 < 256 ∧
          s.ReceiverLaws ∧ 256 ≤ { waiting with lockless := 246 }.lockless + 10 ∧
          { waiting with lockless := 245 }.lockless + 10 < 256) ∧
      (State.reset.receivers.collector.locked = false ∧ State.reset.collector.up = false ∧
        (State.reset.setReceiver .collector { validGroups := 15 }).ReceiverLaws) ∧
      ((groups 16).length = 16 ∧ ∀ y ∈ groups 16, y.alignment = 0 ∧ y.group ≠ none) ∧
      ((noise 27).length = 27 ∧ ∀ y ∈ noise 27, y.alignment = 0 ∧ y.group = none) := by
  refine ⟨?_, ?_, ?_, ?_, ?_⟩ <;> decide +kernel

theorem test_witness_AttachmentPlacesOwedAllStop :
    (let s := (after playing (.detachment (noise 27))).setReceiver .voice { validGroups := 15 };
      s.port.attached = false ∧ s.port.allStopOwed = true ∧ s.port.queue.length < 64 ∧
        s.receivers.voice.locked = false ∧ s.ReceiverLaws) ∧
      (up.port.attached = false ∧ up.port.allStopOwed = false ∧ up.receivers.voice.locked = false ∧
        up.ReceiverLaws) ∧
      (let s := playing.setReceiver .voice { waiting with packet := .none };
        s.port.attached = true ∧ s.receivers.voice.locked = false ∧ s.receivers.voice.lockless + 10 < 256) ∧
      256 ≤ { waiting with lockless := 246 }.lockless + 10 ∧ playing.receivers.voice.locked = true := by
  refine ⟨?_, ?_, ?_, ?_, ?_⟩ <;> decide +kernel

theorem test_witness_DetachmentFlushes :
    playing.port.attached = true ∧ playing.receivers.voice.locked = true ∧ playing.ReceiverLaws ∧
      (let s := playing.setReceiver .voice { lockless := 246 };
        s.receivers.voice.locked = false ∧ s.port.attached = true ∧ 256 ≤ s.receivers.voice.lockless + 10 ∧
          s.ReceiverLaws) ∧
      ((playing.slot 2).phase = .sounding ∧ (playing.slot 0).phase = .unbound) ∧
      playing.notices.latches[10].first = none ∧ up.port.attached = false ∧ up.receivers.voice.locked = false ∧
      (let s := draining.setReceiver .voice { lockless := 246 };
        s.port.attached = true ∧ s.receivers.voice.locked = false ∧ s.BankLaws ∧ (s.bank 0).state = .draining) := by
  refine ⟨?_, ?_, ?_, ?_, ?_, ?_, ?_, ?_, ?_⟩ <;> decide +kernel

/-- Each bound of the content check just passed: sample 4096, lip 1024, roller 8, count 0 and 5, a byte missing. -/
theorem test_witness_SenseContentDiscards :
    up.receives .collector = true ∧ ([0#8] : List Byte).length < 8 ∧ ((0#8).toNat = 0 ∧ 4 < (5#8).toNat) ∧
      ([0#8] : List Byte).length ≠
        2 * (1#8).toNat + (if (0#8).getLsbD 1 then 2 else 0) + (if (0#8).getLsbD 0 then 1 else 0) ∧
      (∃ j < (1#8).toNat, 4095 < (half (([0x10#8, 0#8] : List Byte).getD (2 * j) 0)
        (([0x10#8, 0#8] : List Byte).getD (2 * j + 1) 0)).toNat) ∧
      ((2#8).getLsbD 1 = true ∧ 1023 < (half 4#8 0#8).toNat) ∧ (1#8).getLsbD 0 = true ∧ 7 < (8#8).toNat ∧
      readSense [0#8, 1#8, 7#8, 0#8, 0#8, 0#8, 1#8, 3#8, 0x0F#8, 0xFF#8, 3#8, 0xFF#8, 7#8] =
        some (carried 0 4095 (some 1023) (some 7)) := by
  decide +kernel

/-- A SENSE packet of the demo controller with these samples, without lip or roller. -/
def burst (keys : Byte) (samples : List Half) : List Byte :=
  [0#8, 1#8, 7#8, 0#8, 0#8, keys, BitVec.ofNat 8 samples.length, 0#8] ++ samples.flatMap halfBytes

/-- Slot 2 takes the packet of these samples that way. -/
abbrev Arrives (s : State) (way : Taking) (keys : Byte) (samples : List Half) : Prop :=
  s.Takes (burst keys samples)
    { tag := 1, sequence := 7, keyWord := 0#16 ++ keys, samples := samples.map BitVec.toNat, lip := none, roller := none }
    2 way ((samples.map BitVec.toNat).getLast?.getD 0)

/-- Slot 2 with its packet numbered 7 one ahead of the expected number. -/
def gapped (x : Slot) : Slot := { x with expectedSeq := some 6 }

/-- Slot 2 before its controller is first heard. -/
def absentSlot : Slot :=
  { quietSlot with phase := .absent, absentCause := some .bind, expectedSeq := none, lossTimer := none }

/-- The packet's number 7 lies 128 ahead of 135. -/
theorem test_witness_StrayAndStalePacketsAreDiscarded :
    readSense (packet 0 1900 0 []) = some (carried 0 1900 none none) ∧ up.receives .collector = true ∧
      (∀ i : SlotIx, (up.slot i).phase ≠ .unbound → (up.slot i).tag ≠ some 1) ∧
      (let s := stage { quietSlot with expectedSeq := some 135 };
        s.receives .collector = true ∧ s.TagsDistinct ∧ (s.slot 2).Heard ∧ (s.slot 2).tag = some 1 ∧
          (s.slot 2).expectedSeq = some 135 ∧ 128 ≤ (7#8 - 135#8).toNat) ∧
      State.reset.receives .collector = false := by
  decide +kernel

/-- Samples 652 and 779 scale to 440 and 598, below the on threshold of 600; 1900 scales to 2000, and 620 to 400,
below the off threshold of 500, where 700 stands. Number 7 lies 1 ahead of 6 and 127 ahead of 136. -/
theorem test_witness_QuietPacketFollowsBreath :
    (Arrives quiet .inOrder 0 [652, 779] ∧ (quiet.slot 2).phase = .quiet ∧
      quietSlot.settings.noOnset false [652, 779] = true) ∧
      (let s := stage { quietSlot with rearm := true };
        Arrives s .inOrder 0 [1900, 620, 779] ∧ quietSlot.settings.noOnset true [1900, 620, 779] = true ∧
          quietSlot.settings.noOnset true [1900, 700] = true) ∧
      (Arrives (stage (gapped quietSlot)) .afterGap 0 [652] ∧
        Arrives (stage { quietSlot with expectedSeq := some 136 }) .afterGap 0 [652] ∧
        (((stage (gapped quietSlot)).takenAs 2 (carried 0 652 none none) .afterGap).slot 2).phase = .quiet) ∧
      (Arrives (stage absentSlot) .first 0 [652] ∧
        (((stage absentSlot).takenAs 2 (carried 0 652 none none) .first).slot 2).phase = .quiet) ∧
      ((quiet.slot 2).rearm = false ∧ (quiet.slot 2).resolution = none ∧ (playing.slot 2).phase = .sounding ∧
        (quiet.slot 0).phase = .unbound) ∧
      ((stage { quietSlot with resolution := some ⟨0, 62, 0, 0⟩ }).slot 2).resolution = some ⟨0, 62, 0, 0⟩ := by
  refine ⟨?_, ?_, ?_, ?_, ?_, ?_⟩ <;> decide +kernel

/-- Sample 780 scales to the on threshold itself. -/
theorem test_witness_OnsetStartsNote :
    (quiet.receives .collector = true ∧
      readSense (packet 0 1900 3 [2#8, 0x6C#8, 5#8]) = some (carried 0 1900 (some 620) (some 5)) ∧
      quiet.route 1 = some 2 ∧
      (let x := quiet.slot 2;
        x.phase = .quiet ∧ x.rearm = false ∧ x.expectedSeq = some 7 ∧ x.bank = some 0 ∧
          x.settings.onThreshold ≤ scaledPressure x.settings 1900 ∧
          x.settings.onThreshold = scaledPressure x.settings 780 ∧
          lookupSet (quiet.bank 0).fingerings (canonicalKeys (quiet.bank 0).profiles[x.settings.profile] 0) =
            some ⟨0, 62, 0, 0⟩) ∧
      (quiet.bank 0).voicings[0].layers = [⟨0, 71, 0, 100, true⟩] ∧ (quiet.voice 0).phase = .free ∧
      (quiet.voice 0).dn = .none ∧
      (∀ w : VoiceIx, w < 0 → (quiet.voice w).phase ≠ .free ∨ (quiet.voice w).dn ≠ .none) ∧
      quiet.port.queue.length < 64 ∧ (0 : Int) ≤ 4638 ∧ (4638 : Int) ≤ 8191) ∧
      (Arrives quiet .inOrder 0 [652, 780, 700] ∧ quietSlot.settings.noOnset false [652] = true ∧
        quietSlot.settings.allHeld [700] = true ∧ quiet.foundIn (some 0) 0 = some ⟨0, 62, 0, 0⟩) ∧
      (let s := stage { quietSlot with rearm := true };
        Arrives s .inOrder 0 [620, 1900] ∧ quietSlot.settings.noOnset true [620] = true ∧
          (true && quietSlot.settings.allHeld [620]) = false) ∧
      (Arrives (stage (gapped quietSlot)) .afterGap 0 [1900, 700]) ∧
      (let u := (stage absentSlot).takenAs 2 (carried 0 1900 none none) .first;
        Arrives (stage absentSlot) .first 0 [1900, 700] ∧ (u.slot 2).phase = .quiet ∧ (u.slot 2).qPrev = 0 ∧
          u.foundIn (u.slot 2).bank 0 = some ⟨0, 62, 0, 0⟩) := by
  refine ⟨?_, ?_, ?_, ?_, ?_⟩ <;> decide +kernel

/-- The demo bank with no fingering at all, LIVE. -/
def unmapped (x : Slot) : State := (stage x).setBank 0 { demoBank with fingerings := Vector.replicate 256 {} }

/-- Slot 2 in STALLED. -/
def stalledSlot : Slot := { quietSlot with phase := .stalled, onsetVelocity := 90 }

theorem test_witness_OnsetWithoutResolutionStalls :
    (let s := unmapped quietSlot;
      Arrives s .inOrder 0 [652, 1900, 700] ∧ (s.slot 2).phase = .quiet ∧ (s.slot 2).rearm = false ∧
        (s.slot 2).expectedSeq = some 7 ∧ s.foundIn (some 0) 0 = none ∧
        quietSlot.settings.noOnset false [652] = true ∧ quietSlot.settings.allHeld [700] = true ∧
        quietSlot.settings.onThreshold ≤ scaledPressure quietSlot.settings 1900) ∧
      (let s := (stage { quietSlot with bank := none }).setBank 0 {};
        Arrives s .inOrder 0 [1900] ∧ s.store.liveBank = none ∧ s.foundIn none 0 = none) ∧
      (let s := unmapped stalledSlot;
        Arrives s .inOrder 0 [700] ∧ Arrives s .inOrder 0 [700, 620, 652] ∧ (s.slot 2).phase = .stalled ∧ (s.slot 2).rearm = false ∧
          s.foundIn (some 0) 0 = none ∧
          scaledPressure quietSlot.settings 620 < quietSlot.settings.offThreshold ∧
          quietSlot.settings.offThreshold = scaledPressure quietSlot.settings 700 ∧
          quietSlot.settings.allLow [652] = true) ∧
      (Arrives (stage stalledSlot) .inOrder 0 [700] ∧
        (stage stalledSlot).foundIn (some 0) 0 = some ⟨0, 62, 0, 0⟩) ∧
      (Arrives (unmapped (gapped quietSlot)) .afterGap 0 [1900] ∧
        Arrives (unmapped (gapped stalledSlot)) .afterGap 0 [700] ∧
        Arrives (stage (gapped stalledSlot)) .afterGap 0 [700]) ∧
      (Arrives (unmapped absentSlot) .first 0 [1900] ∧
        (((unmapped absentSlot).takenAs 2 (carried 0 1900 none none) .first).slot 2).phase = .quiet) := by
  refine ⟨?_, ?_, ?_, ?_, ?_, ?_⟩ <;> decide +kernel

/-- A release by the second sample; an onset and its release in one packet, and the release of a note that a STALLED
slot starts; a release and a new onset. -/
theorem test_witness_ReleaseEndsNote :
    ((playing.slot 2).phase = .sounding ∧ (playing.slot 2).expectedSeq = some 7 ∧ (playing.slot 2).rearm = false ∧
      playing.keysIn (playing.slot 2) (some 0) (carried 0 620 none none) = (playing.slot 2).confirmed ∧
      Arrives playing .inOrder 0 [700, 620, 652] ∧ quietSlot.settings.allHeld [700] = true ∧
      scaledPressure quietSlot.settings 620 < quietSlot.settings.offThreshold ∧
      scaledPressure quietSlot.settings 699 < quietSlot.settings.offThreshold ∧
      quietSlot.settings.allLow [652] = true) ∧
      (let s := stage
          (gapped { playingSlot with candidate := 1, settings := { playingSlot.settings with confirmCount := 3 } });
        Arrives s .afterGap 1 [620] ∧ s.keysIn (s.slot 2) (some 0) (carried 1 620 none none) ≠ (s.slot 2).confirmed ∧
          ((s.slot 2).hears 7 .afterGap 1).runCount < (s.slot 2).settings.confirmCount) ∧
      (Arrives quiet .inOrder 0 [652, 1900, 700, 620] ∧ (quiet.slot 2).phase = .quiet ∧
        quiet.foundIn (some 0) 0 = some ⟨0, 62, 0, 0⟩ ∧
        quietSlot.settings.onThreshold ≤ scaledPressure quietSlot.settings 1900) ∧
      (Arrives (stage stalledSlot) .inOrder 0 [700, 620] ∧ ((stage stalledSlot).slot 2).phase = .stalled) ∧
      (Arrives playing .inOrder 0 [700, 620, 652, 1900] ∧
        playing.foundIn playing.store.liveBank 0 = some ⟨0, 62, 0, 0⟩) ∧
      (Arrives (stage (gapped playingSlot)) .afterGap 0 [700, 620] ∧
        Arrives (stage (gapped quietSlot)) .afterGap 0 [1900, 620] ∧
        Arrives (stage (gapped stalledSlot)) .afterGap 0 [700, 620]) ∧
      Arrives (stage absentSlot) .first 0 [1900, 620] := by
  refine ⟨?_, ?_, ?_, ?_, ?_, ?_, ?_⟩ <;> decide +kernel

/-- Pitch (62 - 2) * 64 + 3 = 3843, which lies within the range. -/
theorem test_witness_SoundingPacketUpdatesLayer :
    (playing.receives .collector = true ∧ readSense (packet 0 1900 0 []) = some (carried 0 1900 none none) ∧
      playing.route 1 = some 2 ∧
      (let x := playing.slot 2;
        x.phase = .sounding ∧ x.expectedSeq = some 7 ∧ x.bank = some 0 ∧
          canonicalKeys (playing.bank 0).profiles[x.settings.profile] 0 = x.confirmed ∧
          x.settings.offThreshold ≤ scaledPressure x.settings 1900 ∧ x.resolution = some ⟨0, 62, 0, 0⟩ ∧
          x.layers = [some 0]) ∧
      (playing.bank 0).voicings[0].layers = [⟨0, 71, 0, 100, true⟩] ∧
      ((62 : Int) + rollerOctave (playing.slot 2).settings none + (playing.slot 2).settings.transpose + 0) * 64 +
        (0 + (playing.slot 2).settings.tune + lipBend (playing.slot 2).settings none) = 3843 ∧
      playing.port.queue = []) ∧
      (Arrives playing .inOrder 0 [700, 1900] ∧ quietSlot.settings.allHeld [700, 1900] = true) ∧
      (let s := stage { playingSlot with settings := { playingSlot.settings with confirmCount := 2 } };
        Arrives s .inOrder 1 [700] ∧ s.keysIn (s.slot 2) (some 0) (carried 1 700 none none) ≠ (s.slot 2).confirmed ∧
          ((s.slot 2).hears 7 .inOrder 1).runCount < (s.slot 2).settings.confirmCount) ∧
      ((quiet.slot 2).phase ≠ .sounding ∧ (playing.slot 2).resolution = some ⟨0, 62, 0, 0⟩ ∧
        ((stage { playingSlot with resolution := none }).slot 2).resolution = none) ∧
      Arrives (stage (gapped playingSlot)) .afterGap 0 [700, 620] := by
  refine ⟨?_, ?_, ?_, ?_, ?_⟩ <;> decide +kernel

/-- Key 0 alone keeps entry 0, keys 0 and 1 find entry 1 of the same LEGATO voicing, keys 1 and 2 entry 2. -/
theorem test_witness_ConfirmedChangeTakesItsCourse :
    (playing.receives .collector = true ∧
      (readSense (packet 1 1900 0 []) = some (carried 1 1900 none none) ∧
        readSense (packet 3 1900 0 []) = some (carried 3 1900 none none) ∧
        readSense (packet 6 1900 0 []) = some (carried 6 1900 none none)) ∧
      playing.route 1 = some 2 ∧
      (let x := playing.slot 2;
        let table := (playing.bank 0).fingerings
        let keys := canonicalKeys (playing.bank 0).profiles[x.settings.profile]
        x.phase = .sounding ∧ x.expectedSeq = some 7 ∧ x.bank = some 0 ∧ x.resolution = some ⟨0, 62, 0, 0⟩ ∧
          keys 1 ≠ x.confirmed ∧ x.settings.confirmCount ≤ 1 ∧
          x.settings.offThreshold ≤ scaledPressure x.settings 1900 ∧
          lookupSet table (keys 1) = some ⟨0, 62, 0, 0⟩ ∧ lookupSet table (keys 3) = some ⟨1, 64, 0, 0⟩ ∧
          lookupSet table (keys 6) = some ⟨2, 67, 0, 1⟩ ∧ x.layers = [some 0]) ∧
      ((playing.bank 0).voicings[0].mode = .legato ∧ (playing.bank 0).voicings[1].mode = .retrigger) ∧
      (playing.bank 0).voicings[1].layers = [⟨-12, 42, 1, 127, false⟩] ∧ playing.port.queue = [] ∧
      (playing.voice 0).dn = .opened ∧ (playing.voice 1).phase = .free ∧ (playing.voice 1).dn = .none ∧
      (∀ y : VoiceIx, y < 1 → (playing.voice y).phase ≠ .free ∨ (playing.voice y).dn ≠ .none)) ∧
      (Arrives playing .inOrder 1 [700, 1900] ∧ Arrives playing .inOrder 3 [700, 1900] ∧ Arrives playing .inOrder 6 [700, 1900] ∧
        quietSlot.settings.allHeld [700, 1900] = true ∧
        playing.foundIn (some 0) 1 = some ⟨0, 62, 0, 0⟩ ∧ playing.foundIn (some 0) 3 = some ⟨1, 64, 0, 0⟩ ∧
        playing.foundIn (some 0) 6 = some ⟨2, 67, 0, 1⟩) ∧
      (let s := unmapped playingSlot;
        Arrives s .inOrder 1 [700] ∧ s.foundIn (some 0) 1 = none) ∧
      (Arrives playing .inOrder 6 [700, 620] ∧ Arrives playing .inOrder 3 [700, 620, 1900] ∧
        playing.foundIn playing.store.liveBank 3 = some ⟨1, 64, 0, 0⟩ ∧
        scaledPressure quietSlot.settings 620 < quietSlot.settings.offThreshold) ∧
      (Arrives (stage (gapped playingSlot)) .afterGap 6 [700] ∧
        ((gapped playingSlot).hears 7 .afterGap 6).runCount = 1 ∧ playingSlot.settings.confirmCount = 1) := by
  refine ⟨?_, ?_, ?_, ?_, ?_⟩ <;> decide +kernel

/-- A packet that is taken; one with no samples, one with a strange tag, and one that is stale (R2, R3, R14). -/
theorem test_witness_SensePacketFrame :
    (readSense (packet 6 1900 0 []) = some (carried 6 1900 none none) ∧ playing.route 1 = some 2) ∧
      readSense (burst 0 []) = none ∧ up.route 1 = none ∧
      (let s := stage { quietSlot with expectedSeq := some 135 };
        s.route 1 = some 2 ∧ (s.slot 2).phase ≠ .absent ∧ 128 ≤ (7#8 - 135#8).toNat) ∧
      (match exec (.sense (packet 6 1900 0 [])) playing with
        | .next t => t.port.queue.length == 2
        | _ => false) = true := by
  refine ⟨?_, ?_, ?_, ?_, ?_⟩ <;> decide +kernel

theorem test_witness_LookupPicksMostSpecific :
    lookupEntry demoBank.fingerings 3 = some 1 ∧ (1 : EntryIx) = 1 ∧ demoBank.fingerings[0].valid = true := by
  decide +kernel

theorem test_witness_CurveAndBendStayInRange :
    (0 : Int) ≤ 8191 ∧ 7 < 8 ∧ 511 < 512 ∧ 512 ≤ ({} : Settings).lipCenter := by decide

/-- Every voice SOUNDING at priority 0 for the four layers of eight slots, oldest first. -/
def fullPool : State :=
  { up with
    pool :=
      { voices := Vector.ofFn fun v =>
          { phase := .sounding, owner := some ⟨Fin.ofNat 8 (v.val / 4), Fin.ofNat 4 v.val, 0⟩, dn := .opened }
        ageList := List.finRange 32 } }

/-- A full queue with one LEVEL of voice 0 at its end. -/
def jammed : State := playing.setQueue (List.replicate 63 .allStop ++ [.level 0 5 7])

/-- Slot 2 waits for its onset while the queue is full, with one LEVEL of voice 9 at its end. -/
def crammed : State := quiet.setQueue (List.replicate 63 .allStop ++ [.level 9 5 7])

theorem test_witness_AllocationSearchesClasses :
    fullPool.PoolLaws ∧ (fullPool.pool.candidate .fixed 3 = some (.class4, 0) ∧
      fullPool.pool.candidate .rotating 3 = some (.class4, 0) ∧
      fullPool.pool.ageList = [] ++ (0 : VoiceIx) :: (List.finRange 32).drop 1 ∧
      (fullPool.voice 0).owner = some ⟨0, 0, 0⟩ ∧ fullPool.pool.candidate .fixed 0 = none) ∧
      (fullPool.setRotation 4).pool.candidate .rotating 3 = some (.class4, 20) ∧
      playing.PoolLaws ∧ (playing.pool.candidate .fixed 0 = some (.class1, 1)) ∧
      ((fullPool.voice 0).dn = .opened ∧
        (fullPool.port.queue.filter fun r => !(r.key == some (0, (fullPool.voice 0).dnGeneration))).length < 64) ∧
      ((after quiet (.sense (packet 0 1900 0 []))).voice 0).dn = .pending ∧
      (after quiet (.sense (packet 0 1900 0 []))).pool.candidate .fixed 0 = some (.class1, 1) ∧
      (let s := jammed.setQueue (List.replicate 63 .allStop ++ [.level 1 5 7]);
        64 ≤ (s.port.queue.filter fun r => !(r.key == some (0, (s.voice 0).dnGeneration))).length ∧
          (s.voice 0).owner = some ⟨2, 0, 1⟩) ∧
      ((crammed.takeVoice .class1 0 2).port.queue.length = 64 ∧ crammed.pool.candidate .fixed 0 = some (.class1, 0)) := by
  refine ⟨?_, ?_, ?_, ?_, ?_, ?_, ?_, ?_, ?_, ?_⟩ <;> decide +kernel


/-- At a full queue a release appends its STOP, and the LEVEL nearest the head, of voice 1, makes room for it. -/
theorem test_release_at_a_full_queue :
    let t := (playing.setQueue (.level 1 5 7 :: List.replicate 63 .allStop)).releaseVoice 0 .release
    t.port.queue = List.replicate 63 .allStop ++ [.stop 0 5 .release] ∧ (t.voice 1).levelOwed = true := by
  decide +kernel

theorem test_witness_ReleaseTakesItsCourse :
    ((after quiet (.sense (packet 0 1900 0 []))).voice 0).dn = .pending ∧
      ((playing.voice 0).dn = .opened ∧ playing.port.queue.length < 64) ∧
      (jammed.voice 0).dn = .opened ∧
      (∃ r ∈ jammed.port.queue, r.isUpdate = true ∧ r.key = some (0, (jammed.voice 0).generation)) ∧
      jammed.port.queue.length = 64 ∧
      (let s := jammed.setQueue (List.replicate 63 .allStop ++ [.level 1 5 7]);
        (s.voice 0).dn = .opened ∧
          (s.port.queue.filter fun r => !(r.isUpdate && r.key == some (0, (s.voice 0).generation))).length = 64) := by
  decide +kernel

theorem test_witness_QueueTakesRecords :
    ((playing.setQueue [.start 0 5 0 0 1 1 1, .retune 0 4 1]).voice 0).generation = 5 ∧
      (∀ y ∈ ([] ++ [.retune 0 4 1] : List VoiceRecord), (y.isStart && y.isFor 0 5) = false) ∧
      (∀ y ∈ ([.retune 0 5 1] ++ [.level 0 4 1] : List VoiceRecord),
        ((y.isStart || y.isLevel) && y.isFor 0 5) = false) ∧
      (∀ y ∈ ([.level 0 5 1] ++ [] : List VoiceRecord), ((y.isStart || y.isRetune) && y.isFor 0 5) = false) ∧
      (∀ y ∈ (List.replicate 63 .allStop : List VoiceRecord), ((y.isStart || y.isLevel) && y.isFor 0 5) = false) ∧
      (jammed.port.queue = List.replicate 63 .allStop ++ .level 0 5 7 :: [] ∧ jammed.port.queue.length = 64 ∧
        ∀ y ∈ (List.replicate 63 .allStop : List VoiceRecord), y.isLevel = false) ∧
      (jammed.setQueue (.retune 0 5 7 :: List.replicate 63 .allStop)).port.queue.length = 64 ∧
      (jammed.notices.latches[8].first = none ∧ playing.port.queue.length < 64) ∧
      (∀ y ∈ ([] ++ List.replicate 63 .allStop : List VoiceRecord), y.isLevel = false) ∧
      (∃ y ∈ jammed.port.queue, ((y.isStart || y.isLevel) && y.isFor 0 5) = true) ∧
      (∃ y ∈ (jammed.setQueue (.retune 0 5 7 :: List.replicate 63 .allStop)).port.queue,
        ((y.isStart || y.isRetune) && y.isFor 0 5) = true) ∧
      (∀ y ∈ jammed.port.queue, ((y.isStart || y.isRetune) && y.isFor 0 5) = false) ∧
      (∀ y ∈ crammed.port.queue, ((y.isStart || y.isLevel) && y.isFor 0 (crammed.voice 0).generation) = false) ∧
      jammed.makeRoom.port.queue.length < 64 ∧
      (let s := jammed.setQueue (List.replicate 64 .allStop);
        64 ≤ s.port.queue.length ∧ ∀ y ∈ s.port.queue, y.isUpdate = false) := by
  decide +kernel

/-- The demo entries lie within their ranges, at the ends of them where they can. -/
theorem test_witness_TableEntriesReadBack :
    (TableEntry.fingering
      { valid := true, care := 0xFFFFFF#24, pattern := 0xFFFFFF#24, note := 127, cent := -32, voicing := 63 }).Storable ∧
      (TableEntry.voicing { fixedVelocity := 127, layers := [⟨-48, 127, 15, 127, true⟩] }).Storable ∧
      (TableEntry.curve (Vector.replicate 9 16383)).Storable ∧ (TableEntry.profile {}).Storable := by
  unfold TableEntry.Storable
  decide +kernel

/-- A note that is playing, one that is starting and a part that has been flushed obey every law that the certificates
start from. -/
theorem test_witness_InvariantsKept :
    playing.SlotRanges ∧ playing.RecordRanges ∧ playing.EngineRanges ∧ playing.SlotLaws ∧ playing.TagsDistinct ∧ playing.BankLaws ∧ playing.WorkLaws ∧
      playing.PoolLaws ∧ playing.LayersAgree ∧ playing.PortBounds ∧ playing.DetachedLaw ∧ playing.StallLaw ∧
      playing.LineLaw ∧ playing.LatchLaws ∧ playing.RequestLaws ∧ playing.DownLaw ∧ playing.ReceiverLaws ∧
      playing.QueueLaws ∧ playing.ReplyLaw ∧ crowded.ReplyLaw ∧ crowded.responder.waiting = true := by
  refine ⟨?_, ?_, ?_, ?_, ?_, ?_, ?_, ?_, ?_, ?_, ?_, ?_, ?_, ?_, ?_, ?_, ?_, ?_, ?_, ?_, ?_⟩ <;> decide +kernel

/-- A note whose START waits in the queue. -/
def starting : State := after quiet (.sense (packet 0 1900 0 []))

/-- A START, a RETUNE and a LEVEL at the ends of their ranges, and values just outside them (R58, R163). -/
theorem test_witness_RangesKept :
    (starting.SlotRanges ∧ starting.RecordRanges ∧ starting.EngineRanges) ∧
      (VoiceRecord.start 0 1 15 127 8191 127 16383).inRange = true ∧
      (VoiceRecord.start 0 1 0 0 0 0 0).inRange = false ∧ (VoiceRecord.retune 0 1 8192).inRange = false ∧
      (VoiceRecord.level 0 1 16384).inRange = false ∧
      (playing.setEngine { releaseTimeout := 5000, deadBand := 255, stallTime := 1, noticeInterval := 1 }).EngineRanges ∧
      ¬(playing.setEngine { stallTime := 0 }).EngineRanges := by
  refine ⟨?_, ?_, ?_, ?_, ?_, ?_, ?_⟩ <;> decide +kernel

/-- A START is queued in the first state, an ALL_STOP in the second and is owed in the third. -/
theorem test_witness_QueueLawsKept :
    starting.port.queue.length = 1 ∧ starting.QueueLaws ∧ starting.PoolLaws ∧ starting.LayersAgree ∧
      (after playing (.panic 1 [])).port.queue = [.allStop] ∧ (after playing (.panic 1 [])).QueueLaws ∧
      (after playing (.detachment (noise 27))).port.allStopOwed = true ∧
      (after playing (.detachment (noise 27))).QueueLaws ∧
      (after playing (.detachment (noise 27))).ReceiverLaws := by
  refine ⟨?_, ?_, ?_, ?_, ?_, ?_, ?_, ?_, ?_⟩ <;> decide +kernel

/-- The START of that state belongs to its voice, which is PENDING, and no STOP is queued. A command moves it on. -/
theorem test_witness_StartsPending :
    starting.StartsPending ∧ starting.StopsOpen ∧ starting.SlotLaws ∧ starting.SlotRanges ∧ starting.PortBounds ∧
      (match step { starting with pending := [.transmission] } with
        | .next t => (t.voice 0).dn == .opened
        | _ => false) = true := by
  refine ⟨?_, ?_, ?_, ?_, ?_, ?_⟩ <;> decide +kernel

end Sys2Proof.Tests
end

/-! The content check of a SENSE packet (R2): its fields are read where R187 puts them, and a packet that fails the
check is a CONTENT discard. -/

namespace Sys2Proof.Machine

open Sys2Proof

/-! ### Fields by their place (R183) -/

/-- The two-byte field of a run of bytes that begins at a place. -/
def halfAt (bs : List Byte) (k : Nat) : Half := half (bs.getD k 0) (bs.getD (k + 1) 0)

/-- The two-byte fields of the leading 2n bytes begin at the even places below 2n. -/
theorem halves_take {n : Nat} {bs : List Byte} (h : 2 * n ≤ bs.length) :
    halves (bs.take (2 * n)) = (List.range n).map fun j => halfAt bs (2 * j) := by
  induction n generalizing bs with
  | zero => rfl
  | succ n ih =>
    match bs with
    | [] => simp at h
    | [_] => simp only [List.length_singleton] at h; omega
    | hi :: lo :: r =>
      have hr : 2 * n ≤ r.length := by simp only [List.length_cons] at h; omega
      have htail : ∀ j, halfAt (hi :: lo :: r) (2 * (j + 1)) = halfAt r (2 * j) := fun _ => rfl
      calc halves ((hi :: lo :: r).take (2 * (n + 1)))
          = half hi lo :: halves (r.take (2 * n)) := rfl
        _ = (List.range (n + 1)).map fun j => halfAt (hi :: lo :: r) (2 * j) := by
          rw [List.range_succ_eq_map, List.map_cons, List.map_map, ih hr]
          exact congrArg _ (List.map_congr_left fun j _ => (htail j).symm)

/-- The two-byte field behind the leading k bytes. -/
theorem head?_halves_drop {k : Nat} {bs : List Byte} (h : k + 2 ≤ bs.length) :
    (halves ((bs.drop k).take 2)).head? = some (halfAt bs k) := by
  have hd : 2 * 1 ≤ (bs.drop k).length := by rw [List.length_drop]; omega
  rw [halves_take (n := 1) hd]
  simp [halfAt, List.getD_eq_getElem?_getD]

/-- The last byte stands at the place that the bytes before it leave. -/
theorem getLast?_drop_eq_getD {k m : Nat} {bs : List Byte} (h : bs.length = m + 1) (hk : k ≤ m) :
    (bs.drop k).getLast? = some (bs.getD m 0) := by
  rw [List.getLast?_drop, if_neg (by omega), List.getLast?_eq_getElem?, List.getD_eq_getElem?_getD, h,
    Nat.add_sub_cancel, List.getElem?_eq_getElem (by omega), Option.getD_some]

/-! ### The content check (R2, R187) -/

/-- The fields of a SENSE packet, each read at its place (R187). -/
def Sense.laidOut (t1 t0 sq k2 k1 k0 n fl : Byte) (rest : List Byte) : Sense where
  tag := half t1 t0
  sequence := sq
  keyWord := keySet k2 k1 k0
  samples := (List.range n.toNat).map fun j => (halfAt rest (2 * j)).toNat
  lip := if fl.getLsbD 1 then some (halfAt rest (2 * n.toNat)).toNat else none
  roller := if fl.getLsbD 0 then some (rest.getD (2 * n.toNat + if fl.getLsbD 1 then 2 else 0) 0).toNat else none

/-- An optional field stays within a bound exactly when it does so wherever it is there. -/
theorem optionalField_all_le_iff (there : Bool) (x bound : Nat) :
    (if there then some x else none).all (fun y => decide (y ≤ bound)) = true ↔ (there = true → x ≤ bound) := by
  cases there <;> simp

/-- The ranges of R2, sample by sample and for each optional field that is there. -/
theorem Sense.laidOut_inRange_iff (t1 t0 sq k2 k1 k0 n fl : Byte) (rest : List Byte) :
    (Sense.laidOut t1 t0 sq k2 k1 k0 n fl rest).inRange = true ↔
      (∀ j < n.toNat, (halfAt rest (2 * j)).toNat ≤ 4095) ∧
        (fl.getLsbD 1 = true → (halfAt rest (2 * n.toNat)).toNat ≤ 1023) ∧
        (fl.getLsbD 0 = true → (rest.getD (2 * n.toNat + if fl.getLsbD 1 then 2 else 0) 0).toNat ≤ 7) := by
  simp only [Sense.inRange, Sense.laidOut, Bool.and_eq_true, optionalField_all_le_iff, List.all_map, List.all_eq_true,
    List.mem_range, Function.comp_apply, decide_eq_true_eq, and_assoc]

/-- A packet with a count of 1..4 and the bytes its count and flags demand is judged by its ranges alone. -/
theorem readSense_of_fits {t1 t0 sq k2 k1 k0 n fl : Byte} {rest : List Byte} (hcount : 1 ≤ n.toNat ∧ n.toNat ≤ 4)
    (hlen : rest.length = senseTail n.toNat (fl.getLsbD 1) (fl.getLsbD 0)) :
    readSense (t1 :: t0 :: sq :: k2 :: k1 :: k0 :: n :: fl :: rest) =
      if (Sense.laidOut t1 t0 sq k2 k1 k0 n fl rest).inRange then some (Sense.laidOut t1 t0 sq k2 k1 k0 n fl rest)
      else none := by
  have hsamples : halves (rest.take (2 * n.toNat)) = (List.range n.toNat).map fun j => halfAt rest (2 * j) :=
    halves_take (by unfold senseTail at hlen; omega)
  have hlip : fl.getLsbD 1 = true →
      (halves ((rest.drop (2 * n.toNat)).take 2)).head? = some (halfAt rest (2 * n.toNat)) := fun hf =>
    head?_halves_drop (by rw [senseTail, if_pos hf] at hlen; omega)
  have hroller : fl.getLsbD 0 = true → (rest.drop (2 * n.toNat)).getLast? =
      some (rest.getD (2 * n.toNat + if fl.getLsbD 1 then 2 else 0) 0) := fun hf =>
    getLast?_drop_eq_getD (by rw [senseTail, if_pos hf] at hlen; exact hlen) (Nat.le_add_right _ _)
  have hfields : Sense.laidOut t1 t0 sq k2 k1 k0 n fl rest =
      { tag := half t1 t0
        sequence := sq
        keyWord := keySet k2 k1 k0
        samples := (halves (rest.take (2 * n.toNat))).map BitVec.toNat
        lip := if fl.getLsbD 1 then (halves ((rest.drop (2 * n.toNat)).take 2)).head?.map BitVec.toNat else none
        roller := if fl.getLsbD 0 then (rest.drop (2 * n.toNat)).getLast?.map BitVec.toNat else none } := by
    unfold Sense.laidOut
    congr 1
    · rw [hsamples, List.map_map]; rfl
    · split
      next hf => rw [hlip hf, Option.map_some]
      next => rfl
    · split
      next hf => rw [hroller hf, Option.map_some]
      next => rfl
  rw [hfields, readSense, if_pos ⟨hcount.1, hcount.2, hlen⟩]

/-- A packet too short to hold its flags fails the content check. -/
theorem readSense_of_short {fields : List Byte} (h : fields.length < 8) : readSense fields = none := by
  unfold readSense
  split
  · simp only [List.length_cons] at h; omega
  · rfl

/-- A SENSE packet passes the content check exactly when its count, its length and its ranges do (R2); then its fields
are those laid out. -/
theorem readSense_eq_some_iff (t1 t0 sq k2 k1 k0 n fl : Byte) (rest : List Byte) (p : Sense) :
    readSense (t1 :: t0 :: sq :: k2 :: k1 :: k0 :: n :: fl :: rest) = some p ↔
      (1 ≤ n.toNat ∧ n.toNat ≤ 4) ∧ rest.length = senseTail n.toNat (fl.getLsbD 1) (fl.getLsbD 0) ∧
        (Sense.laidOut t1 t0 sq k2 k1 k0 n fl rest).inRange = true ∧
        Sense.laidOut t1 t0 sq k2 k1 k0 n fl rest = p := by
  by_cases hfit : (1 ≤ n.toNat ∧ n.toNat ≤ 4) ∧ rest.length = senseTail n.toNat (fl.getLsbD 1) (fl.getLsbD 0)
  · obtain ⟨hcount, hlen⟩ := hfit
    rw [readSense_of_fits hcount hlen]
    simp [hcount, hlen]
  · have hnone : readSense (t1 :: t0 :: sq :: k2 :: k1 :: k0 :: n :: fl :: rest) = none :=
      if_neg fun ⟨h1, h4, hlen⟩ => hfit ⟨⟨h1, h4⟩, hlen⟩
    rw [hnone]
    exact ⟨nofun, fun ⟨hcount, hlen, _⟩ => absurd ⟨hcount, hlen⟩ hfit⟩

/-- SENSE delivers its packet while the collector link is up and in lock (R19, log 16). -/
theorem exec_sense (fields : List Byte) (s : State) :
    exec (.sense fields) s = .next (if s.receives .collector then s.deliverSense fields else s) := rfl

/-- A packet that fails the content check raises CORRUPT and does nothing else: it is never routed (R2). -/
theorem exec_sense_of_unread {s : State} {fields : List Byte} (hrecv : s.receives .collector = true)
    (hread : readSense fields = none) :
    exec (.sense fields) s = .next (s.raise (.corrupt .content .collector)) := by
  rw [exec_sense, if_pos hrecv, State.deliverSense, hread]

/-- Settles O40: each fault of R2 contradicts one part of what a packet that is read must meet. -/
theorem senseContentDiscards : Obligations.SenseContentDiscards := by
  unfold Obligations.SenseContentDiscards
  intro s t1 t0 sq k2 k1 k0 n fl rest short hrecv packet hasLip hasRoller sample lip roller demanded discard
  have hread_iff := readSense_eq_some_iff t1 t0 sq k2 k1 k0 n fl rest
  simp only [Sense.laidOut_inRange_iff] at hread_iff
  have hdiscard (hfault : ∀ p, readSense packet ≠ some p) : exec (.sense packet) s = .next discard :=
    exec_sense_of_unread hrecv (Option.eq_none_iff_forall_ne_some.mpr hfault)
  refine ⟨fun hshort => exec_sense_of_unread hrecv (readSense_of_short hshort), fun hcount => ?count,
    fun hlen => ?length, fun ⟨j, hj, hsample⟩ => ?sample, fun hflag hlip => ?lip, fun hflag hroller => ?roller,
    fun h1 h4 hlen hsamples hlip hroller => ?passes⟩
  case passes => exact (hread_iff _).mpr ⟨⟨h1, h4⟩, hlen, ⟨hsamples, hlip, hroller⟩, rfl⟩
  all_goals
    refine hdiscard fun p hread => ?_
    obtain ⟨hcounts, hlength, ⟨hsamples, hlips, hrollers⟩, _⟩ := (hread_iff p).mp hread
  case count => omega
  case length => exact hlen hlength
  case sample => exact absurd (hsamples j hj) (Nat.not_le.mpr hsample)
  case lip => exact absurd (hlips hflag) (Nat.not_le.mpr hlip)
  case roller => exact absurd (hrollers hflag) (Nat.not_le.mpr hroller)

end Sys2Proof.Machine

/-! The canonical key set of a key word (R24, R26), key by key. -/

namespace Sys2Proof.Machine

open Sys2Proof

/-- The reading of a position, told by its membership of the inversion set (R24). -/
theorem readsClosed_iff (pr : KeyProfile) (raw : KeySet) (pos : Fin 24) :
    readsClosed pr raw pos = true ↔
      if pr.inversion.getLsbD pos then raw.getLsbD pos = false else raw.getLsbD pos = true := by
  rw [readsClosed, bne_iff_ne]
  split
  next hinv => rw [hinv, ne_eq, Bool.not_eq_true]
  next hinv => rw [Bool.eq_false_of_not_eq_true hinv, ne_eq, Bool.not_eq_false]

/-- A position contributes a key when it reads closed and its map entry holds that key (R26). -/
def Contributes (pr : KeyProfile) (raw : KeySet) (pos k : Fin 24) : Prop :=
  readsClosed pr raw pos = true ∧ pr.map[pos] = some k

/-- The canonical key set with the contribution of one more position (R26). -/
def addPosition (pr : KeyProfile) (raw acc : KeySet) (pos : Fin 24) : KeySet :=
  if readsClosed pr raw pos then
    match pr.map[pos] with
    | some k => acc ||| (1#24 <<< k.val)
    | none => acc
  else acc

/-- The canonical key set takes the positions one after another. -/
theorem canonicalKeys_eq_foldl (pr : KeyProfile) (raw : KeySet) :
    canonicalKeys pr raw = (List.finRange 24).foldl (addPosition pr raw) 0 := rfl

/-- The set with one key added holds that key beside what it held. -/
theorem getLsbD_or_one_shift (acc : KeySet) (j k : Fin 24) :
    (acc ||| (1#24 <<< j.val)).getLsbD k = true ↔ acc.getLsbD k = true ∨ j = k := by
  have hbit : (1#24 <<< j.val).getLsbD k = decide (j = k) := by
    revert j k; decide
  rw [BitVec.getLsbD_or, hbit, Bool.or_eq_true, decide_eq_true_eq]

/-- One more position adds the key it contributes and nothing else. -/
theorem getLsbD_addPosition (pr : KeyProfile) (raw acc : KeySet) (pos k : Fin 24) :
    (addPosition pr raw acc pos).getLsbD k = true ↔ acc.getLsbD k = true ∨ Contributes pr raw pos k := by
  unfold addPosition Contributes
  split
  next hclosed =>
    split
    next j hmap => rw [getLsbD_or_one_shift, hmap, Option.some_inj, and_iff_right hclosed]
    next hmap => simp [hmap]
  next hopen => simp [hopen]

/-- After any run of positions the set holds what it held and what the positions of the run contribute. -/
theorem getLsbD_foldl_addPosition (pr : KeyProfile) (raw acc : KeySet) (ps : List (Fin 24)) (k : Fin 24) :
    (ps.foldl (addPosition pr raw) acc).getLsbD k = true ↔
      acc.getLsbD k = true ∨ ∃ pos ∈ ps, Contributes pr raw pos k := by
  induction ps generalizing acc with
  | nil => simp
  | cons pos ps ih =>
    rw [List.foldl_cons, ih, getLsbD_addPosition, List.exists_mem_cons_iff, or_assoc]

/-- Settles O49: the fold over all positions starts from the empty set, so it holds what some position contributes. -/
theorem canonicalKeysFollowProfile : Obligations.CanonicalKeysFollowProfile := by
  unfold Obligations.CanonicalKeysFollowProfile
  intro pr raw k
  calc (canonicalKeys pr raw).getLsbD k = true
      ↔ ∃ pos : Fin 24, Contributes pr raw pos k := by
        rw [canonicalKeys_eq_foldl, getLsbD_foldl_addPosition]
        simp
    _ ↔ _ := exists_congr fun pos => by rw [Contributes, readsClosed_iff, and_comm]

end Sys2Proof.Machine

/-! The lookup of a key set in a fingering table (R62, R63, R66): the most specific valid matching entry wins. -/

namespace Sys2Proof.Machine

open Sys2Proof

/-! ### One entry (R62) -/

/-- An entry takes part in a lookup when it is valid and agrees with the key set on every key of its care set (R62). -/
def Fingering.Meets (f : Fingering) (ks : KeySet) : Prop :=
  f.valid = true ∧ ∀ k : Fin 24, f.care.getLsbD k = true → ks.getLsbD k = f.pattern.getLsbD k

/-- Two key sets agree within a care set, told as words and key by key. -/
theorem xor_and_eq_zero_iff (ks pattern care : KeySet) :
    (ks ^^^ pattern) &&& care = 0#24 ↔
      ∀ k : Fin 24, care.getLsbD k = true → ks.getLsbD k = pattern.getLsbD k := by
  have hbit (i : Nat) : ((ks ^^^ pattern) &&& care).getLsbD i = false ↔
      (care.getLsbD i = true → ks.getLsbD i = pattern.getLsbD i) := by
    rw [BitVec.getLsbD_and, BitVec.getLsbD_xor]
    cases care.getLsbD i <;> simp
  constructor
  · intro h k
    rw [← hbit, h, BitVec.getLsbD_zero]
  · intro h
    apply BitVec.eq_of_getLsbD_eq
    intro i hi
    rw [BitVec.getLsbD_zero, hbit]
    exact h ⟨i, hi⟩

/-- The model's test of an entry. -/
theorem Fingering.valid_and_matchesSet_iff (f : Fingering) (ks : KeySet) :
    (f.valid && f.matchesSet ks) = true ↔ f.Meets ks := by
  rw [Bool.and_eq_true, Fingering.matchesSet, beq_iff_eq, Fingering.Meets]
  exact and_congr_right' (xor_and_eq_zero_iff ks f.pattern f.care)

/-- The specificity counts the keys of the care set, whichever way the keys are listed (R62). -/
theorem Fingering.specificity_eq_countP (f : Fingering) :
    f.specificity = (List.finRange 24).countP fun k => f.care.getLsbD k := by
  rw [Fingering.specificity, keyCount, ← List.map_coe_finRange_eq_range, List.countP_map]
  rfl

/-! ### The winner among some entries (R63) -/

/-- Entry i is preferred to entry j: it is more specific, or as specific and of no higher index (R63). -/
def Preferred (t : Vector Fingering 256) (i j : EntryIx) : Prop :=
  t[j].specificity < t[i].specificity ∨ (t[j].specificity = t[i].specificity ∧ i ≤ j)

/-- An entry is preferred to itself. -/
theorem Preferred.refl (t : Vector Fingering 256) (i : EntryIx) : Preferred t i i := .inr ⟨rfl, le_rfl⟩

/-- An entry preferred to a second is preferred to all that the second is preferred to. -/
theorem Preferred.trans {t : Vector Fingering 256} {i j k : EntryIx} (hij : Preferred t i j)
    (hjk : Preferred t j k) : Preferred t i k := by
  obtain hij | ⟨heq, hle⟩ := hij <;> obtain hjk | ⟨heq', hle'⟩ := hjk
  · exact .inl (hjk.trans hij)
  · exact .inl (heq' ▸ hij)
  · exact .inl (heq ▸ hjk)
  · exact .inr ⟨heq'.trans heq, hle.trans hle'⟩

/-- A best choice among some entries: nothing where none takes part, else one of them that takes part and is preferred
to all that do (R63). -/
def BestAmong (t : Vector Fingering 256) (ks : KeySet) (is : List EntryIx) : Option EntryIx → Prop
  | none => ∀ j ∈ is, ¬t[j].Meets ks
  | some i => i ∈ is ∧ t[i].Meets ks ∧ ∀ j ∈ is, t[j].Meets ks → Preferred t i j

section
variable {t : Vector Fingering 256} {ks : KeySet} {is : List EntryIx} {i b : EntryIx}

/-- A choice stays best beside one more entry when it is preferred to that entry or the entry takes no part. -/
theorem BestAmong.append_some (hbest : BestAmong t ks is (some b)) (hi : t[i].Meets ks → Preferred t b i) :
    BestAmong t ks (is ++ [i]) (some b) := by
  obtain ⟨hmem, hmeets, hpref⟩ := hbest
  exact ⟨List.mem_append_left _ hmem, hmeets,
    List.forall_mem_append.mpr ⟨hpref, List.forall_mem_singleton.mpr hi⟩⟩

/-- One more entry becomes the best choice when it takes part and is preferred to all before it that do. -/
theorem bestAmong_append_last (hi : t[i].Meets ks) (hpref : ∀ j ∈ is, t[j].Meets ks → Preferred t i j) :
    BestAmong t ks (is ++ [i]) (some i) :=
  ⟨List.mem_append_right _ (List.mem_singleton_self i), hi,
    List.forall_mem_append.mpr ⟨hpref, List.forall_mem_singleton.mpr fun _ => Preferred.refl t i⟩⟩

/-- To consider an entry above all before it keeps the choice best: where specificities are equal, the one chosen before
has the lower index (R63). -/
theorem BestAmong.append_considerEntry {best : Option EntryIx} (hbest : BestAmong t ks is best)
    (hlow : ∀ j ∈ is, j ≤ i) :
    BestAmong t ks (is ++ [i]) (considerEntry t ks best i) := by
  unfold considerEntry
  split
  next htest =>
    have hi : t[i].Meets ks := (Fingering.valid_and_matchesSet_iff _ _).mp htest
    cases best with
    | none => exact bestAmong_append_last hi fun j hj hmeets => absurd hmeets (hbest j hj)
    | some b =>
      have ⟨hmem, _, hpref⟩ := hbest
      dsimp only
      split
      next hmore =>
        exact bestAmong_append_last hi fun j hj hmeets => Preferred.trans (.inl hmore) (hpref j hj hmeets)
      next hnotMore =>
        obtain hless | hequal := (Nat.le_of_not_lt hnotMore).lt_or_eq
        · exact hbest.append_some fun _ => .inl hless
        · exact hbest.append_some fun _ => .inr ⟨hequal, hlow b hmem⟩
  next htest =>
    have hi : ¬t[i].Meets ks := mt (Fingering.valid_and_matchesSet_iff _ _).mpr htest
    cases best with
    | none => exact List.forall_mem_append.mpr ⟨hbest, List.forall_mem_singleton.mpr hi⟩
    | some b => exact hbest.append_some fun h => absurd h hi

/-- Entries considered by ascending index leave a best choice among them. -/
theorem bestAmong_foldl_considerEntry (hsorted : is.Pairwise (· < ·)) :
    BestAmong t ks is (is.foldl (considerEntry t ks) none) := by
  induction is using List.reverseRecOn with
  | nil => exact List.forall_mem_nil _
  | append_singleton is i ih =>
    obtain ⟨hsorted, _, hbelow⟩ := List.pairwise_append.mp hsorted
    rw [List.foldl_concat]
    exact (ih hsorted).append_considerEntry fun j hj => (hbelow j hj i (List.mem_singleton_self i)).le

end

/-- The lookup gives a best choice among all entries (R63). -/
theorem bestAmong_lookupEntry (t : Vector Fingering 256) (ks : KeySet) :
    BestAmong t ks (List.finRange 256) (lookupEntry t ks) :=
  bestAmong_foldl_considerEntry (List.pairwise_lt_finRange 256)

/-- The lookup finds nothing exactly when no entry takes part (R63). -/
theorem lookupEntry_eq_none_iff (t : Vector Fingering 256) (ks : KeySet) :
    lookupEntry t ks = none ↔ ∀ i : EntryIx, ¬t[i].Meets ks := by
  have hbest := bestAmong_lookupEntry t ks
  cases hfound : lookupEntry t ks with
  | none =>
    rw [hfound] at hbest
    exact iff_of_true rfl fun i => hbest i (List.mem_finRange i)
  | some i =>
    rw [hfound] at hbest
    obtain ⟨_, hmeets, _⟩ := hbest
    exact iff_of_false nofun fun hnone => hnone i hmeets

/-- The entry a lookup finds takes part and is preferred to every entry that does (R63). -/
theorem preferred_of_lookupEntry_eq_some {t : Vector Fingering 256} {ks : KeySet} {i : EntryIx}
    (hfound : lookupEntry t ks = some i) : t[i].Meets ks ∧ ∀ j : EntryIx, t[j].Meets ks → Preferred t i j := by
  have hbest := bestAmong_lookupEntry t ks
  rw [hfound] at hbest
  obtain ⟨_, hmeets, hpref⟩ := hbest
  exact ⟨hmeets, fun j => hpref j (List.mem_finRange j)⟩

/-- Settles O50: the fold over the entries keeps the best choice so far; the resolution is its entry's (R66). -/
theorem lookupPicksMostSpecific : Obligations.LookupPicksMostSpecific := by
  unfold Obligations.LookupPicksMostSpecific
  intro table ks meets specificity
  refine ⟨lookupEntry_eq_none_iff table ks, fun i hfound => ?winner, rfl⟩
  obtain ⟨hmeets, hpref⟩ := preferred_of_lookupEntry_eq_some hfound
  have hspecificity (j : EntryIx) : specificity table[j] = table[j].specificity :=
    table[j].specificity_eq_countP.symm
  refine ⟨hmeets, fun j hj => ?_⟩
  rw [hspecificity, hspecificity]
  exact hpref j hj

end Sys2Proof.Machine

/-! The values that follow a mask (R188): each bit set in the mask owns the two-byte field behind those of the bits
below it. -/

namespace Sys2Proof.Machine

open Sys2Proof

/-- The two-byte value that belongs to bit n of a mask (R188). -/
def maskedValue (mask : Nat → Bool) (bs : List Byte) (n : Nat) : Half :=
  halfAt bs (2 * (List.range n).countP mask)

/-- The bits that a mask names below n, in bit order, each with its value. -/
def maskedPairs (mask : Nat → Bool) (n : Nat) (bs : List Byte) : List (Nat × Half) :=
  ((List.range n).filter mask).map fun i => (i, maskedValue mask bs i)

/-- The members of a range that have a property, numbered in order: each gets the count of those below it. -/
theorem zip_filter_range {α : Type} (p : Nat → Bool) (f : Nat → α) (n : Nat) :
    ((List.range n).filter p).zip ((List.range ((List.range n).countP p)).map f) =
      ((List.range n).filter p).map fun i => (i, f ((List.range i).countP p)) := by
  induction n with
  | zero => rfl
  | succ n ih =>
    rw [List.range_succ, List.filter_append, List.countP_append]
    cases hp : p n with
    | false => simpa [hp] using ih
    | true =>
      have hone : [n].filter p = [n] ∧ [n].countP p = 1 := by simp [hp]
      rw [hone.1, hone.2, List.range_succ, List.map_append, List.map_append,
        List.zip_append (by simp [List.countP_eq_length_filter]), ih]
      rfl

/-- A run of bytes of the length that a mask demands is read as the pairs of the mask (R188). -/
theorem readMasked_of_fits {mask : Nat → Bool} {n : Nat} {bs : List Byte}
    (hlen : bs.length = 2 * (List.range n).countP mask) :
    readMasked mask n bs = some (maskedPairs mask n bs) := by
  have hhalves : halves bs = (List.range ((List.range n).countP mask)).map fun j => halfAt bs (2 * j) := by
    rw [← halves_take hlen.ge, ← hlen, List.take_length]
  rw [readMasked, if_pos (by rw [hlen, List.countP_eq_length_filter]), hhalves, zip_filter_range]
  rfl

/-- Some pair of a mask has a property exactly when a bit it names has it with its value. -/
theorem any_maskedPairs_iff (mask : Nat → Bool) (n : Nat) (bs : List Byte) (p : Nat × Half → Bool) :
    (maskedPairs mask n bs).any p = true ↔ ∃ i < n, mask i = true ∧ p (i, maskedValue mask bs i) = true := by
  simp only [maskedPairs, List.any_map, List.any_eq_true, List.mem_filter, List.mem_range, Function.comp_apply,
    and_assoc]

/-- The pairs of a mask of one bit more. -/
theorem maskedPairs_succ (mask : Nat → Bool) (n : Nat) (bs : List Byte) :
    maskedPairs mask (n + 1) bs =
      maskedPairs mask n bs ++ if mask n then [(n, maskedValue mask bs n)] else [] := by
  rw [maskedPairs, List.range_succ, List.filter_append, List.map_append]
  cases hn : mask n <;> simp [hn, maskedPairs]

end Sys2Proof.Machine

/-! The engine settings as numbers, and what a write of one or of several of them does (R163, R164). -/

namespace Sys2Proof.Machine

open Sys2Proof

/-! ### One setting -/

/-- Engine setting n of R163, from steal mode = 0 to notice interval = 4; steal mode as its code (R188). -/
def Engine.value (e : Engine) : Nat → Nat
  | 0 => e.stealMode.code
  | 1 => e.releaseTimeout
  | 2 => e.deadBand
  | 3 => e.stallTime
  | _ => e.noticeInterval

/-- The steal mode is told by its code. -/
theorem StealMode.eq_of_code_eq : ∀ {a b : StealMode}, a.code = b.code → a = b
  | .fixed, .fixed, _ => rfl
  | .rotating, .rotating, _ => rfl

/-- The steal mode that a code of R164 names has that code. -/
theorem StealMode.code_of_le_one {v : Nat} (hv : v ≤ 1) :
    (if v = 0 then StealMode.fixed else StealMode.rotating).code = v := by
  obtain rfl | rfl := Nat.le_one_iff_eq_zero_or_eq_one.mp hv <;> rfl

/-- A setting holds what was put there; of the steal mode, where that is a code. -/
theorem Engine.value_put_same (e : Engine) {n v : Nat} (hn : n < 5) (hcode : n = 0 → v ≤ 1) :
    (e.put n v).value n = v := by
  match n with
  | 0 => exact StealMode.code_of_le_one (hcode rfl)
  | 1 | 2 | 3 | 4 => rfl

/-- The other settings stay when one is put. -/
theorem Engine.value_put_ne (e : Engine) {m n : Nat} (v : Nat) (hm : m < 5) (hn : n < 5) (hne : n ≠ m) :
    (e.put m v).value n = e.value n := by
  match m, n with
  | 0, 0 | 1, 1 | 2, 2 | 3, 3 | 4, 4 => exact absurd rfl hne
  | 0, 1 | 0, 2 | 0, 3 | 0, 4 | 1, 0 | 1, 2 | 1, 3 | 1, 4 | 2, 0 | 2, 1
  | 2, 3 | 2, 4 | 3, 0 | 3, 1 | 3, 2 | 3, 4 | 4, 0 | 4, 1 | 4, 2 | 4, 3 => rfl

/-- The value written is the one named, brought within the range of R163. -/
theorem clampedEngine_eq (n : Nat) (v : Half) :
    clampedEngine n v = min (engineRange n).2.toNat (max (engineRange n).1.toNat v.toNat) := by
  have hrange : 0 ≤ (engineRange n).1 ∧ (engineRange n).1 ≤ (engineRange n).2 := by
    unfold engineRange; split <;> decide
  unfold clampedEngine clamp
  split
  · omega
  · split <;> omega

/-! ### All the settings a mask names -/

section
variable (mask : Nat → Bool) (bs : List Byte)

/-- The highest bit is written last (R164). -/
theorem Engine.applySettings_succ (e : Engine) (k : Nat) :
    e.applySettings (maskedPairs mask (k + 1) bs) =
      if mask k then (e.applySettings (maskedPairs mask k bs)).put k (clampedEngine k (maskedValue mask bs k))
      else e.applySettings (maskedPairs mask k bs) := by
  rw [maskedPairs_succ, Engine.applySettings, List.foldl_append]
  split <;> rfl

/-- Written in bit order, each setting named ends with its clamped value, and every other stays (R164). -/
theorem Engine.value_applySettings (e : Engine) {k n : Nat} (hk : k ≤ 5) (hn : n < 5) :
    (e.applySettings (maskedPairs mask k bs)).value n =
      if n < k ∧ mask n = true then clampedEngine n (maskedValue mask bs n) else e.value n := by
  induction k with
  | zero => simp [maskedPairs, Engine.applySettings]
  | succ k ih =>
    have ih := ih (by omega)
    rw [Engine.applySettings_succ]
    by_cases hnamed : mask k = true
    · rw [if_pos hnamed]
      by_cases heq : n = k
      · subst heq
        rw [if_pos ⟨Nat.lt_succ_self n, hnamed⟩, Engine.value_put_same _ hn]
        rintro rfl
        rw [clampedEngine_eq]
        exact Nat.min_le_left _ _
      · rw [Engine.value_put_ne _ _ (by omega) hn heq, ih]
        exact if_congr (and_congr_left' (by omega)) rfl rfl
    · rw [if_neg hnamed, ih]
      refine if_congr (and_congr_left fun hmask => ?_) rfl rfl
      have hne : n ≠ k := fun h => hnamed (h ▸ hmask)
      omega

/-- What a request of SET_ENGINE leaves in each setting (R164). -/
theorem Engine.value_applySettings_all (e : Engine) {n : Nat} (hn : n < 5) :
    (e.applySettings (maskedPairs mask 5 bs)).value n =
      if mask n then clampedEngine n (maskedValue mask bs n) else e.value n := by
  rw [Engine.value_applySettings _ _ _ le_rfl hn]
  exact if_congr (and_iff_right hn) rfl rfl

/-- The reply is CLAMPED when some value written differs from the value named (R164). -/
theorem engineClamped_iff (e : Engine) :
    engineClamped (maskedPairs mask 5 bs) = true ↔
      ∃ n < 5, mask n = true ∧
        (e.applySettings (maskedPairs mask 5 bs)).value n ≠ (maskedValue mask bs n).toNat := by
  rw [engineClamped, any_maskedPairs_iff]
  refine exists_congr fun n => and_congr_right fun hn => and_congr_right fun hnamed => ?_
  rw [Engine.value_applySettings_all _ _ _ hn, if_pos hnamed, bne_iff_ne]

/-- A request names an unknown steal mode when its mask names setting 0 and the code there is above 1 (R164). -/
theorem badStealMode_iff :
    badStealMode (maskedPairs mask 5 bs) = true ↔ mask 0 = true ∧ 1 < (maskedValue mask bs 0).toNat := by
  rw [badStealMode, any_maskedPairs_iff]
  simp only [Bool.and_eq_true, beq_iff_eq, decide_eq_true_eq]
  constructor
  · rintro ⟨_, _, hnamed, rfl, hcode⟩
    exact ⟨hnamed, hcode⟩
  · rintro ⟨hnamed, hcode⟩
    exact ⟨0, by decide, hnamed, rfl, hcode⟩

end

end Sys2Proof.Machine

/-! SET_ENGINE and READ_ENGINE (R164, R165). -/

namespace Sys2Proof.Machine

open Sys2Proof

/-! ### The two requests in a ready state -/

/-- A reply in a ready state (R160, R161). -/
theorem State.reply_ready {s : State} (h : s.Ready) (r : Request) (st : Status) (pl : List Byte) :
    State.reply { s with responder := { s.responder with waiting := true } } r st pl =
      s.answered r.id r.code st pl := by
  rw [State.reply_of_up (by exact State.up_of_receives h.1)]
  rfl

/-- SET_ENGINE that arrives in a ready state is carried out at once (R161). -/
theorem exec_setEngine_ready {s : State} (h : s.Ready) (id : Byte) (args : List Byte) :
    exec (.setEngine id args) s =
      .next (cmdSetEngine ⟨id, 0x14#8, args⟩ { s with responder := { s.responder with waiting := true } }) :=
  congrArg Host.Outcome.next (State.submit_ready h _)

/-- READ_ENGINE that arrives in a ready state is answered at once with the payload of R165 (R161). -/
theorem exec_readEngine_ready {s : State} (h : s.Ready) (id : Byte) :
    exec (.readEngine id []) s =
      .next (s.answered id 0x15#8 .ok (engineBytes s.responder.engine s.pool.rotation)) :=
  congrArg Host.Outcome.next ((State.submit_ready h _).trans (State.reply_ready h _ _ _))

/-- SET_ENGINE with a mask of the five settings and the bytes it demands: refused when it names an unknown steal mode,
else written (R164). -/
theorem exec_setEngine_of_fits {s : State} (h : s.Ready) (id : Byte) {m : Byte} {vs : List Byte}
    (hmask : m.toNat < 32) (hlen : vs.length = 2 * (List.range 5).countP m.getLsbD) :
    exec (.setEngine id (m :: vs)) s =
      .next (if badStealMode (maskedPairs m.getLsbD 5 vs) = true then s.answered id 0x14#8 .badArg []
        else (s.setEngine (s.responder.engine.applySettings (maskedPairs m.getLsbD 5 vs))).answered id 0x14#8
          (if engineClamped (maskedPairs m.getLsbD 5 vs) then .clamped else .ok) []) := by
  rw [exec_setEngine_ready h]
  simp only [cmdSetEngine, readMasked_of_fits hlen]
  by_cases hbad : badStealMode (maskedPairs m.getLsbD 5 vs) = true
  · rw [if_pos (.inr hbad), if_pos hbad, State.refuse_ready h]
  · rw [if_neg (not_or.mpr ⟨Nat.not_le.mpr hmask, hbad⟩), if_neg hbad]
    exact congrArg _ (State.reply_ready (s := s.setEngine (s.responder.engine.applySettings _)) h _ _ _)

/-- SET_ENGINE leaves the pool as it stands, refused or not (R165). -/
theorem cmdSetEngine_pool (r : Request) (s : State) : (cmdSetEngine r s).pool = s.pool := by
  unfold cmdSetEngine
  split
  · split
    · simp
    · split <;> simp
  · simp

/-! ### What the requests do -/

/-- Settles O18: the settings are written by their numbers, so each field is the case of one number. -/
theorem setEngineWritesSettings : Obligations.SetEngineWritesSettings := by
  unfold Obligations.SetEngineWritesSettings
  intro id m vs s hready hmask hlen named value old
  rw [exec_setEngine_of_fits hready id hmask hlen]
  have hbad := badStealMode_iff m.getLsbD vs
  refine ⟨fun hnamed hcode => by rw [if_pos (hbad.mpr ⟨hnamed, hcode⟩)], fun hcode => ?_⟩
  rw [if_neg (mt hbad.mp fun ⟨hnamed, habove⟩ => Nat.not_lt.mpr (hcode hnamed) habove)]
  have hwritten (n : Nat) (hn : n < 5) :
      (old.applySettings (maskedPairs m.getLsbD 5 vs)).value n =
        if named n then min (engineRange n).2.toNat (max (engineRange n).1.toNat (value n)) else old.value n := by
    rw [Engine.value_applySettings_all _ _ _ hn, clampedEngine_eq]
    rfl
  have hmode (hnamed : named 0 = true) :
      (old.applySettings (maskedPairs m.getLsbD 5 vs)).value 0 = value 0 :=
    calc _ = min 1 (max 0 (value 0)) := (hwritten 0 (by decide)).trans (if_pos hnamed)
      _ = value 0 := by rw [Nat.zero_max, Nat.min_eq_right (hcode hnamed)]
  refine ⟨_, _, rfl, ?mode, hwritten 1 (by decide), ?band, hwritten 3 (by decide), hwritten 4 (by decide),
    ite_eq_or_eq _ _ _, ?clamped⟩
  case mode =>
    apply StealMode.eq_of_code_eq
    split
    next hnamed => rw [StealMode.code_of_le_one (hcode hnamed)]; exact hmode hnamed
    next hnot => exact (hwritten 0 (by decide)).trans (if_neg hnot)
  case band =>
    refine (hwritten 2 (by decide)).trans (if_congr Iff.rfl ?_ rfl)
    exact congrArg _ (Nat.zero_max _)
  case clamped =>
    have hstatus : Status.clamped ≠ .ok := by decide
    refine hstatus.ite_eq_left_iff.trans ((engineClamped_iff m.getLsbD vs old).trans ⟨?_, ?_⟩)
    · rintro ⟨n, hn, hnamed, hne⟩
      match n with
      | 0 => exact absurd (hmode hnamed) hne
      | 1 => exact .inl ⟨hnamed, hne⟩
      | 2 => exact .inr (.inl ⟨hnamed, hne⟩)
      | 3 => exact .inr (.inr (.inl ⟨hnamed, hne⟩))
      | 4 => exact .inr (.inr (.inr ⟨hnamed, hne⟩))
    · rintro (⟨hnamed, hne⟩ | ⟨hnamed, hne⟩ | ⟨hnamed, hne⟩ | ⟨hnamed, hne⟩)
      · exact ⟨1, by decide, hnamed, hne⟩
      · exact ⟨2, by decide, hnamed, hne⟩
      · exact ⟨3, by decide, hnamed, hne⟩
      · exact ⟨4, by decide, hnamed, hne⟩

/-- Settles O19: the payload is the model's, byte by byte, and SET_ENGINE leaves the whole pool. -/
theorem readEngineReports : Obligations.ReadEngineReports := by
  unfold Obligations.ReadEngineReports
  intro id s hready
  refine ⟨?report, fun args t hstep => ?pointer⟩
  case report =>
    dsimp only
    rw [exec_readEngine_ready hready, engineBytes]
    cases s.responder.engine.stealMode <;> rfl
  case pointer =>
    rw [exec_setEngine_ready hready] at hstep
    cases hstep
    rw [cmdSetEngine_pool]

end Sys2Proof.Machine

/-! The notice unit's line, a raised event's latch and NOTICE, and CLEAR_NOTICES against a mark (R175 to R179). -/

namespace Sys2Proof.Machine

open Sys2Proof

/-! ### The notice line (R177) -/

/-- R177's condition of the notice line, read off the unit. -/
theorem NoticeUnit.line_iff (n : NoticeUnit) :
    n.line = true ↔ n.masterEnable = true ∧
      ∃ l : LatchIx, n.latches[l].first ≠ none ∧ n.lineEnable.getLsbD l = true := by
  simp [NoticeUnit.line, Latch.isSet, Option.isSome_iff_ne_none]

/-! ### A raised event (R175, R178) -/

/-- An event makes a NOTICE owed only while its latch is clear (R175). -/
theorem NoticeUnit.owes_eq (n : NoticeUnit) (c : Capture) :
    n.owes c = (n.latches[c.latch].first.isNone && n.masterEnable && n.packetEnable.getLsbD c.latch) := by
  rw [NoticeUnit.owes, Latch.isSet, Option.not_isSome]

/-- A raise that produces no NOTICE: the latch takes the event, and a NOTICE that becomes owed is marked so. -/
theorem State.raise_of_not_produced {s : State} {c : Capture}
    (h : s.notices.owes c = false ∨ s.notices.timer ≠ none) :
    s.raise c =
      { s with notices := { s.notices.strike c with owed := s.notices.owed || s.notices.owes c } } := by
  rcases s.raise_cases c with ⟨howes, hraise⟩ | ⟨howes, -, hraise⟩ | ⟨howes, htimer, -⟩
  · rw [hraise, howes, Bool.or_false]
    rfl
  · rw [hraise, howes, Bool.or_true]
  · exact absurd h (by simp [howes, htimer])

/-- A raise that produces a NOTICE at once (R178). -/
theorem State.raise_of_produced {s : State} {c : Capture} (howes : s.notices.owes c = true)
    (htimer : s.notices.timer = none) :
    s.raise c =
      { s with
        notices := { (s.notices.strike c).report with timer := some s.responder.engine.noticeInterval }
        collector := s.collector.push (s.notices.strike c).noticePacket } := by
  rcases s.raise_cases c with ⟨hnot, -⟩ | ⟨-, hruns, -⟩ | ⟨-, -, hraise⟩
  · simp [howes] at hnot
  · exact absurd htimer hruns
  · exact hraise

/-- A raise touches the notice unit and the packets upstream, and leaves the enables (R175). -/
theorem State.raise_leaves (s : State) (c : Capture) :
    s.raise c = { s with notices := (s.raise c).notices, collector := (s.raise c).collector } ∧
      (s.raise c).notices.lineEnable = s.notices.lineEnable ∧
      (s.raise c).notices.packetEnable = s.notices.packetEnable ∧
      (s.raise c).notices.masterEnable = s.notices.masterEnable := by
  rcases s.raise_cases c with ⟨-, h⟩ | ⟨-, -, h⟩ | ⟨-, -, h⟩ <;> simp [h]

/-- Settles O10: every clause about a latch is about the unit after the event was taken, before any report clears
the new flags; the two cases are a raise that produces no NOTICE and one that does. -/
theorem raisedEventIsLatched : Obligations.RaisedEventIsLatched := by
  unfold Obligations.RaisedEventIsLatched
  intro s c n t owes after
  have hafter (l : LatchIx) : (n.strike c).latches[l] = after l := by
    rw [NoticeUnit.latch_strike]
    dsimp only [after]
    by_cases hl : l = c.latch
    · subst hl
      rw [if_pos rfl, if_pos rfl, Latch.isSet]
      cases n.latches[c.latch].first <;> rfl
    · rw [if_neg hl, if_neg (Ne.symm hl)]
  have howes : n.owes c = owes := n.owes_eq c
  obtain ⟨hframe, hline, hpacket, hmaster⟩ := s.raise_leaves c
  obtain ⟨hnumber, -, -, -, htimer, howed⟩ := n.strike_fields c
  refine ⟨hframe, hline, hpacket, hmaster, ?line, fun hquiet => ?quiet, fun hnow hstopped => ?produced⟩
  case line =>
    rw [show t.notices.lineLow = t.notices.line from s.raise_lineLaw c, NoticeUnit.line_iff, hline, hmaster]
  case quiet =>
    have ht : t = _ := State.raise_of_not_produced (howes ▸ hquiet)
    rw [ht]
    exact ⟨hafter, congrArg (n.owed || ·) howes, htimer, hnumber, rfl⟩
  case produced =>
    have ht : t = _ := State.raise_of_produced (howes.trans hnow) hstopped
    rw [ht]
    refine ⟨fun l => ?_, howed, rfl, congrArg (· + 1) hnumber, (n.strike c).setLatches, (n.strike c).newCaptures,
      ?_, fun l => ?_, ?_⟩
    · exact ((n.strike c).latch_report l).trans (by rw [hafter])
    · rw [NoticeUnit.noticePacket, hnumber]
      rfl
    · rw [NoticeUnit.getLsbD_setLatches, hafter, Latch.isSet]
    · simp only [NoticeUnit.newCaptures, hafter]
      exact .refl _

/-! ### CLEAR_NOTICES (R179) -/

/-- A mark is earlier than another when the distance forward to it lies in 1..32767 (R1). -/
theorem earlier_iff (a b : Half) : earlier a b = true ↔ 1 ≤ (b - a).toNat ∧ (b - a).toNat ≤ 32767 := by
  simp [earlier]

/-- A latch after CLEAR_NOTICES: one it clears keeps its last mark alone, the others are as they were (R179). -/
theorem NoticeUnit.latch_clearAgainst (n : NoticeUnit) (m : Half) (ls : LatchSet) (l : LatchIx) :
    (n.clearAgainst m ls).latches[l] =
      if n.clears m ls l then { lastMark := n.latches[l].lastMark } else n.latches[l] := by
  simp [NoticeUnit.clearAgainst, NoticeUnit.evalLine]

/-- CLEAR_NOTICES changes the latches and the line alone (R179). -/
theorem NoticeUnit.clearAgainst_fields (n : NoticeUnit) (m : Half) (ls : LatchSet) :
    (n.clearAgainst m ls).reportNumber = n.reportNumber ∧ (n.clearAgainst m ls).lineEnable = n.lineEnable ∧
      (n.clearAgainst m ls).packetEnable = n.packetEnable ∧ (n.clearAgainst m ls).masterEnable = n.masterEnable ∧
      (n.clearAgainst m ls).timer = n.timer ∧ (n.clearAgainst m ls).owed = n.owed := by
  simp [NoticeUnit.clearAgainst, NoticeUnit.evalLine]

/-- After CLEAR_NOTICES the line stands as R177 gives it. -/
theorem NoticeUnit.lineLow_clearAgainst (n : NoticeUnit) (m : Half) (ls : LatchSet) :
    (n.clearAgainst m ls).lineLow = (n.clearAgainst m ls).line := rfl

/-- CLEAR_NOTICES passes over a latch that is not named or is clear (R179). -/
theorem NoticeUnit.clears_keeps_of_passed (n : NoticeUnit) (m : Half) {ls : LatchSet} {l : LatchIx}
    (h : ls.getLsbD l = false ∨ n.latches[l].first = none) :
    n.clears m ls l = false ∧ n.keeps m ls l = false := by
  have htaken : (ls.getLsbD l && n.latches[l].isSet) = false := by
    rcases h with hunnamed | hclear
    · rw [hunnamed, Bool.false_and]
    · rw [Latch.isSet, hclear, Option.isSome_none, Bool.and_false]
  rw [NoticeUnit.clears, NoticeUnit.keeps, htaken, Bool.false_and, Bool.false_and]
  exact ⟨rfl, rfl⟩

/-- A latch that is named and set is cleared or kept by its last mark alone (R179). -/
theorem NoticeUnit.clears_keeps_of_taken (n : NoticeUnit) (m : Half) {ls : LatchSet} {l : LatchIx}
    (hnamed : ls.getLsbD l = true) (hset : n.latches[l].first ≠ none) :
    n.clears m ls l = earlier n.latches[l].lastMark m ∧
      n.keeps m ls l = !earlier n.latches[l].lastMark m := by
  have htaken : (ls.getLsbD l && n.latches[l].isSet) = true := by
    rw [hnamed, Latch.isSet, Option.isSome_iff_ne_none.mpr hset, Bool.true_and]
  rw [NoticeUnit.clears, NoticeUnit.keeps, htaken, Bool.true_and, Bool.true_and]
  exact ⟨rfl, rfl⟩

/-- CLEAR_NOTICES that arrives in a ready state is carried out and answered at once with the kept latches (R161,
R179). -/
theorem exec_clearNotices_ready {s : State} (h : s.Ready) (id m1 m0 l1 l0 : Byte) :
    exec (.clearNotices id [m1, m0, l1, l0]) s =
      .next (State.answered { s with notices := s.notices.clearAgainst (half m1 m0) (half l1 l0) } id 0x02#8 .ok
        (halfBytes (s.notices.keptLatches (half m1 m0) (half l1 l0)))) :=
  congrArg Host.Outcome.next <| (State.submit_ready h _).trans <|
    State.reply_ready (s := { s with notices := s.notices.clearAgainst (half m1 m0) (half l1 l0) }) h
      ⟨id, 0x02#8, [m1, m0, l1, l0]⟩ .ok (halfBytes (s.notices.keptLatches (half m1 m0) (half l1 l0)))

/-- Settles O12: a latch of the set is passed over, cleared or kept, and the case decides its state and its bit of the
reply together. -/
theorem clearNoticesAgainstMark : Obligations.ClearNoticesAgainstMark := by
  unfold Obligations.ClearNoticesAgainstMark
  intro id m1 m0 l1 l0 s hready
  obtain ⟨hnumber, hline, hpacket, hmaster, htimer, howed⟩ :=
    s.notices.clearAgainst_fields (half m1 m0) (half l1 l0)
  refine ⟨s.notices.clearAgainst (half m1 m0) (half l1 l0), s.notices.keptLatches (half m1 m0) (half l1 l0),
    exec_clearNotices_ready hready id m1 m0 l1 l0, fun l => ?_, ?line, hnumber, hline, hpacket, hmaster, htimer,
    howed⟩
  case line => rw [NoticeUnit.lineLow_clearAgainst, NoticeUnit.line_iff, hmaster, hline]
  intro was distance
  rw [NoticeUnit.latch_clearAgainst, NoticeUnit.getLsbD_keptLatches]
  refine ⟨fun hpassed => ?_, fun hnamed hset hnear => ?_, fun hnamed hset hfar => ?_⟩
  · obtain ⟨hclears, hkeeps⟩ := s.notices.clears_keeps_of_passed (half m1 m0) hpassed
    exact ⟨if_neg (Bool.eq_false_iff.mp hclears), hkeeps⟩
  · obtain ⟨hclears, hkeeps⟩ := s.notices.clears_keeps_of_taken (half m1 m0) hnamed hset
    have hearlier : earlier was.lastMark (half m1 m0) = true := (earlier_iff _ _).mpr hnear
    exact ⟨if_pos (hclears.trans hearlier), hkeeps.trans (congrArg not hearlier)⟩
  · obtain ⟨hclears, hkeeps⟩ := s.notices.clears_keeps_of_taken (half m1 m0) hnamed hset
    have hlater : earlier was.lastMark (half m1 m0) = false := Bool.eq_false_iff.mpr (mt (earlier_iff _ _).mp hfar)
    exact ⟨if_neg (Bool.eq_false_iff.mp (hclears.trans hlater)), hkeeps.trans (congrArg not hlater)⟩

end Sys2Proof.Machine

/-! Everything a request, a link event and a command can come to, said once each: the proofs about every step go
through these lists and unfold no command again. -/

namespace Sys2Proof.Machine

open Sys2Proof

/-! ### What carrying out a request comes to (R159) -/

/-- The states that carrying out a request r in s can answer, each with what its checks have established. -/
inductive Answer (r : Request) (s : State) : State → Prop where
  /-- A refusal, a report or a request with no effect: the reply alone. -/
  | reply (st : Status) (pl : List Byte) : Answer r s (s.reply r st pl)
  | status (pl : List Byte) : Answer r s (State.reply { s with notices := s.notices.report } r .ok pl)
  | clear (m : Half) (ls : LatchSet) (pl : List Byte) :
      Answer r s (State.reply { s with notices := s.notices.clearAgainst m ls } r .ok pl)
  | enable (ls ps : LatchSet) (master : Bool) :
      Answer r s (State.reply { s with notices := s.notices.enable ls ps master } r .ok [])
  | bind (i : SlotIx) (t : Half) (hzero : t ≠ 0#16) (hones : t ≠ 0xFFFF#16) (hfree : s.tagInUse i t = false) :
      Answer r s ((s.bind i t).reply r .ok [])
  | unbind (i : SlotIx) (hbound : (s.slot i).phase ≠ .unbound) : Answer r s ((s.unbind i).reply r .ok [])
  | settings (i : SlotIx) (ps : List (Nat × Half)) (st : Status) :
      Answer r s ((s.modSlot i fun x => x.applySettings ps).reply r st [])
  | engine (ps : List (Nat × Half)) (st : Status) :
      Answer r s ((s.setEngine (s.responder.engine.applySettings ps)).reply r st [])
  | write (w : TableWrite) (b : BankIx) (hread : readTableWrite r.args = some w)
      (hstaging : s.store.stagingBank = some b) (hidle : s.store.work = []) :
      Answer r s ((s.writeBank b w.first w.entries).reply r .ok [])
  | readTable (pl : List Byte) : Answer r s (s.advanceCopy.reply r .ok pl)
  | work (k : WorkKind) (hfree : s.store.workRefusal = none) :
      Answer r s ((s.reply r .queued []).queueWork ⟨k, r.id⟩)
  | abort (w : Work) (ws : List Work) (hwork : s.store.work = w :: ws) (pl : List Byte) :
      Answer r s ((s.abandonWork.push (.completion w.id w.kind s.store.workBank (some .aborted))).reply r .ok pl)
  | panic : Answer r s ((s.voiceFlush true).reply r .ok [])
  | restart : Answer r s (s.warmRestart.reply r .ok [])

section
variable (r : Request) (s : State)

theorem answer_bindSlot : Answer r s (cmdBindSlot r s) := by
  unfold cmdBindSlot
  split
  · split
    · exact .reply ..
    · dsimp only
      split
      · exact .reply ..
      next htag =>
        split
        · exact .reply ..
        next hfree => exact .bind _ _ (mt .inl htag) (mt .inr htag) (Bool.eq_false_of_not_eq_true hfree)
  · exact .reply ..

theorem answer_unbindSlot : Answer r s (cmdUnbindSlot r s) := by
  unfold cmdUnbindSlot
  split
  · split
    · exact .reply ..
    · split
      · exact .reply ..
      next hbound => exact .unbind _ hbound
  · exact .reply ..

theorem answer_writeTable : Answer r s (cmdWriteTable r s) := by
  unfold cmdWriteTable
  split
  · exact .reply ..
  next hread =>
    split
    · exact .reply ..
    next hstaging =>
      split
      next hidle => exact .write _ _ hread hstaging (List.isEmpty_iff.mp hidle)
      · exact .reply ..

theorem answer_readTable : Answer r s (cmdReadTable r s) := by
  unfold cmdReadTable
  split
  · split
    · exact .reply ..
    · split
      · split
        · exact .reply ..
        · split
          · exact .reply ..
          · dsimp only
            split
            · exact .readTable _
            · exact .reply ..
      · exact .reply ..
  · exact .reply ..

theorem answer_requestWork (k : WorkKind) : Answer r s (requestWork k r s) := by
  unfold requestWork
  split
  · split
    · exact .reply ..
    next hfree => exact .work k hfree
  · exact .reply ..

theorem answer_abortWork : Answer r s (cmdAbortWork r s) := by
  unfold cmdAbortWork
  split
  · split
    · exact .reply ..
    next hwork => exact .abort _ _ hwork _
  · exact .reply ..

/-- Carrying out a request answers one of the states of the list, whatever its code and its arguments. -/
theorem carryOut_answer : Answer r s (carryOut r s) := by
  unfold carryOut
  split
  · unfold cmdStatus; split
    · exact .status _
    · exact .reply ..
  · unfold cmdClearNotices; split
    · exact .clear ..
    · exact .reply ..
  · unfold cmdSetNotices; split
    · split
      · exact .enable ..
      · exact .reply ..
    · exact .reply ..
  · unfold cmdReadCapture; (repeat' split) <;> exact .reply ..
  · exact answer_bindSlot r s
  · exact answer_unbindSlot r s
  · unfold cmdSetSlot; split
    · split
      · exact .settings ..
      · exact .reply ..
    · exact .reply ..
  · unfold cmdReadSlot; (repeat' split) <;> exact .reply ..
  · unfold cmdSetEngine; split
    · split
      · exact .reply ..
      · split
        · exact .reply ..
        · exact .engine ..
    · exact .reply ..
  · unfold cmdReadEngine; split <;> exact .reply ..
  · exact answer_writeTable r s
  · exact answer_readTable r s
  · exact answer_requestWork r s .copyLive
  · exact answer_requestWork r s .commit
  · exact answer_abortWork r s
  · unfold cmdReadVoices; (repeat' split) <;> exact .reply ..
  · unfold cmdPanic; split
    · exact .panic
    · exact .reply ..
  · unfold cmdRestart; split
    · exact .restart
    · exact .reply ..
  · exact .reply ..

end

/-! ### What a link comes to (R184) -/

/-- One move of a receiver or its link. -/
inductive LinkMove : State → State → Prop where
  | receiver (s : State) (l : Link) (x : Receiver) : LinkMove s (s.setReceiver l x)
  | down (s : State) : LinkMove s s.collectorDown
  | up (s : State) (hdown : s.collector.up = false) : LinkMove s s.collectorUp
  | attach (s : State) : LinkMove s s.attach
  | detach (s : State) : LinkMove s s.detach
  | cut (s : State) (l : Link) : LinkMove s (s.raise (.corrupt .length l))

/-- Any number of moves of the receivers and their links. -/
abbrev LinkMoves : State → State → Prop := Relation.ReflTransGen LinkMove

theorem State.endPacket_moves (s : State) (l : Link) : LinkMoves s (s.endPacket l) :=
  .single (.receiver s l _)

theorem State.lineDown_moves (s : State) (l : Link) : LinkMoves s (s.lineDown l) := by
  unfold State.lineDown
  split
  · cases l
    · exact (s.endPacket_moves .collector).tail (.down _)
    · exact (s.endPacket_moves .voice).tail (.detach _)
  · exact .refl

theorem State.lineUp_moves (s : State) (l : Link) : LinkMoves s (s.lineUp l) := by
  unfold State.lineUp
  split
  · unfold State.raiseIf
    split
    · exact (s.endPacket_moves l).tail (.cut _ _)
    · exact s.endPacket_moves l
  next hdown =>
    cases l
    · exact (s.endPacket_moves .collector).tail
        (.up _ (by simpa [State.linkUp] using hdown))
    · exact (s.endPacket_moves .voice).tail (.attach _)

theorem State.hear_moves (l : Link) (s : State) (x : Reading) : LinkMoves s (State.hear l s x) := by
  have hread : LinkMoves s (s.setReceiver l ((s.receiver l).read x)) := .single (.receiver ..)
  unfold State.hear
  dsimp only
  split
  · exact hread
  · have hdown : LinkMoves s
        (if lossSymbols ≤ (s.receiver l).lockless + (s.receiver l).elapsed x then
          (s.setReceiver l ((s.receiver l).read x)).lineDown l
        else s.setReceiver l ((s.receiver l).read x)) := by
      split
      · exact hread.trans (State.lineDown_moves _ l)
      · exact hread
    split
    · exact hdown.trans (State.lineUp_moves _ l)
    · exact hdown

theorem State.hearAll_moves (s : State) (l : Link) (xs : List Reading) : LinkMoves s (s.hearAll l xs) := by
  induction xs generalizing s with
  | nil => exact .refl
  | cons x xs ih => exact (State.hear_moves l s x).trans (ih _)

theorem State.packetCut_moves (s : State) (l : Link) (xs : List Reading) : LinkMoves s (s.packetCut l xs) := by
  have hstart : LinkMoves s
      (if s.receives l then s.setReceiver l { s.receiver l with packet := .inside } else s) := by
    split
    · exact .single (.receiver ..)
    · exact .refl
  have hend (t : State) :
      LinkMoves t (if (t.receiver l).packet = .inside then t.endPacket l else t) := by
    split
    · exact t.endPacket_moves l
    · exact .refl
  exact (hstart.trans (State.hearAll_moves _ l xs)).trans (hend _)

/-! ### What a command comes to -/

/-- The states that a command can answer, each with what its checks have established. -/
inductive Happens (s : State) : State → Prop where
  | nothing : Happens s s
  | powerOn : Happens s { State.reset with pending := s.pending, freeCount := s.freeCount }
  /-- A packet that is discarded by its content or its envelope, or that belongs to no slot (R3, R185). -/
  | discard (c : Capture) : Happens s (s.raise c)
  | sense (fields : List Byte) (p : Sense) (i : SlotIx) (hread : readSense fields = some p)
      (hroute : s.route p.tag = some i) : Happens s (s.takePacket i p)
  | joins (r : Request) (hup : s.collector.up = true) (hroom : s.responder.requests.length < 4)
      (hnext : s.responder.waiting = true ∨ s.responder.requests ++ [r] = []) :
      Happens s { s with responder := { s.responder with requests := s.responder.requests ++ [r] } }
  /-- A request that arrives at an idle responder: the one at the head of the list is taken (R161). -/
  | served (r x : Request) (rest : List Request) (hup : s.collector.up = true)
      (hroom : s.responder.requests.length < 4) (hidle : s.responder.waiting = false)
      (hlist : s.responder.requests ++ [r] = x :: rest) :
      Happens s (carryOut x { s with responder := { s.responder with requests := rest, waiting := true } })
  /-- A reply has been sent and no request waits (R161). -/
  | idles (p : Upstream) (rest : List Upstream) (himmediate : p.isImmediate = true)
      (hhead : s.collector.upstream = p :: rest) (hnone : s.responder.requests = []) :
      Happens s
        { s with
          collector := { s.collector with upstream := rest }
          responder := { s.responder with waiting := false } }
  /-- A reply has been sent and the request that waits longest is taken (R161). -/
  | takes (p : Upstream) (rest : List Upstream) (x : Request) (xs : List Request)
      (himmediate : p.isImmediate = true) (hhead : s.collector.upstream = p :: rest)
      (hlist : s.responder.requests = x :: xs) :
      Happens s (carryOut x
        { s with
          collector := { s.collector with upstream := rest }
          responder := { s.responder with requests := xs, waiting := true } })
  | sent (p : Upstream) (rest : List Upstream) (himmediate : p.isImmediate = false)
      (hhead : s.collector.upstream = p :: rest) :
      Happens s { s with collector := { s.collector with upstream := rest } }
  | lossExpiry (i : SlotIx) : Happens s (s.lossExpiry i)
  | releaseExpiry (v : VoiceIx) : Happens s (s.releaseExpiry v)
  | stallExpiry : Happens s s.stallExpiry
  | noticeInterval : Happens s s.noticeInterval
  | copyCompletes : Happens s s.copyCompletes
  | verificationCompletes : Happens s s.verificationCompletes
  | transmit : Happens s s.transmit
  | grant (n : Nat) (hattached : s.port.attached = true) : Happens s (s.addCredit n)
  | freed (v : VoiceIx) (g : Byte) : Happens s (s.freedReport v g)
  /-- The receiver of a link reads groups, with or without a packet arriving (R184). -/
  | hears (l : Link) (xs : List Reading) : Happens s (s.hearAll l xs)
  | cut (l : Link) (xs : List Reading) : Happens s (s.packetCut l xs)

section
variable (s : State)

theorem State.submit_happens (r : Request) : Happens s (s.submit r) := by
  unfold State.submit
  split
  next hrecv =>
    have hup := State.up_of_receives hrecv
    split
    · exact .nothing
    next hroom =>
      have hroom : s.responder.requests.length < 4 := Nat.lt_of_not_le hroom
      unfold State.serve
      split
      next x rest hidle hlist => exact .served r x rest hup hroom hidle hlist
      next hnot =>
        refine .joins r hup hroom ?_
        cases hw : s.responder.waiting with
        | true => exact .inl rfl
        | false =>
          cases hl : s.responder.requests ++ [r] with
          | nil => exact .inr rfl
          | cons x rest => exact absurd hl (hnot x rest hw)
  · exact .nothing

theorem State.deliverManage_happens (fields : List Byte) : Happens s (s.deliverManage fields) := by
  unfold State.deliverManage
  split
  · exact .discard _
  · exact s.submit_happens _

theorem State.deliverSense_happens (fields : List Byte) : Happens s (s.deliverSense fields) := by
  unfold State.deliverSense
  split
  · exact .discard _
  next hread =>
    split
    · exact .discard _
    next hroute => exact .sense fields _ _ hread hroute

theorem State.deliverGrant_happens (fields : List Byte) (h : s.port.attached = true) :
    Happens s (s.deliverGrant fields) := by
  unfold State.deliverGrant
  split
  · split
    · exact .grant _ h
    · exact .discard _
  · exact .discard _

theorem State.deliverFreed_happens (fields : List Byte) : Happens s (s.deliverFreed fields) := by
  unfold State.deliverFreed
  split
  · split
    · exact .freed ..
    · exact .discard _
  · exact .discard _

theorem State.replySent_happens : Happens s s.replySent := by
  unfold State.replySent
  split
  next id code st pl rest hhead =>
    unfold State.serve
    dsimp only
    split
    next x xs _ hlist => exact .takes _ rest x xs rfl hhead hlist
    next hnot =>
      cases hl : s.responder.requests with
      | nil => exact hl ▸ .idles _ rest rfl hhead hl
      | cons x xs => exact absurd hl (hnot x xs rfl)
  · exact .nothing

theorem State.upstreamSent_happens : Happens s s.upstreamSent := by
  unfold State.upstreamSent
  split
  next hhead => exact .sent _ _ rfl hhead
  next hhead => exact .sent _ _ rfl hhead
  · exact .nothing

end

/-- A class code that is accepted on the collector link is that of SENSE or of MANAGE, one accepted on the voice link
that of GRANT or of FREED (R185). -/
theorem classAccepted_iff (l : Link) (c : Byte) :
    classAccepted l c = true ↔
      match l with
      | .collector => c = 0x21#8 ∨ c = 0x22#8
      | .voice => c = 0x51#8 ∨ c = 0x52#8 := by
  cases l <;> simp [classAccepted]

/-- A packet that passes the envelope checks is of a class that its link accepts (R185). -/
theorem classAccepted_of_passes {l : Link} {bytes : List Byte} (h : envelopeFault l bytes = none) :
    classAccepted l (bytes.getD 0 0) = true := by
  unfold envelopeFault at h
  split at h
  · cases h
  · split at h
    · cases h
    · split at h
      next hclass => exact hclass
      · cases h

theorem State.receive_happens (s : State) (l : Link) (bytes : List Byte) (hrecv : s.receives l = true) :
    Happens s (s.receive l bytes) := by
  unfold State.receive
  split
  · exact .discard _
  next hpass =>
    have hclass := (classAccepted_iff l _).mp (classAccepted_of_passes hpass)
    cases l with
    | collector =>
      rcases hclass with hc | hc <;> rw [hc]
      · exact s.deliverSense_happens _
      · exact s.deliverManage_happens _
    | voice =>
      rcases hclass with hc | hc <;> rw [hc]
      · exact s.deliverGrant_happens _ (State.linkUp_of_receives hrecv)
      · exact s.deliverFreed_happens _

/-- What happens when a packet that needs a link that is up and in lock is offered. -/
theorem happens_if_receives {s t : State} {l : Link} (h : s.receives l = true → Happens s t) :
    Happens s (if s.receives l then t else s) := by
  split
  next hrecv => exact h hrecv
  · exact .nothing

/-- Every command answers a next state, and one of the list. -/
theorem exec_happens (c : Instr) (s : State) : ∃ t, exec c s = .next t ∧ Happens s t := by
  cases c with
  | powerOn => exact ⟨_, rfl, .powerOn⟩
  | sense fields => exact ⟨_, rfl, happens_if_receives fun _ => s.deliverSense_happens fields⟩
  | manage fields => exact ⟨_, rfl, happens_if_receives fun _ => s.deliverManage_happens fields⟩
  | replySent => exact ⟨_, rfl, s.replySent_happens⟩
  | lossTimerExpiry i => exact ⟨_, rfl, .lossExpiry i⟩
  | releaseTimerExpiry v => exact ⟨_, rfl, .releaseExpiry v⟩
  | stallTimerExpiry => exact ⟨_, rfl, .stallExpiry⟩
  | noticeIntervalExpiry => exact ⟨_, rfl, .noticeInterval⟩
  | copyCompletion => exact ⟨_, rfl, .copyCompletes⟩
  | verificationCompletion => exact ⟨_, rfl, .verificationCompletes⟩
  | transmission => exact ⟨_, rfl, .transmit⟩
  | grant fields =>
    exact ⟨_, rfl, happens_if_receives fun h => s.deliverGrant_happens fields (State.linkUp_of_receives h)⟩
  | freed fields => exact ⟨_, rfl, happens_if_receives fun _ => s.deliverFreed_happens fields⟩
  | envelopeDiscard l bytes => exact ⟨_, rfl, happens_if_receives fun h => s.receive_happens l bytes h⟩
  | packetCut l xs => exact ⟨_, rfl, .cut l xs⟩
  | collectorLinkUp xs => exact ⟨_, rfl, .hears .collector xs⟩
  | collectorLinkDown xs => exact ⟨_, rfl, .hears .collector xs⟩
  | attachment xs => exact ⟨_, rfl, .hears .voice xs⟩
  | detachment xs => exact ⟨_, rfl, .hears .voice xs⟩
  | upstreamPacketSent => exact ⟨_, rfl, s.upstreamSent_happens⟩
  | _ => exact ⟨_, rfl, s.submit_happens _⟩

/-- A property that survives whatever a command can come to survives a step, when it does not depend on the commands
that wait. -/
theorem kept_of_happens {P Q : State → Prop} (hpending : ∀ s cs, P s → P { s with pending := cs })
    (hidle : ∀ s, P s → Q s) (h : ∀ s t, P s → Happens s t → Q t) {s t : State} (hs : P s)
    (hstep : step s = .next t) : Q t := by
  unfold step at hstep
  split at hstep
  · cases hstep; exact hidle s hs
  next c cs _ =>
    obtain ⟨u, hu, hhappens⟩ := exec_happens c { s with pending := cs }
    rw [hu] at hstep
    cases hstep
    exact h _ _ (hpending s cs hs) hhappens

end Sys2Proof.Machine

/-! The machine's steps, POWER_ON and the laws at reset, requests and their rows. -/

namespace Sys2Proof.Machine

open Sys2Proof

/-- Settles O1: both sides unfold to the command at the front. -/
theorem stepRunsFrontCommand : Obligations.StepRunsFrontCommand := fun _ _ _ => ⟨rfl, rfl⟩

/-! ### Free values are drawn forward (log 5) -/

theorem State.advanceCopy_freeCount_le (s : State) : s.freeCount ≤ s.advanceCopy.freeCount := by
  unfold State.advanceCopy
  split
  · split
    · exact Nat.le_succ _
    · exact le_rfl
  · exact le_rfl

theorem State.abandonWork_freeCount (s : State) : s.abandonWork.freeCount = s.advanceCopy.freeCount := by
  unfold State.abandonWork
  dsimp only
  split <;> rfl

theorem State.warmRestart_freeCount (s : State) : s.warmRestart.freeCount = s.advanceCopy.freeCount := by
  unfold State.warmRestart
  simp [State.abandonWork_freeCount]

theorem Answer.freeCount_le {r : Request} {s t : State} (h : Answer r s t) : s.freeCount ≤ t.freeCount := by
  cases h with
  | readTable pl => simpa using s.advanceCopy_freeCount_le
  | abort w ws hwork pl => simpa [State.abandonWork_freeCount] using s.advanceCopy_freeCount_le
  | restart => simpa [State.warmRestart_freeCount] using s.advanceCopy_freeCount_le
  | _ => simp

theorem carryOut_freeCount_le (r : Request) (s : State) : s.freeCount ≤ (carryOut r s).freeCount :=
  (carryOut_answer r s).freeCount_le

theorem Happens.pending_freeCount {s t : State} (h : Happens s t) :
    t.pending = s.pending ∧ s.freeCount ≤ t.freeCount := by
  cases h with
  | served r x rest =>
    exact ⟨(carryOut_frame x _).1, carryOut_freeCount_le x { s with responder := { s.responder with requests := rest, waiting := true } }⟩
  | takes p rest x xs =>
    exact ⟨(carryOut_frame x _).1, carryOut_freeCount_le x
      { s with
        collector := { s.collector with upstream := rest }
        responder := { s.responder with requests := xs, waiting := true } }⟩
  | _ => simp

/-- Settles O2: every command answers one of the states that can happen. -/
theorem everyCommandCompletes : Obligations.EveryCommandCompletes := fun c s =>
  let ⟨t, hexec, h⟩ := exec_happens c s
  ⟨t, hexec, h.pending_freeCount⟩

/-! ### Power-on (R173) -/

/-- Settles O3: each field is the default of its structure. -/
theorem powerOnSetsPowerOnValues : Obligations.PowerOnSetsPowerOnValues := by
  unfold Obligations.PowerOnSetsPowerOnValues
  intro s
  refine ⟨_, rfl, fun link => ?link, fun i => ?slot, fun v => ?voice, rfl, rfl, rfl, rfl, fun b => ?bank, rfl, rfl,
    fun l => ?latch, rfl, ?lineEnable, rfl, rfl, rfl, rfl, rfl, rfl, rfl, rfl⟩
  case link => cases link <;> rfl
  case slot => simp [State.slot, State.reset]
  case voice => simp [State.voice, State.reset]
  case bank => simp [State.bank, State.reset]
  case latch => simp [State.reset]
  case lineEnable => exact (by decide : ∀ l : LatchIx, faultSet.getLsbD l = decide (l = 9 ∨ l = 10 ∨ l = 15))

/-! ### The laws at reset -/

@[simp] theorem State.reset_slot (i : SlotIx) : State.reset.slot i = {} := by simp [State.slot, State.reset]
@[simp] theorem State.reset_voice (v : VoiceIx) : State.reset.voice v = {} := by simp [State.voice, State.reset]
@[simp] theorem State.reset_bank (b : BankIx) : State.reset.bank b = {} := by simp [State.bank, State.reset]
theorem State.reset_latch (l : LatchIx) : State.reset.notices.latches[l] = {} := by simp [State.reset]

/-- No slot is bound, no voice in use, no record queued and no bank filled at reset: each law holds of the power-on
values. -/
theorem State.reset_blocks :
    State.reset.pool.ageList = [] ∧ State.reset.pool.releaseList = [] ∧ State.reset.port = {} ∧
      State.reset.responder = {} ∧ State.reset.collector = {} ∧ State.reset.receivers = {} ∧
      State.reset.store.work = [] ∧ State.reset.notices.owed = false := by
  and_intros <;> rfl

theorem State.reset_liveBank : State.reset.store.liveBank = none :=
  State.liveBank_eq_none.mpr (by simp)

theorem State.reset_lineLaw : State.reset.LineLaw := by
  have hline : State.reset.notices.line = false := by
    simp only [NoticeUnit.line, State.reset_latch, Latch.isSet]
    simp
  rw [State.LineLaw, hline]
  rfl

/-- Settles O4: the power-on values meet each law. -/
theorem lawsHoldAtReset : Obligations.LawsHoldAtReset := by
  unfold Obligations.LawsHoldAtReset
  obtain ⟨hage, hrelease, hport, hresponder, hcollector, hreceivers, hwork, howed⟩ := State.reset_blocks
  have hempty : ∀ v : VoiceIx, State.reset.noteRecords v = [] := fun v => by simp [State.noteRecords, hport]
  refine ⟨?slots, ?tags, ?slotRanges, ?records, ?engine, ?work, ?banks, ?pool, ?layers, ?starts, ?stops, ?queue,
    ?bounds, ?stall, ?detached, ?receivers, ?requests, ?down, ?reply, State.reset_lineLaw, ?latches⟩
  case slots => simp [State.SlotLaws, Slot.Ok, Slot.Heard]
  case tags => simp [State.TagsDistinct]
  case slotRanges =>
    simp [State.SlotRanges, State.TablesOk, Bank.Ok, Fingering.Ok, Voicing.Ok, Slot.InRange, Settings.Ok]
  case records => simp [State.RecordRanges, hport]
  case engine => simp [State.EngineRanges, hresponder]
  case work => simp [State.WorkLaws, hwork]
  case banks => simp [State.BankLaws, State.reset_liveBank]
  case pool => simp [State.PoolLaws, hage, hrelease, Voice.Ok]
  case layers => simp [State.LayersAgree]
  case starts => simp [State.StartsPending, hport]
  case stops => simp [State.StopsOpen, hport]
  case queue =>
    simp [State.QueueLaws, State.NotesInOrder, State.UpdatesSounding, State.PendingQueued, State.AllStopLaw,
      State.AllStopEnds, hport, hempty, notesInOrder]
  case bounds => simp [State.PortBounds, hport]
  case stall => simp [State.StallLaw, hport, VoicePort.stalled]
  case detached => simp [State.DetachedLaw, hport]
  case receivers => simp [State.ReceiverLaws, Receiver.Ok, hreceivers]
  case requests => simp [State.RequestLaws, hresponder]
  case down => simp [State.DownLaw, hcollector, hresponder]
  case reply => simp [State.ReplyLaw, hcollector, hresponder]
  case latches => exact ⟨fun l => by rw [State.reset_latch]; simp, by simp [howed]⟩

/-! ### Requests arrive (R159, R161) -/

/-- A MANAGE packet of an id, a code and arguments is the request they make (R159). -/
theorem exec_manage (id code : Byte) (args : List Byte) (s : State) :
    exec (.manage (id :: code :: args)) s = .next (s.submit ⟨id, code, args⟩) := by
  show Host.Outcome.next (if s.receives .collector then s.submit _ else s) = _
  split
  · rfl
  next hnot => rw [State.submit, if_neg hnot]

/-- Settles O5: each row is the request with its code, and so is the packet. -/
theorem requestRowsAreManagePackets : Obligations.RequestRowsAreManagePackets := by
  unfold Obligations.RequestRowsAreManagePackets
  intro id code args s
  simp only [exec_manage]
  and_intros <;> rfl

/-- A body too short for an id and a code holds no request (R159). -/
theorem readRequest_of_short {fields : List Byte} (h : fields.length < 2) : readRequest fields = none := by
  match fields with
  | [] => rfl
  | [_] => rfl
  | _ :: _ :: _ => simp at h

/-- Settles O6: a packet that is received is read, and its request taken into the list while there is room. -/
theorem managePacketJoinsTheList : Obligations.ManagePacketJoinsTheList := by
  unfold Obligations.ManagePacketJoinsTheList
  intro id code args fields s
  refine ⟨fun hdown => ?_, fun hrecv hshort => ?_, fun hrecv hwaiting hroom => ?_, fun hrecv hfull => ?_⟩
  · show Host.Outcome.next (if s.receives .collector then s.deliverManage fields else s) = _
    rw [if_neg (by simp [hdown])]
  · show Host.Outcome.next (if s.receives .collector then s.deliverManage fields else s) = _
    rw [if_pos hrecv, State.deliverManage, readRequest_of_short hshort]
  · rw [exec_manage, State.submit, if_pos hrecv, if_neg (show ¬requestCapacity ≤ _ from Nat.not_le.mpr hroom), State.serve]
    simp only [hwaiting]
  · rw [exec_manage, State.submit, if_pos hrecv, if_pos (show requestCapacity ≤ _ from hfull)]

/-! ### Timers that do not run (log 3) -/

/-- Settles O32: each expiry and completion asks first whether its timer or operation runs. -/
theorem stoppedTimersDoNothing : Obligations.StoppedTimersDoNothing := by
  unfold Obligations.StoppedTimersDoNothing
  intro s i v
  refine ⟨fun h => ?_, fun h => ?_, fun h => ?_, fun h => ?_, fun h => ?_, fun h => ?_⟩ <;>
    refine congrArg Host.Outcome.next ?_
  · rw [State.lossExpiry, h]; rfl
  · rw [State.releaseExpiry, h]; rfl
  · rw [State.stallExpiry, h]; rfl
  · rw [State.noticeInterval, h]; rfl
  · unfold State.copyCompletes
    split
    next w ws b l hwork _ _ => rw [if_neg (by simpa [hwork] using h)]
    · rfl
  · unfold State.verificationCompletes
    split
    next w ws b hwork _ => rw [if_neg (by simpa [hwork] using h)]
    · rfl

end Sys2Proof.Machine

/-! What the operations of phrases, pool and queue do to the port, the notice unit and the collector port: each is a
chain of a few moves. -/

namespace Sys2Proof.Machine

open Sys2Proof

/-! ### The moves -/

/-- Port, notice unit, collector port, responder and receivers stand alike in two states. -/
structure State.SamePorts (s t : State) : Prop where
  notices : t.notices = s.notices
  collector : t.collector = s.collector
  port : t.port = s.port
  responder : t.responder = s.responder
  receivers : t.receivers = s.receivers

/-- One move of an operation of the phrases, the pool or the queue. -/
inductive Move : State → State → Prop where
  | raise (s : State) (c : Capture) : Move s (s.raise c)
  | inside {s t : State} (h : s.SamePorts t) : Move s t
  /-- Records leave the queue, or values are merged into those that stay (R126, R127, R129). -/
  | thin (s : State) (q : List VoiceRecord) (hlen : q.length ≤ s.port.queue.length)
      (hmem : VoiceRecord.allStop ∈ q → VoiceRecord.allStop ∈ s.port.queue)
      (htail : VoiceRecord.allStop ∈ q.tail → VoiceRecord.allStop ∈ s.port.queue.tail) : Move s (s.setQueue q)
  | append (s : State) (r : VoiceRecord) (hr : r ≠ .allStop) (hroom : s.port.queue.length < queueCapacity) :
      Move s (s.setQueue (s.port.queue ++ [r]))
  | settle (s : State) : Move s s.settleStall

abbrev Moves : State → State → Prop := Relation.ReflTransGen Move

/-- A chain of moves that leaves the law of the stall timer as it found it: whatever touches the queue is followed by
a settling (R135, log 11). -/
structure Settles (s t : State) : Prop where
  moves : Moves s t
  stall : s.StallLaw → t.StallLaw

namespace Settles

variable {s t u : State}

theorem refl (s : State) : Settles s s := ⟨.refl, id⟩

theorem trans (h : Settles s t) (k : Settles t u) : Settles s u :=
  ⟨h.moves.trans k.moves, k.stall ∘ h.stall⟩

theorem inside (h : s.SamePorts t) : Settles s t :=
  ⟨.single (.inside h), fun hs => by rw [State.StallLaw, h.port]; exact hs⟩

theorem raise (s : State) (c : Capture) : Settles s (s.raise c) :=
  ⟨.single (.raise s c), fun hs => by simpa [State.StallLaw] using hs⟩

theorem settled (h : Moves s t) : Settles s t.settleStall :=
  ⟨h.tail (.settle t), fun _ => t.settleStall_law⟩

theorem modSlot (s : State) (i : SlotIx) (f : Slot → Slot) : Settles s (s.modSlot i f) :=
  inside ⟨rfl, rfl, rfl, rfl, rfl⟩

theorem modVoice (s : State) (v : VoiceIx) (f : Voice → Voice) : Settles s (s.modVoice v f) :=
  inside ⟨rfl, rfl, rfl, rfl, rfl⟩

theorem foldl {α : Type} {f : State → α → State} (h : ∀ s a, Settles s (f s a)) (s : State) (as : List α) :
    Settles s (as.foldl f s) := by
  induction as generalizing s with
  | nil => exact refl s
  | cons a as ih => exact (h s a).trans (ih _)

end Settles

theorem State.SamePorts.moves {s t : State} (h : s.SamePorts t) : Moves s t := .single (.inside h)

theorem State.raiseIf_settles (s : State) (b : Bool) (c : Capture) : Settles s (s.raiseIf b c) := by
  unfold State.raiseIf
  split
  · exact .raise s c
  · exact .refl s

/-! ### The queue -/

/-- Removing records keeps the law of the ALL_STOP at the head. -/
theorem Move.thin_of_sublist (s : State) {q : List VoiceRecord} (h : q.Sublist s.port.queue) :
    Move s (s.setQueue q) :=
  .thin s q h.length_le (fun hm => h.subset hm) (fun hm => h.tail.subset hm)

/-- A merge puts an ALL_STOP nowhere and takes none away: it maps records to records of the same kind. -/
theorem Move.thin_of_map (s : State) {f : VoiceRecord → VoiceRecord}
    (h : ∀ r, f r = .allStop → r = .allStop) : Move s (s.setQueue (s.port.queue.map f)) := by
  have hmem (q : List VoiceRecord) : VoiceRecord.allStop ∈ q.map f → VoiceRecord.allStop ∈ q := fun hm => by
    obtain ⟨r, hr, hf⟩ := List.mem_map.mp hm
    exact h r hf ▸ hr
  exact .thin s _ (by simp) (hmem _) (by rw [List.map_tail.symm]; exact hmem _)

theorem State.noteEviction_moves (s : State) (r : VoiceRecord) : Moves s (s.noteEviction r) := by
  have howe : s.SamePorts (s.oweRefresh r) := by
    unfold State.oweRefresh
    split <;> exact ⟨rfl, rfl, rfl, rfl, rfl⟩
  unfold State.noteEviction
  split
  · exact howe.moves.tail (.raise _ _)
  · exact .refl

/-- What an eviction leaves is the queue without the record evicted (R129). -/
theorem evictFrom_sublist {q r : List VoiceRecord} {x : VoiceRecord} (h : evictFrom q = some (x, r)) :
    r.Sublist q := by
  have hsplit {p : VoiceRecord → Bool} (ht : takeFirst p q = some (x, r)) : r.Sublist q := by
    obtain ⟨a, b, rfl, rfl, -, -⟩ := takeFirst_eq_some.mp ht
    exact List.Sublist.append_left (List.sublist_cons_self x b) a
  obtain ⟨-, hl | ⟨-, hr⟩⟩ := evictFrom_eq_some h
  · exact hsplit hl
  · exact hsplit hr

theorem State.makeRoom_moves (s : State) : Moves s s.makeRoom := by
  rcases s.makeRoom_cases with ⟨-, h⟩ | ⟨-, ⟨-, h⟩ | ⟨r, q, he, h⟩⟩ <;> rw [h]
  exact .head (Move.thin_of_sublist s (evictFrom_sublist he)) (State.noteEviction_moves _ r)

theorem State.enqueue_moves (s : State) {r : VoiceRecord} (hr : r ≠ .allStop) : Moves s (s.enqueue r) := by
  unfold State.enqueue
  dsimp only
  split
  next hroom => exact s.makeRoom_moves.tail (.append _ r hr hroom)
  · exact s.makeRoom_moves

/-- A merged RETUNE maps the queue record by record (R126). -/
theorem mergeRetune_map {v : VoiceIx} {g : Byte} {p : Nat} {q r : List VoiceRecord}
    (h : mergeRetune v g p q = some r) : ∃ f, r = q.map f ∧ ∀ x, f x = .allStop → x = .allStop := by
  unfold mergeRetune at h
  split at h
  · refine ⟨_, (Option.some.inj h).symm, fun x hx => ?_⟩
    cases x <;> simp at hx ⊢
    split at hx <;> cases hx
  · split at h
    · refine ⟨_, (Option.some.inj h).symm, fun x hx => ?_⟩
      split at hx
      · cases hx
      · exact hx
    · cases h

/-- A merged LEVEL maps the queue record by record (R126). -/
theorem mergeLevel_map {v : VoiceIx} {g : Byte} {l : Nat} {q r : List VoiceRecord}
    (h : mergeLevel v g l q = some r) : ∃ f, r = q.map f ∧ ∀ x, f x = .allStop → x = .allStop := by
  unfold mergeLevel at h
  split at h
  · refine ⟨_, (Option.some.inj h).symm, fun x hx => ?_⟩
    cases x <;> simp at hx ⊢
    split at hx <;> cases hx
  · split at h
    · refine ⟨_, (Option.some.inj h).symm, fun x hx => ?_⟩
      split at hx
      · cases hx
      · exact hx
    · cases h

theorem State.offerRetune_settles (s : State) (v : VoiceIx) (p : Nat) : Settles s (s.offerRetune v p) := by
  unfold State.offerRetune
  dsimp only
  refine .settled ?_
  split
  next q hq =>
    obtain ⟨f, rfl, hf⟩ := mergeRetune_map hq
    exact .trans (.single (Move.thin_of_map s hf)) (Settles.modVoice _ v _).moves
  next => exact .trans (s.enqueue_moves (by nofun)) (Settles.modVoice _ v _).moves

theorem State.offerLevel_settles (s : State) (v : VoiceIx) (l : Nat) : Settles s (s.offerLevel v l) := by
  unfold State.offerLevel
  dsimp only
  refine .settled ?_
  split
  next q hq =>
    obtain ⟨f, rfl, hf⟩ := mergeLevel_map hq
    exact .trans (.single (Move.thin_of_map s hf)) (Settles.modVoice _ v _).moves
  next => exact .trans (s.enqueue_moves (by nofun)) (Settles.modVoice _ v _).moves

/-! ### The pool -/

theorem State.cutFormer_moves (s : State) (v : VoiceIx) : Moves s (s.cutFormer v) :=
  .head (Move.thin_of_sublist s (removals_sublist v _ _).2.2) (State.enqueue_moves _ (by nofun))

theorem State.steal_moves (s : State) (v : VoiceIx) (i : SlotIx) : Moves s (s.steal v i) := by
  unfold State.steal
  split
  · exact .refl
  next o _ =>
    dsimp only
    have hstart : Moves s (((s.setAgeList (s.pool.ageList.erase v)).modSlot o.slot (dropVoice v)).modVoice v
        fun x => { x with owner := none }) := State.SamePorts.moves ⟨rfl, rfl, rfl, rfl, rfl⟩
    have hrotate (t : State) : Moves t
        (if s.responder.engine.stealMode = .rotating then t.setRotation o.slot else t) := by
      split
      · exact State.SamePorts.moves ⟨rfl, rfl, rfl, rfl, rfl⟩
      · exact .refl
    refine .trans (.tail ?_ (.raise _ _)) (hrotate _)
    split
    · exact hstart.tail (Move.thin_of_sublist _ (removals_sublist v _ _).1)
    · exact hstart.trans (State.cutFormer_moves _ v)
    · exact hstart

theorem State.takeVoice_moves (s : State) (k : AllocClass) (v : VoiceIx) (i : SlotIx) :
    Moves s (s.takeVoice k v i) := by
  unfold State.takeVoice
  split
  · exact .refl
  · exact s.cutFormer_moves v
  · have hlist : Settles s (s.setReleaseList (s.pool.releaseList.erase v)) := .inside ⟨rfl, rfl, rfl, rfl, rfl⟩
    exact (hlist.trans (Settles.modVoice _ v _)).moves.trans (State.cutFormer_moves _ v)
  · exact s.steal_moves v i

theorem State.placeStart_settles (s : State) (v : VoiceIx) (a b c d e : Nat) :
    Settles s (s.placeStart v a b c d e) :=
  .settled (.trans (s.enqueue_moves (by nofun)) (Settles.modVoice _ v _).moves)

theorem State.cancelVoice_settles (s : State) (v : VoiceIx) : Settles s (s.cancelVoice v) :=
  .settled (.head (Move.thin_of_sublist s (removals_sublist v _ _).1)
    (State.SamePorts.moves ⟨rfl, rfl, rfl, rfl, rfl⟩))

theorem State.stopVoice_settles (s : State) (v : VoiceIx) (k : StopKind) : Settles s (s.stopVoice v k) := by
  have hqueue : Moves s ((s.setQueue (removeUpdates v (s.voice v).generation s.port.queue)).enqueue
      (.stop v (s.voice v).generation k)) :=
    .head (Move.thin_of_sublist s (removals_sublist v _ _).2.1) (State.enqueue_moves _ (by nofun))
  have hlists (t : State) (l : List VoiceIx) :
      Settles t ((t.setAgeList l).setReleaseList (t.pool.releaseList ++ [v])) := .inside ⟨rfl, rfl, rfl, rfl, rfl⟩
  exact .settled ((hqueue.trans (hlists _ _).moves).trans (Settles.modVoice _ v _).moves)

theorem State.releaseVoice_settles (s : State) (v : VoiceIx) (k : StopKind) : Settles s (s.releaseVoice v k) := by
  unfold State.releaseVoice
  split
  · exact s.cancelVoice_settles v
  · exact s.stopVoice_settles v k
  · exact .refl s

theorem State.releaseLayers_settles (s : State) (k : StopKind) (es : List (Option VoiceIx)) :
    Settles s (State.releaseLayers k es s) := by
  induction es generalizing s with
  | nil => exact .refl s
  | cons e es ih =>
    cases e with
    | none => exact ih s
    | some v => exact (s.releaseVoice_settles v k).trans (ih _)

/-! ### Phrases -/

theorem State.startLayer_settles (s : State) (i : SlotIx) (pk : Packet) (r : Resolution) (vc : Voicing) (k : Nat)
    (l : Layer) : Settles s (s.startLayer i pk r vc k l) := by
  unfold State.startLayer
  split
  · exact .refl s
  next c v _ =>
    dsimp only
    refine ⟨?_, fun _ => State.settleStall_law _⟩
    refine .trans (.trans (.trans (s.takeVoice_moves c v i) ?_) (State.raiseIf_settles _ _ _).moves)
      (State.placeStart_settles ..).moves
    exact State.SamePorts.moves ⟨rfl, rfl, rfl, rfl, rfl⟩

theorem State.startLayers_settles (s : State) (i : SlotIx) (pk : Packet) (r : Resolution) (vc : Voicing) (k : Nat)
    (ls : List Layer) : Settles s (State.startLayers i pk r vc k ls s) := by
  induction ls generalizing s k with
  | nil => exact .refl s
  | cons l ls ih => exact (s.startLayer_settles i pk r vc k l).trans (ih _ _)

theorem State.startNote_settles (s : State) (i : SlotIx) (pk : Packet) (r : Resolution) :
    Settles s (s.startNote i pk r) :=
  ((Settles.modSlot s i _).trans (State.startLayers_settles ..)).trans (State.raiseIf_settles ..)

theorem State.produceRetune_settles (s : State) (v : VoiceIx) (p : Nat) : Settles s (s.produceRetune v p) := by
  unfold State.produceRetune
  split
  · exact (Settles.modVoice s v _).trans (State.offerRetune_settles _ v p)
  · exact .refl s

theorem State.produceLevel_settles (s : State) (v : VoiceIx) (l : Nat) : Settles s (s.produceLevel v l) := by
  unfold State.produceLevel
  split
  · exact (Settles.modVoice s v _).trans (State.offerLevel_settles _ v l)
  · exact .refl s

theorem State.retuneLayer_settles (s : State) (i : SlotIx) (pk : Packet) (r : Resolution) (k : Nat) (l : Layer)
    (v : VoiceIx) : Settles s (s.retuneLayer i pk r k l v) :=
  (State.raiseIf_settles s _ _).trans (State.produceRetune_settles _ v _)

theorem State.retuneLayers_settles (s : State) (i : SlotIx) (pk : Packet) (r : Resolution) (k : Nat)
    (ls : List Layer) (es : List (Option VoiceIx)) : Settles s (State.retuneLayers i pk r k ls es s) := by
  induction ls generalizing s k es with
  | nil => exact .refl s
  | cons l ls ih =>
    match es with
    | [] => exact .refl s
    | none :: es => exact ih s (k + 1) es
    | some v :: es => exact (s.retuneLayer_settles i pk r k l v).trans (ih _ (k + 1) es)

theorem State.updateLayers_settles (s : State) (i : SlotIx) (pk : Packet) (r : Resolution) (out k : Nat)
    (ls : List Layer) (es : List (Option VoiceIx)) : Settles s (State.updateLayers i pk r out k ls es s) := by
  induction ls generalizing s k es with
  | nil => exact .refl s
  | cons l ls ih =>
    match es with
    | [] => exact .refl s
    | none :: es => exact ih s (k + 1) es
    | some v :: es =>
      exact ((s.retuneLayer_settles i pk r k l v).trans (State.produceLevel_settles _ v _)).trans (ih _ (k + 1) es)

theorem State.changeFingering_settles (s : State) (i : SlotIx) (pk : Packet) :
    Settles s (s.changeFingering i pk) := by
  unfold State.changeFingering
  split
  · exact .refl s
  · split
    · exact .refl s
    · exact (Settles.modSlot s i _).trans (State.retuneLayers_settles ..)
    · exact ((State.releaseLayers_settles ..).trans (Settles.modSlot _ i _)).trans (State.startNote_settles ..)

theorem State.confirmSounding_settles (s : State) (i : SlotIx) (pk : Packet) (gap : Bool) (ks : KeySet) :
    Settles s (s.confirmSounding i pk gap ks) := by
  unfold State.confirmSounding
  dsimp only
  split
  · exact ((Settles.modSlot s i _).trans (Settles.modSlot _ i _)).trans (State.changeFingering_settles ..)
  · exact Settles.modSlot s i _

theorem State.stalledStart_settles (s : State) (i : SlotIx) (pk : Packet) : Settles s (s.stalledStart i pk) := by
  unfold State.stalledStart
  split
  · exact s.startNote_settles i pk _
  · exact .refl s

theorem State.refreshResolution_settles (s : State) (i : SlotIx) : Settles s (s.refreshResolution i) :=
  Settles.modSlot s i _

theorem State.confirm_settles (s : State) (i : SlotIx) (pk : Packet) (first gap : Bool) (ks : KeySet) :
    Settles s (s.confirm i pk first gap ks) := by
  unfold State.confirm
  split
  · exact (Settles.modSlot s i _).trans (State.refreshResolution_settles _ i)
  · split
    · exact s.confirmSounding_settles i pk gap ks
    · exact ((Settles.modSlot s i _).trans (State.refreshResolution_settles _ i)).trans
        (State.stalledStart_settles _ i pk)

/-- The drain test moves the banks and nothing else (R148). -/
theorem State.drain_samePorts (s : State) : s.SamePorts s.drain := by
  have one (t : State) (b : BankIx) : t.SamePorts (t.drainBank b) := by
    unfold State.drainBank
    split <;> exact ⟨rfl, rfl, rfl, rfl, rfl⟩
  obtain ⟨n0, c0, p0, r0, x0⟩ := one s 0
  obtain ⟨n1, c1, p1, r1, x1⟩ := one (s.drainBank 0) 1
  exact ⟨n1.trans n0, c1.trans c0, p1.trans p0, r1.trans r0, x1.trans x0⟩

theorem State.drain_settles (s : State) : Settles s s.drain := .inside s.drain_samePorts

theorem State.switchBank_settles (s : State) (i : SlotIx) : Settles s (s.switchBank i) :=
  (Settles.modSlot s i _).trans (State.drain_settles _)

theorem State.onset_settles (s : State) (i : SlotIx) (pk : Packet) (q e : Nat) : Settles s (s.onset i pk q e) := by
  unfold State.onset
  dsimp only
  split
  · exact ((Settles.modSlot s i _).trans (Settles.modSlot _ i _)).trans (State.startNote_settles ..)
  · exact (((Settles.modSlot s i _).trans (Settles.modSlot _ i _)).trans (State.switchBank_settles _ i)).trans
      (.raise _ _)

theorem State.releaseNote_settles (s : State) (i : SlotIx) : Settles s (s.releaseNote i) :=
  (((State.releaseLayers_settles ..).trans (Settles.modSlot _ i _)).trans (State.switchBank_settles _ i)).trans
    (State.refreshResolution_settles _ i)

theorem State.testSample_settles (s : State) (i : SlotIx) (pk : Packet) (q e : Nat) :
    Settles s (s.testSample i pk q e) := by
  unfold State.testSample
  split
  · split
    · split
      · exact Settles.modSlot s i _
      · exact .refl s
    · split
      · exact s.onset_settles i pk q e
      · exact .refl s
  · split
    · exact (Settles.modSlot s i _).trans (State.switchBank_settles _ i)
    · exact .refl s
  · split
    · exact s.releaseNote_settles i
    · exact .refl s
  · exact .refl s

theorem State.sample_settles (i : SlotIx) (pk : Packet) (s : State) (a : Nat) : Settles s (State.sample i pk s a) := by
  unfold State.sample
  exact (State.testSample_settles ..).trans (Settles.modSlot ..)

theorem State.perPacket_settles (s : State) (i : SlotIx) (pk : Packet) (e : Nat) :
    Settles s (s.perPacket i pk e) := by
  unfold State.perPacket
  dsimp only
  split
  · exact (Settles.modSlot s i _).trans (State.updateLayers_settles ..)
  · exact Settles.modSlot s i _

theorem State.processPacket_settles (s : State) (i : SlotIx) (first gap : Bool) (p : Sense) :
    Settles s (s.processPacket i first gap p) :=
  ((s.confirm_settles i _ first gap _).trans (.foldl (State.sample_settles i _) _ p.samples)).trans
    (State.perPacket_settles ..)

theorem State.takePacket_settles (s : State) (i : SlotIx) (p : Sense) : Settles s (s.takePacket i p) := by
  unfold State.takePacket
  dsimp only
  split
  · exact ((Settles.modSlot s i _).trans (State.switchBank_settles _ i)).trans (State.processPacket_settles ..)
  · split
    · exact (Settles.modSlot s i _).trans (State.processPacket_settles ..)
    · split
      · exact ((Settles.modSlot s i _).trans (.raise _ _)).trans (State.processPacket_settles ..)
      · exact .raise s _

/-! ### Slots -/

theorem State.unbind_settles (s : State) (i : SlotIx) : Settles s (s.unbind i) :=
  ((State.releaseLayers_settles ..).trans (Settles.modSlot _ i _)).trans (State.switchBank_settles _ i)

theorem State.bind_settles (s : State) (i : SlotIx) (t : Half) : Settles s (s.bind i t) := by
  have hstart : Settles s (if (s.slot i).phase = .unbound then s else s.unbind i) := by
    split
    · exact .refl s
    · exact s.unbind_settles i
  exact (hstart.trans (Settles.modSlot _ i _)).trans (State.switchBank_settles _ i)

theorem State.lossExpiry_settles (s : State) (i : SlotIx) : Settles s (s.lossExpiry i) := by
  unfold State.lossExpiry
  split
  · exact .refl s
  · exact (((State.releaseLayers_settles ..).trans (Settles.modSlot _ i _)).trans
      (State.switchBank_settles _ i)).trans (.raise _ _)

theorem State.flushSlot_settles (s : State) (i : SlotIx) : Settles s (s.flushSlot i) := by
  have hmoved : Settles s ((s.modSlot i Slot.flushed).switchBank i) :=
    (Settles.modSlot s i _).trans (State.switchBank_settles _ i)
  unfold State.flushSlot
  split
  · exact hmoved
  · exact hmoved
  · exact .refl s

theorem State.restartSlot_settles (s : State) (i : SlotIx) : Settles s (s.restartSlot i) := by
  unfold State.restartSlot
  split
  · exact .refl s
  · exact (Settles.modSlot s i _).trans (State.switchBank_settles _ i)

/-- A flush does what it does to pool and port, and then moves slots and banks alone (R121, R94). -/
theorem State.voiceFlush_settles (s : State) (place : Bool) : Settles (s.flushPool place) (s.voiceFlush place) :=
  .foldl State.flushSlot_settles _ _

/-! ### Long work -/

/-- Looking at a running copy moves its bank, its progress and the free values drawn (log 5). -/
theorem State.advanceCopy_samePorts (s : State) : s.SamePorts s.advanceCopy := by
  unfold State.advanceCopy
  split
  · split <;> exact ⟨rfl, rfl, rfl, rfl, rfl⟩
  · exact ⟨rfl, rfl, rfl, rfl, rfl⟩

theorem State.abandonWork_samePorts (s : State) : s.SamePorts s.abandonWork := by
  obtain ⟨n, c, p, r, x⟩ := s.advanceCopy_samePorts
  unfold State.abandonWork
  dsimp only
  split <;> exact ⟨n, c, p, r, x⟩

theorem State.swap_settles (s : State) (b : BankIx) : Settles s (s.swap b) := by
  have hpromote : s.SamePorts (s.promote b) := by
    unfold State.promote
    dsimp only
    split <;> exact ⟨rfl, rfl, rfl, rfl, rfl⟩
  have hswitch (t : State) : t.SamePorts t.switchAll := ⟨rfl, rfl, rfl, rfl, rfl⟩
  exact ((Settles.inside hpromote).trans (.inside (hswitch _))).trans (State.drain_settles _)

end Sys2Proof.Machine

/-! Every step keeps the laws of the notice unit, the request list and the collector port (R161, R162, R174 to
R178). -/

namespace Sys2Proof.Machine

open Sys2Proof

/-! ### What a move reports -/

/-- From s to t the collector port takes packets that are no immediate replies, none while its link is down, and the
notice unit keeps its laws. -/
structure State.Reports (s t : State) : Prop where
  laws : s.LatchLaws → t.LatchLaws
  line : s.LineLaw → t.LineLaw
  up : t.collector.up = s.collector.up
  upstream : ∃ ps, t.collector.upstream = s.collector.upstream ++ ps ∧ (∀ p ∈ ps, p.isImmediate = false) ∧
    (s.collector.up = false → ps = [])
  responder : t.responder = s.responder

namespace State.Reports

variable {s t u : State}

theorem refl (s : State) : s.Reports s := ⟨id, id, rfl, ⟨[], by simp⟩, rfl⟩

theorem trans (h : s.Reports t) (k : t.Reports u) : s.Reports u := by
  obtain ⟨ps, hps, hkind, hdown⟩ := h.upstream
  obtain ⟨qs, hqs, hkind', hdown'⟩ := k.upstream
  refine ⟨k.laws ∘ h.laws, k.line ∘ h.line, k.up.trans h.up, ⟨ps ++ qs, ?_, ?_, fun hd => ?_⟩,
    k.responder.trans h.responder⟩
  · rw [hqs, hps, List.append_assoc]
  · exact fun p hp => (List.mem_append.mp hp).elim (hkind p) (hkind' p)
  · rw [hdown hd, hdown' (h.up.trans hd)]; rfl

/-- Where notice unit, collector port and responder stand alike nothing is reported. -/
theorem of_same (hn : t.notices = s.notices) (hc : t.collector = s.collector) (hr : t.responder = s.responder) :
    s.Reports t :=
  ⟨fun h => by rw [State.LatchLaws, hn]; exact h, fun h => by rw [State.LineLaw, hn]; exact h, by rw [hc],
    ⟨[], by simp [hc]⟩, hr⟩

/-- A packet that is no immediate reply is produced. -/
theorem push (s : State) (p : Upstream) (hp : p.isImmediate = false) : s.Reports (s.push p) := by
  refine ⟨id, id, s.push_up p, ⟨if s.collector.up then [p] else [], ?_, ?_, fun hd => by simp [hd]⟩, rfl⟩
  · rw [State.push, CollectorPort.push_upstream]
    split <;> simp
  · split <;> simp [hp]

end State.Reports

/-! ### The latches (R174, R175) -/

/-- The laws of one latch: its capture is its own, its count within a byte, and clear it counts nothing and is not
new. -/
def Latch.Lawful (x : Latch) (l : LatchIx) : Prop :=
  (x.first.all fun c => c.latch == l) = true ∧ x.repeats ≤ 255 ∧
    (x.first = none → x.repeats = 0 ∧ x.isNew = false)

theorem State.latchLaws_iff (s : State) :
    s.LatchLaws ↔ (∀ l : LatchIx, s.notices.latches[l].Lawful l) ∧ (s.notices.owed = true → s.notices.timer ≠ none) :=
  Iff.rfl

/-- A clear latch with any last mark is lawful. -/
theorem Latch.lawful_clear (m : Half) (l : LatchIx) : Latch.Lawful { lastMark := m } l := by
  simp [Latch.Lawful]

/-- Taking a new flag away keeps a latch lawful. -/
theorem Latch.Lawful.report {x : Latch} {l : LatchIx} (h : x.Lawful l) : Latch.Lawful { x with isNew := false } l :=
  ⟨h.1, h.2.1, fun hn => ⟨(h.2.2 hn).1, rfl⟩⟩

/-- A latch that takes an event stays lawful (R175). -/
theorem NoticeUnit.lawful_strike {n : NoticeUnit} (h : ∀ l : LatchIx, n.latches[l].Lawful l) (c : Capture)
    (l : LatchIx) : (n.strike c).latches[l].Lawful l := by
  rw [NoticeUnit.latch_strike]
  split
  next hl =>
    obtain ⟨hown, hcount, hclear⟩ := h l
    split
    next hset =>
      refine ⟨hown, Nat.min_le_left .., fun hn => ?_⟩
      rw [Latch.isSet, show n.latches[l].first = none from hn] at hset
      exact absurd hset (by decide)
    next => exact ⟨by simp [hl], by simp, nofun⟩
  · exact h l

/-- A raise keeps the laws of the latches and of an owed NOTICE (R175, R178). -/
theorem State.raise_latchLaws (s : State) (c : Capture) (h : s.LatchLaws) : (s.raise c).LatchLaws := by
  obtain ⟨hlatch, howed⟩ := s.latchLaws_iff.mp h
  have hstrike := NoticeUnit.lawful_strike hlatch c
  obtain ⟨-, -, -, -, htimer, howed'⟩ := s.notices.strike_fields c
  rw [State.latchLaws_iff]
  rcases s.raise_cases c with ⟨-, hr⟩ | ⟨-, ht, hr⟩ | ⟨-, -, hr⟩ <;> rw [hr]
  · exact ⟨hstrike, fun ho => by rw [htimer]; exact howed (howed' ▸ ho)⟩
  · exact ⟨hstrike, fun _ => by rw [htimer]; exact ht⟩
  · refine ⟨fun l => ?_, fun _ => nofun⟩
    show (s.notices.strike c).report.latches[l].Lawful l
    rw [NoticeUnit.latch_report]
    exact (hstrike l).report

theorem State.raise_reports (s : State) (c : Capture) : s.Reports (s.raise c) := by
  refine ⟨s.raise_latchLaws c, fun _ => s.raise_lineLaw c, by simp, ?_, by simp⟩
  obtain ⟨ps, hps, hkind⟩ := s.raise_upstream c
  refine ⟨ps, hps, hkind, fun hdown => ?_⟩
  rcases s.raise_cases c with ⟨-, h⟩ | ⟨-, -, h⟩ | ⟨-, -, h⟩ <;> rw [h] at hps
  · simpa using hps
  · simpa using hps
  · simpa [CollectorPort.push, hdown] using hps

theorem Moves.reports {s t : State} (h : Moves s t) : s.Reports t := by
  induction h with
  | refl => exact .refl s
  | tail _ hmove ih =>
    refine ih.trans ?_
    cases hmove with
    | raise c => exact State.raise_reports _ c
    | inside h => exact .of_same h.notices h.collector h.responder
    | thin => exact .of_same rfl rfl rfl
    | append => exact .of_same rfl rfl rfl
    | settle => exact .of_same rfl rfl rfl

theorem Settles.reports {s t : State} (h : Settles s t) : s.Reports t := h.moves.reports

/-- RESTART leaves every latch clear and nothing owed (R181). -/
theorem NoticeUnit.clearAll_laws (n : NoticeUnit) :
    (∀ l : LatchIx, n.clearAll.latches[l].Lawful l) ∧ (n.clearAll.owed = true → n.clearAll.timer ≠ none) := by
  refine ⟨fun l => ?_, nofun⟩
  have hclear : n.clearAll.latches[l] = {} := by simp [NoticeUnit.clearAll, NoticeUnit.evalLine]
  rw [hclear]
  exact Latch.lawful_clear 0 l

/-! ### The port, long work and the timers -/

theorem State.voiceFlush_reports (s : State) (place : Bool) : s.Reports (s.voiceFlush place) :=
  have hpool : s.Reports (s.flushPool place) := .of_same rfl rfl rfl
  hpool.trans (s.voiceFlush_settles place).reports

theorem State.completeOk_reports (s : State) (w : Work) (b : BankIx) : s.Reports (s.completeOk w b) :=
  (State.Reports.push s _ rfl).trans (State.raise_reports _ _)

theorem State.completeFail_reports (s : State) (w : Work) (b : Option BankIx) (r : FailReason) :
    s.Reports (s.completeFail w b r) :=
  (State.Reports.push s _ rfl).trans (State.raise_reports _ _)

theorem State.startWork_reports (ws : List Work) (s : State) : s.Reports (State.startWork ws s) := by
  induction ws generalizing s with
  | nil => exact .of_same rfl rfl rfl
  | cons w ws ih =>
    unfold State.startWork
    split
    · exact .of_same rfl rfl rfl
    · have hwork : s.Reports (s.setWork ws) := .of_same rfl rfl rfl
      exact (hwork.trans (State.completeFail_reports _ w _ _)).trans (ih _)

theorem State.queueWork_reports (s : State) (w : Work) : s.Reports (s.queueWork w) := by
  unfold State.queueWork
  split
  · exact State.startWork_reports ..
  · exact .of_same rfl rfl rfl

theorem State.copyCompletes_reports (s : State) : s.Reports s.copyCompletes := by
  unfold State.copyCompletes
  split
  next w ws b l _ _ _ =>
    split
    · have hbank (x : Bank) : s.Reports ((s.setBank b x).setWork ws) := .of_same rfl rfl rfl
      exact ((hbank _).trans (State.completeOk_reports _ w b)).trans (State.startWork_reports ..)
    · exact .refl s
  · exact .refl s

theorem State.verificationCompletes_reports (s : State) : s.Reports s.verificationCompletes := by
  unfold State.verificationCompletes
  split
  next w ws b _ _ =>
    split
    · have hwork : s.Reports (s.setWork ws) := .of_same rfl rfl rfl
      have hstaged : s.Reports ((s.setWork ws).setBankState b .staged) := .of_same rfl rfl rfl
      dsimp only
      split
      · exact (hstaged.trans (State.completeFail_reports _ w _ _)).trans (State.startWork_reports ..)
      · exact ((hwork.trans (State.swap_settles _ b).reports).trans (State.completeOk_reports _ w b)).trans
          (State.startWork_reports ..)
    · exact .refl s
  · exact .refl s

theorem State.warmRestart_reports (s : State) : s.Reports s.warmRestart := by
  have hslots : s.Reports ((List.finRange 8).foldl State.restartSlot (s.abandonWork.voiceFlush true)) :=
    ((Settles.inside s.abandonWork_samePorts).reports.trans (State.voiceFlush_reports _ true)).trans
      (Settles.foldl State.restartSlot_settles _ _).reports
  obtain ⟨-, -, hup, hps, hresponder⟩ := hslots
  unfold State.warmRestart
  dsimp only
  generalize List.foldl State.restartSlot _ _ = t at hup hps hresponder ⊢
  exact ⟨fun _ => t.notices.clearAll_laws, fun _ => rfl, hup, hps, hresponder⟩

/-- The port right after its link came up (R136). -/
def State.connected (s : State) : State := { s with port := { s.port with attached := true, credit := 0 } }

/-- An owed ALL_STOP is placed at the head and no longer owed (R136). -/
def State.placeAllStop (s : State) : State :=
  { s.enqueueHead .allStop with port := { (s.enqueueHead .allStop).port with allStopOwed := false } }

/-- The port with what it owed placed (R136). -/
def State.connectedPlaced (s : State) : State :=
  if s.port.allStopOwed then s.connected.placeAllStop else s.connected

/-- What attachment does to a DETACHED port (R136). -/
theorem State.attach_of_detached {s : State} (h : s.port.attached = false) :
    s.attach = (s.connectedPlaced.raise
      (.attach s.connectedPlaced.port.queue.length s.port.allStopOwed)).settleStall := by
  rw [State.attach, if_neg (by simp [h])]
  rfl

theorem State.enqueueHead_reports (s : State) (r : VoiceRecord) : s.Reports (s.enqueueHead r) := by
  unfold State.enqueueHead
  dsimp only
  split
  · exact s.makeRoom_moves.reports.trans (.of_same rfl rfl rfl)
  · exact s.makeRoom_moves.reports

theorem State.attach_reports (s : State) : s.Reports s.attach := by
  cases h : s.port.attached with
  | true => rw [State.attach, if_pos h]; exact .refl s
  | false =>
    rw [State.attach_of_detached h]
    have hup : s.Reports s.connected := .of_same rfl rfl rfl
    have hplaced : s.Reports s.connectedPlaced := by
      unfold State.connectedPlaced
      split
      · exact (hup.trans (State.enqueueHead_reports _ _)).trans (.of_same rfl rfl rfl)
      · exact hup
    exact (hplaced.trans (State.raise_reports _ _)).trans (.of_same rfl rfl rfl)

theorem State.detach_reports (s : State) : s.Reports s.detach := by
  unfold State.detach
  split
  · have hoff : s.Reports { s with port :=
        { s.port with attached := false, credit := 0, stallTimer := none, sending := none } } := .of_same rfl rfl rfl
    exact (hoff.trans (State.voiceFlush_reports _ false)).trans (State.raise_reports _ _)
  · exact .refl s

theorem State.stallExpiry_reports (s : State) : s.Reports s.stallExpiry := by
  unfold State.stallExpiry
  split
  · exact .refl s
  · have hstart : s.Reports { s with port := { s.port with stallTimer := some s.responder.engine.stallTime } } :=
      .of_same rfl rfl rfl
    exact hstart.trans (State.raise_reports _ _)

theorem State.transmit_reports (s : State) : s.Reports s.transmit := by
  unfold State.transmit
  split
  next r q _ _ =>
    have hsent (t : State) : t.Reports (t.transmitted r) := by
      unfold State.transmitted
      split
      · exact .of_same rfl rfl rfl
      · split <;> exact .of_same rfl rfl rfl
      · exact .refl t
    have hport (p : VoicePort) : s.Reports { s with port := p } := .of_same rfl rfl rfl
    exact ((hport _).trans (hsent _)).trans (.of_same rfl rfl rfl)
  · exact .of_same rfl rfl rfl

theorem State.freedReport_reports (s : State) (v : VoiceIx) (g : Byte) : s.Reports (s.freedReport v g) := by
  unfold State.freedReport
  dsimp only
  split
  · split <;> exact .of_same rfl rfl rfl
  · exact s.raise_reports _

theorem State.releaseExpiry_reports (s : State) (v : VoiceIx) : s.Reports (s.releaseExpiry v) := by
  unfold State.releaseExpiry
  split <;> exact .of_same rfl rfl rfl

/-- The interval timer's expiry produces an owed NOTICE or stops (R178). -/
theorem State.noticeInterval_reports (s : State) : s.Reports s.noticeInterval := by
  unfold State.noticeInterval
  split
  · exact .refl s
  · split
    · obtain ⟨-, -, hup, hps, hresponder⟩ := State.Reports.push s s.notices.noticePacket rfl
      refine ⟨fun h => ?_, fun h => ?_, hup, hps, hresponder⟩
      · rw [State.latchLaws_iff] at h ⊢
        refine ⟨fun l => ?_, nofun⟩
        show s.notices.report.latches[l].Lawful l
        rw [NoticeUnit.latch_report]
        exact (h.1 l).report
      · exact (s.notices.report_fields.2.2.2.2.2.2).trans (h.trans s.notices.line_report.symm)
    next howed =>
      refine ⟨fun h => ?_, id, rfl, ⟨[], by simp⟩, rfl⟩
      rw [State.latchLaws_iff] at h ⊢
      exact ⟨h.1, fun ho => absurd ho howed⟩

/-! ### Requests (R160, R161) -/

/-- Among the packets that a request adds upstream, while the link is up, its reply is the one immediate packet. -/
structure State.Replies (r : Request) (s t : State) : Prop where
  laws : s.LatchLaws → t.LatchLaws
  line : s.LineLaw → t.LineLaw
  up : t.collector.up = s.collector.up
  upstream : s.collector.up = true → ∃ before st pl after,
    t.collector.upstream = s.collector.upstream ++ before ++ [.immediate r.id r.code st pl] ++ after ∧
      ∀ p ∈ before ++ after, p.isImmediate = false

/-- A request whose effect reports to the ports is answered by one reply. -/
theorem State.Reports.replies {r : Request} {s t : State} (h : s.Reports t) (st : Status) (pl : List Byte) :
    s.Replies r (t.reply r st pl) := by
  obtain ⟨hlaws, hline, hup, ⟨ps, hps, hkind, -⟩, -⟩ := h
  refine ⟨hlaws, hline, (t.push_up _).trans hup, fun hs => ⟨ps, st, pl, [], ?_, by simpa using hkind⟩⟩
  rw [State.reply_of_up (hup.trans hs), ← hps, List.append_nil]

/-- A reply that the effect of its request follows (R149). -/
theorem State.Replies.reports {r : Request} {s t u : State} (h : s.Replies r t) (k : t.Reports u) :
    s.Replies r u := by
  obtain ⟨hlaws, hline, hup, ⟨ps, hps, hkind, -⟩, -⟩ := k
  refine ⟨hlaws ∘ h.laws, hline ∘ h.line, hup.trans h.up, fun hs => ?_⟩
  obtain ⟨before, st, pl, after, hbefore, hkind'⟩ := h.upstream hs
  refine ⟨before, st, pl, after ++ ps, by rw [hps, hbefore]; simp only [List.append_assoc], fun p hp => ?_⟩
  rw [← List.append_assoc] at hp
  exact (List.mem_append.mp hp).elim (hkind' p) (hkind p)

/-- Replacing the notice unit by one that keeps its laws. -/
theorem State.Reports.of_notices (s : State) (n : NoticeUnit) (hlaws : s.LatchLaws → State.LatchLaws { s with notices := n })
    (hline : s.LineLaw → n.lineLow = n.line) : s.Reports { s with notices := n } :=
  ⟨hlaws, hline, rfl, ⟨[], by simp⟩, rfl⟩

theorem State.report_reports (s : State) : s.Reports { s with notices := s.notices.report } := by
  refine .of_notices s _ (fun h => ?_) fun h => ?_
  · rw [State.latchLaws_iff] at h ⊢
    refine ⟨fun l => ?_, h.2⟩
    show s.notices.report.latches[l].Lawful l
    rw [NoticeUnit.latch_report]
    exact (h.1 l).report
  · exact Eq.trans h s.notices.line_report.symm

theorem State.clearAgainst_reports (s : State) (m : Half) (ls : LatchSet) :
    s.Reports { s with notices := s.notices.clearAgainst m ls } := by
  refine .of_notices s _ (fun h => ?_) fun _ => rfl
  rw [State.latchLaws_iff] at h ⊢
  refine ⟨fun l => ?_, h.2⟩
  show (s.notices.clearAgainst m ls).latches[l].Lawful l
  rw [NoticeUnit.latch_clearAgainst]
  split
  · exact Latch.lawful_clear _ l
  · exact h.1 l

/-- Whatever a request comes to, it is answered once and the notice unit keeps its laws (R160). -/
theorem Answer.replies {r : Request} {s t : State} (h : Answer r s t) : s.Replies r t := by
  cases h with
  | reply st pl => exact (State.Reports.refl s).replies st pl
  | status pl => exact s.report_reports.replies .ok pl
  | clear m ls pl => exact (s.clearAgainst_reports m ls).replies .ok pl
  | enable ls ps master =>
    exact (State.Reports.of_notices s (s.notices.enable ls ps master) id fun _ => rfl).replies .ok []
  | bind i t => exact (s.bind_settles i t).reports.replies .ok []
  | unbind i => exact (s.unbind_settles i).reports.replies .ok []
  | settings i ps st => exact (Settles.modSlot s i _).reports.replies st []
  | engine ps st =>
    have h := (State.Reports.refl s).replies (r := r) st []
    exact ⟨h.laws, h.line, h.up, h.upstream⟩
  | write w b =>
    have h : s.Reports (s.writeBank b w.first w.entries) := .of_same rfl rfl rfl
    exact h.replies .ok []
  | readTable pl => exact (Settles.inside s.advanceCopy_samePorts).reports.replies .ok pl
  | work k => exact ((State.Reports.refl s).replies .queued []).reports (State.queueWork_reports _ _)
  | abort w ws _ pl =>
    exact ((Settles.inside s.abandonWork_samePorts).reports.trans (.push _ _ rfl)).replies .ok pl
  | panic => exact (s.voiceFlush_reports true).replies .ok []
  | restart => exact s.warmRestart_reports.replies .ok []

/-! ### Every step (R161, R162, R174, R177, R178) -/

/-- The laws of the notice unit, the request list and the collector port together. -/
structure State.NoticeAndRequestLaws (s : State) : Prop where
  line : s.LineLaw
  latches : s.LatchLaws
  requests : s.RequestLaws
  down : s.DownLaw
  reply : s.ReplyLaw

namespace State.NoticeAndRequestLaws

/-- What reports only adds packets that are no immediate replies, and nothing while the link is down. -/
theorem of_reports {s t : State} (h : s.NoticeAndRequestLaws) (k : s.Reports t) : t.NoticeAndRequestLaws := by
  obtain ⟨hlaws, hline, hup, ⟨ps, hps, hkind, hnone⟩, hresponder⟩ := k
  have hcount : ps.countP Upstream.isImmediate = 0 :=
    List.countP_eq_zero.mpr fun p hp => by simp [hkind p hp]
  refine ⟨hline h.line, hlaws h.latches, by rw [State.RequestLaws, hresponder]; exact h.requests, fun hdown => ?_, ?_⟩
  · have hdown : s.collector.up = false := hup ▸ hdown
    obtain ⟨hempty, hlist, hidle⟩ := h.down hdown
    rw [hresponder, hps, hempty, hnone hdown]
    exact ⟨rfl, hlist, hidle⟩
  · rw [State.ReplyLaw, hps, List.countP_append, hcount, hresponder]
    exact h.reply

/-- A request taken while none is being answered leaves exactly its own reply upstream. -/
theorem of_carryOut {s : State} (r : Request) (hline : s.LineLaw) (hlatches : s.LatchLaws)
    (hroom : s.responder.requests.length ≤ 4) (hup : s.collector.up = true) (hwaiting : s.responder.waiting = true)
    (hnone : s.collector.upstream.countP Upstream.isImmediate = 0) : (carryOut r s).NoticeAndRequestLaws := by
  obtain ⟨klaws, kline, kup, kps⟩ := (carryOut_answer r s).replies
  obtain ⟨before, st, pl, after, hps, hkind⟩ := kps hup
  obtain ⟨-, -, -, hlist, hwaits⟩ := carryOut_frame r s
  have hwaits := hwaits.trans hwaiting
  refine ⟨kline hline, klaws hlatches, ⟨hlist ▸ hroom, fun h => ?_⟩, fun h => ?_, ?_⟩
  · rw [hwaits] at h; cases h
  · rw [kup, hup] at h; cases h
  · have hrest : (before ++ after).countP Upstream.isImmediate = 0 :=
      List.countP_eq_zero.mpr fun p hp => by simp [hkind p hp]
    rw [List.countP_append] at hrest
    rw [State.ReplyLaw, hps, hwaits, if_pos rfl]
    simp only [List.countP_append, List.countP_cons, List.countP_nil, Upstream.isImmediate, if_true]
    omega

/-- The replies upstream before the one that has been sent leave. -/
theorem countP_rest {s : State} (h : s.ReplyLaw) {p : Upstream} {rest : List Upstream}
    (hp : p.isImmediate = true) (hhead : s.collector.upstream = p :: rest) :
    rest.countP Upstream.isImmediate = 0 := by
  rw [State.ReplyLaw, hhead, List.countP_cons_of_pos hp] at h
  split at h <;> omega

theorem of_linkMove {s t : State} (h : s.NoticeAndRequestLaws) (k : LinkMove s t) : t.NoticeAndRequestLaws := by
  cases k with
  | receiver l x => exact h.of_reports (.of_same rfl rfl rfl)
  | down => exact ⟨h.line, h.latches, ⟨Nat.zero_le _, fun _ => rfl⟩, fun _ => ⟨rfl, rfl, rfl⟩, rfl⟩
  | up hdown => exact ⟨h.line, h.latches, h.requests, nofun, h.reply⟩
  | attach => exact h.of_reports s.attach_reports
  | detach => exact h.of_reports s.detach_reports
  | cut l => exact h.of_reports (s.raise_reports _)

theorem of_linkMoves {s t : State} (h : s.NoticeAndRequestLaws) (k : LinkMoves s t) : t.NoticeAndRequestLaws := by
  induction k with
  | refl => exact h
  | tail _ hmove ih => exact ih.of_linkMove hmove

/-- Whatever a command comes to keeps the laws. -/
theorem of_happens {s t : State} (h : s.NoticeAndRequestLaws) (k : Happens s t) : t.NoticeAndRequestLaws := by
  obtain ⟨hroom, hnowait⟩ := h.requests
  cases k with
  | nothing => exact h
  | powerOn =>
    obtain ⟨-, -, -, -, -, -, -, -, -, -, -, -, -, -, -, -, hrequests, hdown, hreply, hline, hlatches⟩ :=
      lawsHoldAtReset
    exact ⟨hline, hlatches, hrequests, hdown, hreply⟩
  | discard c => exact h.of_reports (s.raise_reports c)
  | sense fields p i => exact h.of_reports (s.takePacket_settles i p).reports
  | joins r hup hspace hnext =>
    refine ⟨h.line, h.latches, ⟨?_, fun hidle => ?_⟩, fun hdown => ?_, h.reply⟩
    · simp only [List.length_append, List.length_singleton]; omega
    · obtain hwaits | hempty := hnext
      · exact absurd (hwaits.symm.trans hidle) (by decide)
      · exact hempty
    · exact absurd (hup.symm.trans hdown) (by decide)
  | served r x rest hup hspace hidle hlist =>
    refine .of_carryOut x h.line h.latches ?_ hup rfl ?_
    · have := congrArg List.length hlist
      simp only [List.length_append, List.length_cons, List.length_nil] at this
      show rest.length ≤ 4
      omega
    · exact h.reply.trans (if_neg (by simp [hidle]))
  | idles p rest hp hhead hnone =>
    refine ⟨h.line, h.latches, ⟨hroom, fun _ => hnone⟩, fun hdown => ?_, countP_rest h.reply hp hhead⟩
    exact absurd (h.down hdown).1 (by simp [hhead])
  | takes p rest x xs hp hhead hlist =>
    refine .of_carryOut x h.line h.latches ?_ ?_ rfl (countP_rest h.reply hp hhead)
    · rw [hlist, List.length_cons] at hroom
      exact Nat.le_of_succ_le hroom
    · by_contra hdown
      exact absurd (h.down (Bool.eq_false_of_not_eq_true hdown)).1 (by simp [hhead])
  | sent p rest hp hhead =>
    refine ⟨h.line, h.latches, h.requests, fun hdown => ?_, ?_⟩
    · exact absurd (h.down hdown).1 (by simp [hhead])
    · have hreply := h.reply
      rw [State.ReplyLaw, hhead, List.countP_cons_of_neg (by simp [hp])] at hreply
      exact hreply
  | lossExpiry i => exact h.of_reports (s.lossExpiry_settles i).reports
  | releaseExpiry v => exact h.of_reports (s.releaseExpiry_reports v)
  | stallExpiry => exact h.of_reports s.stallExpiry_reports
  | noticeInterval => exact h.of_reports s.noticeInterval_reports
  | copyCompletes => exact h.of_reports s.copyCompletes_reports
  | verificationCompletes => exact h.of_reports s.verificationCompletes_reports
  | transmit => exact h.of_reports s.transmit_reports
  | grant n => exact h.of_reports (.of_same rfl rfl rfl)
  | freed v g => exact h.of_reports (s.freedReport_reports v g)
  | hears l xs => exact h.of_linkMoves (s.hearAll_moves l xs)
  | cut l xs => exact h.of_linkMoves (s.packetCut_moves l xs)

end State.NoticeAndRequestLaws

/-- Settles O60: what does not take a request only reports to the ports, and a request taken answers once. -/
theorem noticeAndRequestLawsKept : Obligations.NoticeAndRequestLawsKept := by
  unfold Obligations.NoticeAndRequestLawsKept
  intro s t hline hlatches hrequests hdown hreply hstep
  obtain ⟨kline, klatches, krequests, kdown, kreply⟩ :=
    kept_of_happens (P := State.NoticeAndRequestLaws) (Q := State.NoticeAndRequestLaws)
      (fun _ _ h => ⟨h.line, h.latches, h.requests, h.down, h.reply⟩) (fun _ h => h) (fun _ _ h k => h.of_happens k)
      ⟨hline, hlatches, hrequests, hdown, hreply⟩ hstep
  exact ⟨kline, klatches, krequests, kdown, kreply⟩

/-! ### A request that is taken (R160, R161) -/

section
variable (r : Request) (s : State) (rs : List Request) (x : Receivers)

theorem State.beside_reply (st : Status) (pl : List Byte) :
    (s.beside rs x).reply r st pl = (s.reply r st pl).beside rs x := rfl

theorem State.beside_refuse (st : Status) : (s.beside rs x).refuse r st = (s.refuse r st).beside rs x := rfl

theorem beside_bindSlot : cmdBindSlot r (s.beside rs x) = (cmdBindSlot r s).beside rs x := by
  have hused (i : SlotIx) (t : Half) : (s.beside rs x).tagInUse i t = s.tagInUse i t := rfl
  unfold cmdBindSlot
  split
  · split
    · rfl
    · dsimp only
      rw [hused]
      split
      · rfl
      · split
        · rfl
        · rw [State.beside_bind, State.beside_reply]
  · rfl

theorem beside_unbindSlot : cmdUnbindSlot r (s.beside rs x) = (cmdUnbindSlot r s).beside rs x := by
  unfold cmdUnbindSlot
  split
  · split
    · rfl
    · simp only [State.beside_reads]
      split
      · rfl
      · rw [State.beside_unbind, State.beside_reply]
  · rfl

theorem beside_readTable : cmdReadTable r (s.beside rs x) = (cmdReadTable r s).beside rs x := by
  unfold cmdReadTable
  split
  · split
    · rfl
    · split
      · split
        · rfl
        · split
          · rfl
          · simp only [State.beside_reads, State.beside_advanceCopy]
            split <;> simp only [State.beside_reads, State.beside_reply]
      · rfl
  · rfl

theorem beside_requestWork (k : WorkKind) : requestWork k r (s.beside rs x) = (requestWork k r s).beside rs x := by
  unfold requestWork
  split
  · rw [show (s.beside rs x).store = s.store from rfl]
    split
    · rfl
    · rw [State.beside_reply, State.beside_queueWork]
  · rfl

theorem beside_abortWork : cmdAbortWork r (s.beside rs x) = (cmdAbortWork r s).beside rs x := by
  unfold cmdAbortWork
  split
  · rw [show (s.beside rs x).store = s.store from rfl]
    split
    · rfl
    · rw [State.beside_abandonWork, (State.beside_writes _ rs x).1, State.beside_reply]
  · rfl

/-- Carrying a request out looks at neither the requests that wait nor the receivers, and moves neither (R161). -/
theorem carryOut_beside : carryOut r (s.beside rs x) = (carryOut r s).beside rs x := by
  unfold carryOut
  split
  · unfold cmdStatus; split <;> rfl
  · unfold cmdClearNotices; split <;> rfl
  · unfold cmdSetNotices; (repeat' split) <;> rfl
  · unfold cmdReadCapture; (repeat' split) <;> rfl
  · exact beside_bindSlot r s rs x
  · exact beside_unbindSlot r s rs x
  · unfold cmdSetSlot; split
    · split <;> rfl
    · rfl
  · unfold cmdReadSlot; (repeat' split) <;> rfl
  · unfold cmdSetEngine; (repeat' split) <;> rfl
  · unfold cmdReadEngine; split <;> rfl
  · unfold cmdWriteTable
    rw [show (s.beside rs x).store = s.store from rfl]
    (repeat' split) <;> rfl
  · exact beside_readTable r s rs x
  · exact beside_requestWork r s rs x .copyLive
  · exact beside_requestWork r s rs x .commit
  · exact beside_abortWork r s rs x
  · unfold cmdReadVoices; (repeat' split) <;> rfl
  · unfold cmdPanic; split
    · rw [State.beside_voiceFlush, State.beside_reply]
    · rfl
  · unfold cmdRestart; split
    · rw [State.beside_warmRestart, State.beside_reply]
    · rfl
  · rfl

end

/-- Settles O7: carrying a request out answers it once, and looks at neither the list nor the receivers. -/
theorem takenRequestIsAnsweredOnce : Obligations.TakenRequestIsAnsweredOnce := by
  unfold Obligations.TakenRequestIsAnsweredOnce
  refine ⟨fun id code args s hready => ?_, fun r s rs receivers => ?_⟩
  · have htaken := (exec_manage id code args s).trans (congrArg Host.Outcome.next (State.submit_ready hready _))
    obtain ⟨hrecv, -, hlist⟩ := hready
    obtain ⟨-, -, -, hrequests, hwaits⟩ := carryOut_frame ⟨id, code, args⟩
      { s with responder := { s.responder with waiting := true } }
    obtain ⟨before, st, pl, after, hps, hkind⟩ :=
      (carryOut_answer ⟨id, code, args⟩ { s with responder := { s.responder with waiting := true } }).replies.upstream
        (State.up_of_receives hrecv)
    exact ⟨htaken, _, before, st, pl, after, htaken, hps, hkind, hwaits, hrequests.trans hlist⟩
  · exact carryOut_beside r s rs receivers

end Sys2Proof.Machine

/-! Every step keeps the laws of the voice port and of the two receivers (R128, R134 to R136, R140, R184). -/

namespace Sys2Proof.Machine

open Sys2Proof

/-! ### The port -/

/-- The laws of the voice port together. -/
structure State.PortOk (s : State) : Prop where
  bounds : s.PortBounds
  detached : s.DetachedLaw
  stall : s.StallLaw
  allStop : s.AllStopLaw

/-- From s to t the port keeps its credit, its link and what it owes, and its queue takes no ALL_STOP. -/
structure State.Queues (s t : State) : Prop where
  length : s.port.queue.length ≤ 64 → t.port.queue.length ≤ 64
  credit : t.port.credit = s.port.credit
  attached : t.port.attached = s.port.attached
  owed : t.port.allStopOwed = s.port.allStopOwed
  mem : VoiceRecord.allStop ∈ t.port.queue → VoiceRecord.allStop ∈ s.port.queue
  tail : VoiceRecord.allStop ∈ t.port.queue.tail → VoiceRecord.allStop ∈ s.port.queue.tail

namespace State.Queues

variable {s t u : State}

theorem of_port (h : t.port = s.port) : s.Queues t := by
  constructor <;> rw [h] <;> exact id

theorem refl (s : State) : s.Queues s := of_port rfl

theorem trans (h : s.Queues t) (k : t.Queues u) : s.Queues u :=
  ⟨k.length ∘ h.length, k.credit.trans h.credit, k.attached.trans h.attached, k.owed.trans h.owed, h.mem ∘ k.mem,
    h.tail ∘ k.tail⟩

end State.Queues

/-- A record appended to a queue is the head or stands in its tail. -/
theorem tail_append_singleton {α : Type} (q : List α) (r : α) :
    (q ++ [r]).tail = [] ∨ (q ++ [r]).tail = q.tail ++ [r] := by
  cases q with
  | nil => exact .inl rfl
  | cons x xs => exact .inr rfl

theorem Moves.queues {s t : State} (h : Moves s t) : s.Queues t := by
  induction h with
  | refl => exact .refl s
  | @tail t _ _ hmove ih =>
    refine ih.trans ?_
    cases hmove with
    | raise c => exact .of_port (by simp)
    | inside h => exact .of_port h.port
    | thin q hlen hmem htail => exact ⟨fun h => hlen.trans h, rfl, rfl, rfl, hmem, htail⟩
    | append r hr hroom =>
      have hlast {q : List VoiceRecord} (h : VoiceRecord.allStop ∈ q ++ [r]) : VoiceRecord.allStop ∈ q :=
        (List.mem_append.mp h).resolve_right fun h => hr (List.mem_singleton.mp h).symm
      refine ⟨fun _ => ?_, rfl, rfl, rfl, hlast, fun h => ?_⟩
      · show (t.port.queue ++ [r]).length ≤ 64
        rw [List.length_append]
        exact hroom
      · have h : VoiceRecord.allStop ∈ (t.port.queue ++ [r]).tail := h
        obtain hnil | happend := tail_append_singleton t.port.queue r
        · rw [hnil] at h; cases h
        · rw [happend] at h; exact hlast h
    | settle => exact ⟨id, rfl, rfl, rfl, id, id⟩

namespace State.PortOk

variable {s t : State}

theorem of_port (h : s.PortOk) (hp : t.port = s.port) : t.PortOk := by
  obtain ⟨h1, h2, h3, h4⟩ := h
  constructor
  · rw [State.PortBounds, hp]; exact h1
  · rw [State.DetachedLaw, hp]; exact h2
  · rw [State.StallLaw, hp]; exact h3
  · rw [State.AllStopLaw, hp]; exact h4

theorem of_queues (h : s.PortOk) (k : s.Queues t) (hstall : t.StallLaw) : t.PortOk := by
  obtain ⟨⟨hlen, hcredit⟩, hdet, -, htail, howed⟩ := h
  refine ⟨⟨k.length hlen, k.credit ▸ hcredit⟩, fun hd => ?_, hstall, fun hm => htail (k.tail hm), fun ho => ?_⟩
  · rw [k.credit]; exact hdet (k.attached ▸ hd)
  · obtain ⟨hnone, hd⟩ := howed (k.owed ▸ ho)
    exact ⟨fun hm => hnone (k.mem hm), k.attached.trans hd⟩

theorem of_settles (h : s.PortOk) (k : Settles s t) : t.PortOk := h.of_queues k.moves.queues (k.stall h.stall)

theorem raise (h : s.PortOk) (c : Capture) : (s.raise c).PortOk := h.of_port (by simp)

/-- A flush empties the queue but for the ALL_STOP it places, or owes it where the port is DETACHED (R121, R140). -/
theorem voiceFlush (hcredit : s.port.credit ≤ 255) (hdet : s.DetachedLaw) {place : Bool}
    (hplace : place = false → s.port.attached = false) : (s.voiceFlush place).PortOk := by
  refine of_settles (s := s.flushPool place) ?_ (s.voiceFlush_settles place)
  refine ⟨⟨?_, hcredit⟩, hdet, State.settleStall_law _, ?_, fun howed => ?_⟩
  · cases place <;> simp [State.flushPool]
  · cases place <;> simp [State.flushPool]
  · have hplace' : place = false := by simpa [State.flushPool] using howed
    subst hplace'
    exact ⟨by simp [State.flushPool], hplace rfl⟩

theorem attach (h : s.PortOk) : s.attach.PortOk := by
  cases hdown : s.port.attached with
  | true => rw [State.attach, if_pos hdown]; exact h
  | false =>
    rw [State.attach_of_detached hdown]
    obtain ⟨⟨hlen, -⟩, -, -, htail, howed⟩ := h
    have hplaced : s.connectedPlaced.port.queue.length ≤ 64 ∧ s.connectedPlaced.port.credit = 0 ∧
        s.connectedPlaced.port.attached = true ∧ s.connectedPlaced.port.allStopOwed = false ∧
        VoiceRecord.allStop ∉ s.connectedPlaced.port.queue.tail := by
      unfold State.connectedPlaced
      split
      next ho =>
        obtain ⟨hnone, -⟩ := howed ho
        have hroom := s.connected.makeRoom_moves.queues
        have hnone' : VoiceRecord.allStop ∉ s.connected.makeRoom.port.queue := fun hm => hnone (hroom.mem hm)
        unfold State.placeAllStop State.enqueueHead
        dsimp only
        split
        next hspace => exact ⟨hspace, hroom.credit, hroom.attached, rfl, hnone'⟩
        · exact ⟨hroom.length hlen, hroom.credit, hroom.attached, rfl, fun hm => hnone' (List.mem_of_mem_tail hm)⟩
      next ho => exact ⟨hlen, rfl, rfl, Bool.eq_false_of_not_eq_true ho, htail⟩
    obtain ⟨hlen', hcredit, hup, howed', htail'⟩ := hplaced
    refine ⟨⟨?_, ?_⟩, fun hd => ?_, State.settleStall_law _, ?_, fun ho => ?_⟩
    · simpa using hlen'
    · simp [hcredit]
    · simp [hup] at hd
    · simpa using htail'
    · simp [howed'] at ho

theorem detach (h : s.PortOk) : s.detach.PortOk := by
  unfold State.detach
  split
  · exact (voiceFlush (Nat.zero_le _) (fun _ => rfl) fun _ => rfl).raise _
  · exact h

theorem transmit (h : s.PortOk) : s.transmit.PortOk := by
  unfold State.transmit
  split
  next r q _ hq =>
    obtain ⟨⟨hlen, hcredit⟩, hdet, -, htail, howed⟩ := h
    rw [hq, List.length_cons] at hlen
    rw [hq] at htail howed
    refine ⟨⟨?_, ?_⟩, fun hd => ?_, State.settleStall_law _, fun hm => ?_, fun ho => ?_⟩
    · simp; omega
    · simp; omega
    · simp only [State.settleStall_port, State.transmitted_frame] at hd ⊢
      rw [hdet hd]
    · simp only [State.settleStall_port, State.transmitted_frame] at hm
      exact htail (List.mem_of_mem_tail hm)
    · simp only [State.settleStall_port, State.transmitted_frame] at ho ⊢
      exact ⟨fun hm => (howed ho).1 (List.mem_cons_of_mem _ hm), (howed ho).2⟩
  · exact ⟨h.bounds, h.detached, h.stall, h.allStop⟩

theorem grant (h : s.PortOk) (hup : s.port.attached = true) (n : Nat) : (s.addCredit n).PortOk :=
  ⟨⟨h.bounds.1, Nat.min_le_left ..⟩, fun hd => absurd (hup.symm.trans hd) (by decide), State.settleStall_law _,
    h.allStop⟩

theorem stallExpiry (h : s.PortOk) : s.stallExpiry.PortOk := by
  unfold State.stallExpiry
  split
  · exact h
  next hruns =>
    have hstalled : true = s.port.stalled := by
      rw [← show s.port.stallTimer.isSome = s.port.stalled from h.stall]
      simpa using Option.isSome_iff_ne_none.mpr (by simpa using hruns)
    have hstarted : State.PortOk
        { s with port := { s.port with stallTimer := some s.responder.engine.stallTime } } :=
      ⟨h.bounds, h.detached, hstalled, h.allStop⟩
    exact hstarted.raise _

theorem warmRestart (h : s.PortOk) : s.warmRestart.PortOk := by
  obtain ⟨hn, hc, hp, -, -⟩ := s.abandonWork_samePorts
  have hflush : (s.abandonWork.voiceFlush true).PortOk :=
    voiceFlush (by rw [hp]; exact h.bounds.2) (by rw [State.DetachedLaw, hp]; exact h.detached) nofun
  have hslots := hflush.of_settles (Settles.foldl State.restartSlot_settles _ (List.finRange 8))
  unfold State.warmRestart
  dsimp only
  generalize List.foldl State.restartSlot _ _ = t at hslots ⊢
  exact hslots.of_port rfl

theorem of_answer {r : Request} (h : s.PortOk) (k : Answer r s t) : t.PortOk := by
  cases k with
  | bind i t => exact (h.of_settles (s.bind_settles i t)).of_port (by simp)
  | unbind i => exact (h.of_settles (s.unbind_settles i)).of_port (by simp)
  | panic => exact (voiceFlush (place := true) h.bounds.2 h.detached nofun).of_port (by simp)
  | restart => exact h.warmRestart.of_port (by simp)
  | _ => exact h.of_port (by simp)

theorem of_carryOut (h : s.PortOk) (r : Request) : (carryOut r s).PortOk := h.of_answer (carryOut_answer r s)

theorem of_linkMove (h : s.PortOk) (k : LinkMove s t) : t.PortOk := by
  cases k with
  | attach => exact h.attach
  | detach => exact h.detach
  | cut l => exact h.raise _
  | _ => exact h.of_port rfl

theorem of_linkMoves (h : s.PortOk) (k : LinkMoves s t) : t.PortOk := by
  induction k with
  | refl => exact h
  | tail _ hmove ih => exact ih.of_linkMove hmove

theorem of_happens (h : s.PortOk) (k : Happens s t) : t.PortOk := by
  cases k with
  | powerOn =>
    obtain ⟨-, -, -, -, -, -, -, -, -, -, -, hqueue, hbounds, hstall, hdet, -⟩ := lawsHoldAtReset
    obtain ⟨-, -, -, hallStop, -⟩ := hqueue
    exact ⟨hbounds, hdet, hstall, hallStop⟩
  | sense fields p i => exact h.of_settles (s.takePacket_settles i p)
  | served r x rest => exact of_carryOut (by exact h.of_port rfl) x
  | takes p rest x xs => exact of_carryOut (by exact h.of_port rfl) x
  | lossExpiry i => exact h.of_settles (s.lossExpiry_settles i)
  | stallExpiry => exact h.stallExpiry
  | transmit => exact h.transmit
  | grant n hup => exact h.grant hup n
  | hears l xs => exact h.of_linkMoves (s.hearAll_moves l xs)
  | cut l xs => exact h.of_linkMoves (s.packetCut_moves l xs)
  | _ => exact h.of_port (by simp)

end State.PortOk

/-- Settles every part of O59 that speaks of the port. -/
theorem State.PortOk.of_step {s t : State} (h : s.PortOk) (hstep : step s = .next t) : t.PortOk :=
  kept_of_happens (P := State.PortOk) (Q := State.PortOk) (fun _ _ h => h.of_port rfl) (fun _ h => h)
    (fun _ _ h k => h.of_happens k) h hstep

/-! ### The receivers (R184) -/

/-- The laws of a receiver and its link while groups are read: a packet may be arriving, in lock. -/
structure Receiver.Lawful (r : Receiver) (up : Bool) : Prop where
  lock : r.locked = true ↔ r.validGroups = 16
  groups : r.validGroups ≤ 16
  locked : r.locked = true → up = true ∧ r.lockless = 0
  lockless : r.lockless ≤ 256
  lasts : up = true → r.lockless < 256
  inside : r.packet = .inside → r.locked = true
  cut : r.packet = .cut → up = true ∧ r.locked = false

theorem Receiver.ok_iff (r : Receiver) (up : Bool) : r.Ok up ↔ r.Lawful up ∧ r.packet ≠ .inside := by
  constructor
  · rintro ⟨h1, h2, h3, h4, h5, h6, h7⟩
    exact ⟨⟨h1, h2, h3, h4, h5, fun h => absurd h h6, h7⟩, h6⟩
  · rintro ⟨⟨h1, h2, h3, h4, h5, -, h7⟩, h6⟩
    exact ⟨h1, h2, h3, h4, h5, h6, h7⟩

/-- Done with its packet a receiver stays lawful. -/
theorem Receiver.Lawful.ended {r : Receiver} {up : Bool} (h : r.Lawful up) :
    Receiver.Lawful { r with packet := .none } up :=
  ⟨h.lock, h.groups, h.locked, h.lockless, h.lasts, nofun, nofun⟩

/-- A group that does not keep lock leaves at most one valid group counted (R184). -/
theorem Receiver.run_of_loses {r : Receiver} {x : Reading} (h : r.keepsLock x = false) : r.run x ≤ 1 := by
  unfold Receiver.run
  split
  · exact Nat.zero_le _
  next hvalid =>
    split
    next hsame =>
      exfalso
      simp [Receiver.keepsLock, hsame] at h
      simp [h] at hvalid
    · exact le_rfl

section
variable (s : State) (l m : Link)

@[simp] theorem State.receiver_setReceiver (r : Receiver) :
    (s.setReceiver l r).receiver m = if l = m then r else s.receiver m := by
  cases l <;> cases m <;> rfl

@[simp] theorem State.linkUp_setReceiver (r : Receiver) : (s.setReceiver l r).linkUp m = s.linkUp m := by
  cases m <;> rfl

@[simp] theorem State.linkUp_endPacket : (s.endPacket l).linkUp m = s.linkUp m := s.linkUp_setReceiver l m _

theorem State.receiver_endPacket :
    (s.endPacket l).receiver m = if l = m then { s.receiver l with packet := .none } else s.receiver m :=
  s.receiver_setReceiver l m _

/-- Receivers and links stand alike where the receivers, the collector link and the port's attachment do. -/
theorem State.link_congr {s t : State} (hr : t.receivers = s.receivers) (hc : t.collector.up = s.collector.up)
    (hp : t.port.attached = s.port.attached) (m : Link) : t.receiver m = s.receiver m ∧ t.linkUp m = s.linkUp m := by
  cases m <;> simp [State.receiver, State.linkUp, hr, hc, hp]

theorem State.detach_attached : s.detach.port.attached = false := by
  unfold State.detach
  split
  · simp [State.voiceFlush, State.flushPool]
  next h => simpa using h

theorem State.attach_attached : s.attach.port.attached = true := by
  cases h : s.port.attached with
  | true => rw [State.attach, if_pos h]; exact h
  | false =>
    rw [State.attach_of_detached h]
    simp only [State.settleStall_port, State.raise_frame]
    unfold State.connectedPlaced
    split
    · unfold State.placeAllStop State.enqueueHead
      dsimp only
      split <;> exact s.connected.makeRoom_moves.queues.attached
    · rfl

/-- The loss of a link leaves it down, with its receiver in no packet where the link was up; the other link stays
(R184). -/
theorem State.lineDown_link :
    (s.lineDown l).linkUp m = (if l = m then false else s.linkUp m) ∧
      (s.lineDown l).receiver m =
        if l = m ∧ s.linkUp l = true then { s.receiver l with packet := .none } else s.receiver m := by
  unfold State.lineDown
  cases hup : s.linkUp l with
  | false =>
    refine ⟨?_, by simp⟩
    by_cases h : l = m
    · subst h; simp [hup]
    · simp [h]
  | true =>
    cases l with
    | collector =>
      cases m <;>
        simp [State.collectorDown, State.endPacket, State.setReceiver, State.linkUp, State.receiver]
    | voice =>
      have hreceivers := (State.detach_frame (s.endPacket .voice)).2.2.1
      have hcollector := (State.detach_frame (s.endPacket .voice)).2.2.2.2
      cases m
      · refine ⟨hcollector, ?_⟩
        show (s.endPacket .voice).detach.receivers.collector = _
        rw [hreceivers]; rfl
      · refine ⟨State.detach_attached _, ?_⟩
        show (s.endPacket .voice).detach.receivers.voice = _
        rw [hreceivers]; rfl

/-- The gain of lock leaves its link up and its receiver in no packet; the other link stays (R184). -/
theorem State.lineUp_link :
    (s.lineUp l).linkUp m = (if l = m then true else s.linkUp m) ∧
      (s.lineUp l).receiver m = if l = m then { s.receiver l with packet := .none } else s.receiver m := by
  unfold State.lineUp
  cases hup : s.linkUp l with
  | true =>
    rw [if_pos rfl]
    obtain ⟨-, -, hport, -, -, -, hreceivers, -, hcollector⟩ :=
      State.raiseIf_frame (s.endPacket l) (decide ((s.receiver l).packet = .cut)) (.corrupt .length l)
    obtain ⟨hr, hu⟩ := State.link_congr hreceivers hcollector (congrArg VoicePort.attached hport) m
    rw [hr, hu, State.receiver_endPacket, State.linkUp_endPacket]
    refine ⟨?_, rfl⟩
    by_cases h : l = m
    · subst h; simp [hup]
    · simp [h]
  | false =>
    rw [if_neg (by decide)]
    cases l with
    | collector => cases m <;> exact ⟨rfl, rfl⟩
    | voice =>
      obtain ⟨-, -, -, -, hreceivers, -, hcollector⟩ := State.attach_frame (s.endPacket .voice)
      cases m
      · refine ⟨hcollector, ?_⟩
        show (s.endPacket .voice).attach.receivers.collector = _
        rw [hreceivers]; rfl
      · refine ⟨State.attach_attached _, ?_⟩
        show (s.endPacket .voice).attach.receivers.voice = _
        rw [hreceivers]; rfl

end

/-- Both receivers are lawful while groups are read. -/
def State.LinksLawful (s : State) : Prop := ∀ m : Link, (s.receiver m).Lawful (s.linkUp m)

/-- A reading keeps both receivers lawful: what gains lock brings its link up, and what has been without it for too
long brings it down (R184). -/
theorem State.LinksLawful.hear {s : State} (h : s.LinksLawful) (l : Link) (x : Reading) :
    (State.hear l s x).LinksLawful := by
  have hl := h l
  rcases (s.receiver l).read_cases x with
    ⟨hlocked, hkeeps, -⟩ | ⟨hlocked, hloses, hread⟩ | ⟨hopen, hgains, hread⟩ | ⟨hopen, hfew, hread⟩
  · rw [State.hear_inLock hlocked hkeeps]
    exact h
  · rw [State.hear_losesLock hlocked, hread]
    intro m
    rw [State.receiver_setReceiver, State.linkUp_setReceiver]
    split
    next hm =>
      subst hm
      obtain ⟨hup, -⟩ := hl.locked hlocked
      have hrun := Receiver.run_of_loses hloses
      refine ⟨⟨nofun, fun he => ?_⟩, ?_, nofun, Nat.zero_le _, fun _ => by simp, fun hi => ?_, fun _ => ⟨hup, rfl⟩⟩
      · simp only at he; omega
      · simp only; omega
      · simp only at hi
        split at hi
        · cases hi
        next hnot => exact absurd hi hnot
    next => exact h m
  all_goals
    have hinside : (s.receiver l).packet ≠ .inside := fun hi => by simp [hl.inside hi] at hopen
    intro m
    unfold State.hear
    simp only [hopen, Bool.false_eq_true, if_false, hread]
  · have hrun := (s.receiver l).run_le x
    have hsixteen : (s.receiver l).run x = 16 := by omega
    simp only [if_true]
    obtain ⟨hu, hr⟩ := State.lineUp_link
      (if lossSymbols ≤ (s.receiver l).lockless + (s.receiver l).elapsed x then
        (s.setReceiver l ⟨true, x.alignment, (s.receiver l).run x, 0, (s.receiver l).packet⟩).lineDown l
      else s.setReceiver l ⟨true, x.alignment, (s.receiver l).run x, 0, (s.receiver l).packet⟩) l m
    rw [hu, hr]
    by_cases hm : l = m
    · subst hm
      simp only [if_true]
      have hgained (p : PacketProgress) : Receiver.Lawful
          { (⟨true, x.alignment, (s.receiver l).run x, 0, p⟩ : Receiver) with packet := .none } true :=
        ⟨by simp [hsixteen], by simp [hsixteen], fun _ => ⟨rfl, rfl⟩, Nat.zero_le _, fun _ => by simp, nofun, nofun⟩
      split
      · rw [(State.lineDown_link _ l l).2]
        split <;> simpa using hgained .none
      · simpa using hgained .none
    · simp only [hm, if_false]
      split
      · rw [(State.lineDown_link _ l m).1, (State.lineDown_link _ l m).2]
        simpa [hm] using h m
      · simpa [hm] using h m
  · split
    next hlong =>
      rw [(State.lineDown_link _ l m).1, (State.lineDown_link _ l m).2]
      by_cases hm : l = m
      · subst hm
        simp only [true_and, if_true, State.linkUp_setReceiver, State.receiver_setReceiver]
        have hends (p : PacketProgress) (hi : p ≠ .inside) (hc : p ≠ .cut) : Receiver.Lawful
            ⟨false, x.alignment, (s.receiver l).run x,
              min lossSymbols ((s.receiver l).lockless + (s.receiver l).elapsed x), p⟩ false :=
          ⟨by simp; omega, by simp; omega, nofun, Nat.min_le_left .., nofun, fun h => absurd h hi,
            fun h => absurd h hc⟩
        split
        · exact hends .none nofun nofun
        next hdown => exact hends _ hinside fun hc => hdown (hl.cut hc).1
      · simpa [hm] using h m
    next hshort =>
      have hshort : (s.receiver l).lockless + (s.receiver l).elapsed x < 256 := Nat.lt_of_not_le hshort
      simp only [State.linkUp_setReceiver, State.receiver_setReceiver]
      split
      next hm =>
        subst hm
        refine ⟨by simp; omega, by simp; omega, nofun, Nat.min_le_left .., fun _ => ?_, fun hi => absurd hi hinside,
          fun hc => ⟨(hl.cut hc).1, rfl⟩⟩
        simp only
        omega
      next => exact h m

theorem State.LinksLawful.hearAll {s : State} (h : s.LinksLawful) (l : Link) (xs : List Reading) :
    (s.hearAll l xs).LinksLawful := by
  induction xs generalizing s with
  | nil => exact h
  | cons x xs ih => exact ih (h.hear l x)

theorem State.receiverLaws_iff (s : State) :
    s.ReceiverLaws ↔ s.LinksLawful ∧ ∀ m : Link, (s.receiver m).packet ≠ .inside := by
  simp only [State.ReceiverLaws, Receiver.ok_iff]
  constructor
  · rintro ⟨⟨hc, ic⟩, hv, iv⟩
    exact ⟨fun m => by cases m <;> assumption, fun m => by cases m <;> assumption⟩
  · rintro ⟨h, i⟩
    exact ⟨⟨h .collector, i .collector⟩, h .voice, i .voice⟩

/-- The other receiver does not move while the receiver of a link reads groups. -/
theorem State.hear_receiver_ne (s : State) {l m : Link} (hne : l ≠ m) (x : Reading) :
    (State.hear l s x).receiver m = s.receiver m := by
  unfold State.hear
  dsimp only
  (repeat' split) <;> simp [State.lineDown_link, State.lineUp_link, hne]

theorem State.hearAll_receiver_ne (s : State) {l m : Link} (hne : l ≠ m) (xs : List Reading) :
    (s.hearAll l xs).receiver m = s.receiver m := by
  induction xs generalizing s with
  | nil => rfl
  | cons x xs ih => rw [State.hearAll_cons, ih, State.hear_receiver_ne s hne]

/-- No reading makes a receiver take up a packet. -/
theorem State.hear_packet_ne_inside (s : State) (l : Link) (x : Reading) (h : (s.receiver l).packet ≠ .inside) :
    ((State.hear l s x).receiver l).packet ≠ .inside := by
  have hread : ((s.receiver l).read x).packet ≠ .inside := by
    rcases (s.receiver l).read_cases x with ⟨-, -, hr⟩ | ⟨-, -, hr⟩ | ⟨-, -, hr⟩ | ⟨-, -, hr⟩ <;> rw [hr]
    · exact h
    · simp [h]
    · exact h
    · exact h
  unfold State.hear
  dsimp only
  (repeat' split) <;> simp [State.lineDown_link, State.lineUp_link, hread]
  split <;> simp [hread]

theorem State.hearAll_packet_ne_inside (s : State) (l : Link) (xs : List Reading)
    (h : (s.receiver l).packet ≠ .inside) : ((s.hearAll l xs).receiver l).packet ≠ .inside := by
  induction xs generalizing s with
  | nil => exact h
  | cons x xs ih => exact ih _ (s.hear_packet_ne_inside l x h)

theorem State.receiverLaws_hearAll {s : State} (h : s.ReceiverLaws) (l : Link) (xs : List Reading) :
    (s.hearAll l xs).ReceiverLaws := by
  rw [State.receiverLaws_iff] at h ⊢
  refine ⟨h.1.hearAll l xs, fun m => ?_⟩
  by_cases hm : l = m
  · subst hm; exact s.hearAll_packet_ne_inside l xs (h.2 l)
  · rw [State.hearAll_receiver_ne s hm]; exact h.2 m

/-- A packet begins to arrive where one can be received (R184, log 16). -/
def State.openPacket (s : State) (l : Link) : State :=
  if s.receives l then s.setReceiver l { s.receiver l with packet := .inside } else s

/-- A packet that was not cut has arrived. -/
def State.closePacket (s : State) (l : Link) : State :=
  if (s.receiver l).packet = .inside then s.endPacket l else s

theorem State.packetCut_eq (s : State) (l : Link) (xs : List Reading) :
    s.packetCut l xs = ((s.openPacket l).hearAll l xs).closePacket l := rfl

/-- A packet that arrives is cut or ends; between commands none is arriving (R184, log 16). -/
theorem State.receiverLaws_packetCut {s : State} (h : s.ReceiverLaws) (l : Link) (xs : List Reading) :
    (s.packetCut l xs).ReceiverLaws := by
  rw [State.receiverLaws_iff] at h ⊢
  obtain ⟨hlawful, hnone⟩ := h
  have hstart : (s.openPacket l).LinksLawful ∧ ∀ m, l ≠ m → (s.openPacket l).receiver m = s.receiver m := by
    unfold State.openPacket
    split
    next hrecv =>
      refine ⟨fun m => ?_, fun m hm => by simp [hm]⟩
      rw [State.receiver_setReceiver, State.linkUp_setReceiver]
      split
      next hm =>
        subst hm
        have hlocked : (s.receiver l).locked = true := by
          simp only [State.receives, Bool.and_eq_true] at hrecv
          exact hrecv.2
        have hl := hlawful l
        exact ⟨hl.lock, hl.groups, hl.locked, hl.lockless, hl.lasts, fun _ => hlocked, nofun⟩
      · exact hlawful m
    · exact ⟨hlawful, fun _ _ => rfl⟩
  have hread := hstart.1.hearAll l xs
  have hother := fun m (hm : l ≠ m) => (State.hearAll_receiver_ne (s.openPacket l) hm xs).trans (hstart.2 m hm)
  rw [State.packetCut_eq]
  unfold State.closePacket
  split
  next hin =>
    refine ⟨fun m => ?_, fun m => ?_⟩ <;> rw [State.receiver_endPacket]
    · rw [State.linkUp_endPacket]
      split
      next hm => subst hm; exact (hread l).ended
      · exact hread m
    · split
      · simp
      next hm => rw [hother m hm]; exact hnone m
  next hout =>
    refine ⟨hread, fun m => ?_⟩
    by_cases hm : l = m
    · subst hm; exact hout
    · rw [hother m hm]; exact hnone m

/-- The receivers' laws depend on the receivers and on which links are up. -/
theorem State.receiverLaws_congr {s t : State} (h : s.ReceiverLaws) (hr : t.receivers = s.receivers)
    (hc : t.collector.up = s.collector.up) (hp : t.port.attached = s.port.attached) : t.ReceiverLaws := by
  rw [State.ReceiverLaws, hr, hc, hp]
  exact h

/-- No request attaches or detaches the voice port. -/
theorem Answer.attached {r : Request} {s t : State} (h : Answer r s t) : t.port.attached = s.port.attached := by
  cases h with
  | bind i t => simpa using (s.bind_settles i t).moves.queues.attached
  | unbind i => simpa using (s.unbind_settles i).moves.queues.attached
  | panic => simp [State.voiceFlush, State.flushPool]
  | restart => simp [State.warmRestart, State.voiceFlush, State.flushPool]
  | _ => simp

theorem State.receiverLaws_carryOut {s : State} (h : s.ReceiverLaws) (r : Request) :
    (carryOut r s).ReceiverLaws := by
  obtain ⟨-, hup, hreceivers, -, -⟩ := carryOut_frame r s
  exact State.receiverLaws_congr h hreceivers hup (carryOut_answer r s).attached

theorem State.receiverLaws_of_settles {s t : State} (h : s.ReceiverLaws) (k : Settles s t)
    (hr : t.receivers = s.receivers) : t.ReceiverLaws :=
  State.receiverLaws_congr h hr k.reports.up k.moves.queues.attached

theorem State.receiverLaws_of_happens {s t : State} (h : s.ReceiverLaws) (k : Happens s t) : t.ReceiverLaws := by
  cases k with
  | powerOn =>
    obtain ⟨-, -, -, -, -, -, -, -, -, -, -, -, -, -, -, hreceivers, -⟩ := lawsHoldAtReset
    exact hreceivers
  | sense fields p i => exact State.receiverLaws_of_settles h (s.takePacket_settles i p) (by simp)
  | served r x rest => exact State.receiverLaws_carryOut (by exact State.receiverLaws_congr h rfl rfl rfl) x
  | takes p rest x xs => exact State.receiverLaws_carryOut (by exact State.receiverLaws_congr h rfl rfl rfl) x
  | lossExpiry i => exact State.receiverLaws_of_settles h (s.lossExpiry_settles i) (by simp)
  | stallExpiry =>
    refine State.receiverLaws_congr h (by simp) (by simp) ?_
    unfold State.stallExpiry
    split <;> simp
  | transmit =>
    refine State.receiverLaws_congr h (by simp) (by simp) ?_
    unfold State.transmit
    split <;> simp
  | grant n => exact State.receiverLaws_congr h rfl rfl rfl
  | hears l xs => exact State.receiverLaws_hearAll h l xs
  | cut l xs => exact State.receiverLaws_packetCut h l xs
  | _ => exact State.receiverLaws_congr h (by simp) (by simp) (by simp)

/-- Settles O59: the port's laws move with its queue, the receivers' with the groups they read. -/
theorem portLawsKept : Obligations.PortLawsKept := by
  unfold Obligations.PortLawsKept
  intro s t hbounds hdetached hstall hallStop hreceivers hstep
  obtain ⟨kbounds, kdetached, kstall, kallStop⟩ :=
    State.PortOk.of_step ⟨hbounds, hdetached, hstall, hallStop⟩ hstep
  exact ⟨kbounds, kdetached, kstall, kallStop,
    kept_of_happens (P := State.ReceiverLaws) (Q := State.ReceiverLaws) (fun _ _ h => h) (fun _ h => h)
      (fun _ _ h k => State.receiverLaws_of_happens h k) hreceivers hstep⟩

end Sys2Proof.Machine

/-! Every step keeps the ranges of slots, tables, records and engine settings. -/

namespace Sys2Proof.Machine

open Sys2Proof

/-! ### The ranges together -/

/-- A voice's last queued values lie in their ranges (R102). -/
def Voice.LastsOk (x : Voice) : Prop := x.lastPitch ≤ 8191 ∧ x.lastLevel ≤ 16383

/-- Every range that the certificates speak of. -/
structure State.Ranges (s : State) : Prop where
  tables : s.TablesOk
  slots : ∀ i : SlotIx, (s.slot i).InRange
  records : ∀ r ∈ s.port.queue, r.inRange = true
  voices : ∀ v : VoiceIx, (s.voice v).LastsOk
  engine : s.EngineRanges

/-! ### One slot -/

/-- A layer entry that becomes absent leaves the slot within its ranges. -/
theorem Slot.inRange_dropVoice {x : Slot} (h : x.InRange) (v : VoiceIx) : (dropVoice v x).InRange := by
  obtain ⟨h1, h2, h3, h4, h5, h6, h7⟩ := h
  exact ⟨h1, h2, h3, h4, h5, h6, by rw [(dropVoice_layers v x).1]; exact h7⟩

/-- A slot whose layer list is replaced by one of at most four entries. -/
theorem Slot.inRange_layers {x : Slot} (h : x.InRange) {es : List (Option VoiceIx)} (hes : es.length ≤ 4) :
    Slot.InRange { x with layers := es } := by
  obtain ⟨h1, h2, h3, h4, h5, h6, -⟩ := h
  exact ⟨h1, h2, h3, h4, h5, h6, hes⟩

/-- The count of a run stays within 8 (R31). -/
theorem Slot.inRange_countRun {x : Slot} (h : x.InRange) (gap : Bool) (ks : KeySet) : (x.countRun gap ks).InRange := by
  obtain ⟨h1, h2, -, h4, h5, h6, h7⟩ := h
  unfold Slot.countRun
  split
  · exact ⟨h1, h2, Nat.min_le_left .., h4, h5, h6, h7⟩
  · exact ⟨h1, h2, (by decide : 1 ≤ 8), h4, h5, h6, h7⟩

/-- Pending values within their ranges leave the settings within theirs when they are applied (R9). -/
theorem Slot.inRange_applyPending {x : Slot} (h : x.InRange) : x.applyPending.InRange := by
  obtain ⟨hset, hpend, hrest⟩ := h
  unfold Slot.applyPending
  split
  · exact ⟨hset, hpend, hrest⟩
  next p hp =>
    rw [hp] at hpend
    obtain ⟨htranspose, hroller⟩ : p.Ok := of_decide_eq_true hpend
    obtain ⟨h1, h2, h3, h4, h5, h6, h7, h8, h9, h10⟩ := hset
    refine ⟨⟨h1, h2, h3, h4, h5, h6, ?_, h8, ?_, h10⟩, rfl, hrest⟩
    · cases ht : p.transpose with
      | none => exact h7
      | some v => simpa [ht] using htranspose
    · cases hr : p.rollerCenter with
      | none => exact h9
      | some v => simpa [hr] using hroller

namespace State.Ranges

variable {s t : State}

/-- The ranges read slots, banks, voices, the queue and the engine settings. -/
theorem of_same (h : s.Ranges) (hslot : ∀ i, t.slot i = s.slot i) (hbank : ∀ b, t.bank b = s.bank b)
    (hvoice : ∀ v, t.voice v = s.voice v) (hqueue : t.port.queue = s.port.queue)
    (hengine : t.responder.engine = s.responder.engine) : t.Ranges := by
  refine ⟨fun b => ?_, fun i => ?_, ?_, fun v => ?_, ?_⟩
  · rw [hbank]; exact h.tables b
  · rw [hslot]; exact h.slots i
  · rw [hqueue]; exact h.records
  · rw [hvoice]; exact h.voices v
  · rw [State.EngineRanges, hengine]; exact h.engine

theorem raise (h : s.Ranges) (c : Capture) : (s.raise c).Ranges :=
  h.of_same (by simp) (by simp) (by simp) (by simp) (by simp)

theorem raiseIf (h : s.Ranges) (b : Bool) (c : Capture) : (s.raiseIf b c).Ranges :=
  h.of_same (by simp) (by simp) (by simp) (by simp) (by simp)

theorem settle (h : s.Ranges) : s.settleStall.Ranges :=
  h.of_same (by simp) (by simp) (by simp) (by simp) (by simp)

theorem setAgeList (h : s.Ranges) (l : List VoiceIx) : (s.setAgeList l).Ranges :=
  h.of_same (fun _ => rfl) (fun _ => rfl) (fun _ => rfl) rfl rfl

theorem setReleaseList (h : s.Ranges) (l : List VoiceIx) : (s.setReleaseList l).Ranges :=
  h.of_same (fun _ => rfl) (fun _ => rfl) (fun _ => rfl) rfl rfl

theorem setQueue (h : s.Ranges) {q : List VoiceRecord} (hq : ∀ r ∈ q, r.inRange = true) : (s.setQueue q).Ranges :=
  ⟨h.tables, h.slots, hq, h.voices, h.engine⟩

theorem thin (h : s.Ranges) {q : List VoiceRecord} (hq : q.Sublist s.port.queue) : (s.setQueue q).Ranges :=
  h.setQueue fun r hr => h.records r (hq.subset hr)

theorem modSlot (h : s.Ranges) {i : SlotIx} {f : Slot → Slot} (hf : (f (s.slot i)).InRange) :
    (s.modSlot i f).Ranges := by
  refine ⟨h.tables, fun j => ?_, h.records, h.voices, h.engine⟩
  rw [State.slot_modSlot]
  split
  · exact hf
  · exact h.slots j

theorem setVoice (h : s.Ranges) {v : VoiceIx} {x : Voice} (hx : x.LastsOk) : (s.setVoice v x).Ranges := by
  refine ⟨h.tables, h.slots, h.records, fun w => ?_, h.engine⟩
  rw [State.voice_setVoice]
  split
  · exact hx
  · exact h.voices w

theorem modVoice (h : s.Ranges) {v : VoiceIx} {f : Voice → Voice} (hf : (f (s.voice v)).LastsOk) :
    (s.modVoice v f).Ranges := h.setVoice hf

theorem setBank (h : s.Ranges) {b : BankIx} {x : Bank} (hx : x.Ok) : (s.setBank b x).Ranges := by
  refine ⟨fun d => ?_, h.slots, h.records, h.voices, h.engine⟩
  rw [State.bank_setBank]
  split
  · exact hx
  · exact h.tables d

theorem setBankState (h : s.Ranges) (b : BankIx) (x : BankState) : (s.setBankState b x).Ranges :=
  h.setBank (h.tables b)

theorem setWork (h : s.Ranges) (ws : List Work) : (s.setWork ws).Ranges :=
  h.of_same (fun _ => rfl) (fun _ => rfl) (fun _ => rfl) rfl rfl

theorem push (h : s.Ranges) (p : Upstream) : (s.push p).Ranges :=
  h.of_same (fun _ => rfl) (fun _ => rfl) (fun _ => rfl) rfl rfl

/-! ### Banks -/

theorem drain (h : s.Ranges) : s.drain.Ranges := by
  have one {t : State} (h : t.Ranges) (b : BankIx) : (t.drainBank b).Ranges := by
    unfold State.drainBank
    split
    · exact h.setBankState b _
    · exact h
  exact one (one h 0) 1

theorem switchBank (h : s.Ranges) (i : SlotIx) : (s.switchBank i).Ranges := (h.modSlot (h.slots i)).drain

/-! ### The queue -/

theorem oweRefresh (h : s.Ranges) (r : VoiceRecord) : (s.oweRefresh r).Ranges := by
  unfold State.oweRefresh
  split
  · exact h.modVoice (h.voices _)
  · exact h.modVoice (h.voices _)
  · exact h

theorem makeRoom (h : s.Ranges) : s.makeRoom.Ranges := by
  rcases s.makeRoom_cases with ⟨-, he⟩ | ⟨-, ⟨-, he⟩ | ⟨r, q, hevict, he⟩⟩ <;> rw [he]
  · exact h
  · exact h
  · unfold State.noteEviction
    split
    · exact ((h.thin (evictFrom_sublist hevict)).oweRefresh r).raise _
    · exact h.thin (evictFrom_sublist hevict)

theorem append (h : s.Ranges) {r : VoiceRecord} (hr : r.inRange = true) :
    (s.setQueue (s.port.queue ++ [r])).Ranges :=
  h.setQueue fun x hx => (List.mem_append.mp hx).elim (h.records x) fun hx => List.mem_singleton.mp hx ▸ hr

theorem enqueue (h : s.Ranges) {r : VoiceRecord} (hr : r.inRange = true) : (s.enqueue r).Ranges := by
  unfold State.enqueue
  dsimp only
  split
  · exact h.makeRoom.append hr
  · exact h.makeRoom

theorem enqueueHead (h : s.Ranges) {r : VoiceRecord} (hr : r.inRange = true) : (s.enqueueHead r).Ranges := by
  unfold State.enqueueHead
  dsimp only
  split
  · exact h.makeRoom.setQueue fun x hx => (List.mem_cons.mp hx).elim (· ▸ hr) (h.makeRoom.records x)
  · exact h.makeRoom

/-- A merged pitch code within its range keeps every record within its ranges (R126). -/
theorem mergeRetune (h : s.Ranges) {v : VoiceIx} {g : Byte} {p : Nat} (hp : p ≤ 8191) {q : List VoiceRecord}
    (hq : mergeRetune v g p s.port.queue = some q) : (s.setQueue q).Ranges := by
  refine h.setQueue fun r hr => ?_
  unfold Machine.mergeRetune at hq
  split at hq
  · obtain ⟨x, hx, rfl⟩ := List.mem_map.mp (Option.some.inj hq ▸ hr)
    have hold := h.records x hx
    cases x with
    | start v' g' c pg pc vel l =>
      rw [VoiceRecord.inRange_start] at hold
      dsimp only
      split <;> rw [VoiceRecord.inRange_start]
      · exact ⟨hold.1, hold.2.1, hp, hold.2.2.2⟩
      · exact hold
    | _ => exact hold
  · split at hq
    · obtain ⟨x, hx, rfl⟩ := List.mem_map.mp (Option.some.inj hq ▸ hr)
      split
      · exact (VoiceRecord.inRange_retune v g p).mpr hp
      · exact h.records x hx
    · cases hq

/-- A merged level within its range keeps every record within its ranges (R126). -/
theorem mergeLevel (h : s.Ranges) {v : VoiceIx} {g : Byte} {l : Nat} (hl : l ≤ 16383) {q : List VoiceRecord}
    (hq : mergeLevel v g l s.port.queue = some q) : (s.setQueue q).Ranges := by
  refine h.setQueue fun r hr => ?_
  unfold Machine.mergeLevel at hq
  split at hq
  · obtain ⟨x, hx, rfl⟩ := List.mem_map.mp (Option.some.inj hq ▸ hr)
    have hold := h.records x hx
    cases x with
    | start v' g' c pg pc vel l =>
      rw [VoiceRecord.inRange_start] at hold
      dsimp only
      split <;> rw [VoiceRecord.inRange_start]
      · exact ⟨hold.1, hold.2.1, hold.2.2.1, hold.2.2.2.1, hl⟩
      · exact hold
    | _ => exact hold
  · split at hq
    · obtain ⟨x, hx, rfl⟩ := List.mem_map.mp (Option.some.inj hq ▸ hr)
      split
      · exact (VoiceRecord.inRange_level v g l).mpr hl
      · exact h.records x hx
    · cases hq

theorem offerRetune (h : s.Ranges) (v : VoiceIx) {p : Nat} (hp : p ≤ 8191) : (s.offerRetune v p).Ranges := by
  unfold State.offerRetune
  dsimp only
  split
  next q hq =>
    exact ((h.mergeRetune hp hq).modVoice ⟨hp, ((h.mergeRetune hp hq).voices v).2⟩).settle
  next =>
    have he := h.enqueue ((VoiceRecord.inRange_retune v (s.voice v).generation p).mpr hp)
    exact (he.modVoice ⟨hp, (he.voices v).2⟩).settle

theorem offerLevel (h : s.Ranges) (v : VoiceIx) {l : Nat} (hl : l ≤ 16383) : (s.offerLevel v l).Ranges := by
  unfold State.offerLevel
  dsimp only
  split
  next q hq =>
    exact ((h.mergeLevel hl hq).modVoice ⟨((h.mergeLevel hl hq).voices v).1, hl⟩).settle
  next =>
    have he := h.enqueue ((VoiceRecord.inRange_level v (s.voice v).generation l).mpr hl)
    exact (he.modVoice ⟨(he.voices v).1, hl⟩).settle

/-! ### The pool -/

theorem cutFormer (h : s.Ranges) (v : VoiceIx) : (s.cutFormer v).Ranges :=
  (h.thin (removals_sublist v _ _).2.2).enqueue rfl

theorem steal (h : s.Ranges) (v : VoiceIx) (i : SlotIx) : (s.steal v i).Ranges := by
  unfold State.steal
  split
  · exact h
  next o _ =>
    dsimp only
    have hstart : State.Ranges (((s.setAgeList (s.pool.ageList.erase v)).modSlot o.slot (dropVoice v)).modVoice v
        fun x => { x with owner := none }) := by
      have hlist := h.setAgeList (s.pool.ageList.erase v)
      have hslot := hlist.modSlot (i := o.slot) (f := dropVoice v) (Slot.inRange_dropVoice (h.slots o.slot) v)
      exact hslot.modVoice (f := fun x => { x with owner := none }) (h.voices v)
    have hrotate {t : State} (ht : t.Ranges) :
        (if s.responder.engine.stealMode = .rotating then t.setRotation o.slot else t).Ranges := by
      split
      · exact ht.of_same (fun _ => rfl) (fun _ => rfl) (fun _ => rfl) rfl rfl
      · exact ht
    refine hrotate (.raise ?_ _)
    split
    · exact hstart.thin (removals_sublist v _ _).1
    · exact hstart.cutFormer v
    · exact hstart

theorem takeVoice (h : s.Ranges) (k : AllocClass) (v : VoiceIx) (i : SlotIx) : (s.takeVoice k v i).Ranges := by
  unfold State.takeVoice
  split
  · exact h
  · exact h.cutFormer v
  · exact ((h.setReleaseList _).modVoice (h.voices v)).cutFormer v
  · exact h.steal v i

theorem giveVoice (h : s.Ranges) (v : VoiceIx) (o : Owner) : (s.giveVoice v o).Ranges :=
  (h.modVoice (h.voices v)).setAgeList _

theorem placeStart (h : s.Ranges) (v : VoiceIx) {ch pg p vel l : Nat}
    (hstart : ch ≤ 15 ∧ pg ≤ 127 ∧ p ≤ 8191 ∧ (1 ≤ vel ∧ vel ≤ 127) ∧ l ≤ 16383) :
    (s.placeStart v ch pg p vel l).Ranges := by
  obtain ⟨-, -, hp, -, hl⟩ := id hstart
  have he := h.enqueue ((VoiceRecord.inRange_start v (s.voice v).generation ch pg p vel l).mpr hstart)
  exact (he.modVoice ⟨hp, hl⟩).settle

theorem cancelVoice (h : s.Ranges) (v : VoiceIx) : (s.cancelVoice v).Ranges :=
  (((h.thin (removals_sublist v _ _).1).setAgeList _).modVoice (h.voices v)).settle

theorem stopVoice (h : s.Ranges) (v : VoiceIx) (k : StopKind) : (s.stopVoice v k).Ranges := by
  have he := (h.thin (removals_sublist v (s.voice v).generation _).2.1).enqueue
    (VoiceRecord.inRange_stop v (s.voice v).generation k)
  exact (((he.setAgeList _).setReleaseList _).modVoice (he.voices v)).settle

theorem releaseVoice (h : s.Ranges) (v : VoiceIx) (k : StopKind) : (s.releaseVoice v k).Ranges := by
  unfold State.releaseVoice
  split
  · exact h.cancelVoice v
  · exact h.stopVoice v k
  · exact h

theorem releaseLayers (h : s.Ranges) (k : StopKind) (es : List (Option VoiceIx)) :
    (State.releaseLayers k es s).Ranges := by
  induction es generalizing s with
  | nil => exact h
  | cons e es ih =>
    cases e with
    | none => exact ih h
    | some v => exact ih (h.releaseVoice v k)

theorem flushPool (h : s.Ranges) (place : Bool) : (s.flushPool place).Ranges := by
  refine State.Ranges.settle ⟨h.tables, h.slots, ?_, fun v => ?_, h.engine⟩
  · cases place <;> simp
  · simpa [State.voice, Voice.flushed, Voice.LastsOk] using h.voices v

end State.Ranges

/-! ### Expression values (R42, R43) -/

/-- The point of a curve at an index. -/
theorem curvePoint_of_lt (pts : Curve) {k : Nat} (h : k < 9) : curvePoint pts k = pts[k] := by
  simp [curvePoint, h]

/-- The curve stage goes from the one point of the segment toward the other (R42). -/
theorem segment_between (a b f : Nat) (h : f < 512) :
    (min a b : Nat) ≤ ((a : Int) + ((b : Int) - a) * f / 512).toNat ∧
      ((a : Int) + ((b : Int) - a) * f / 512).toNat ≤ max a b := by
  rcases Nat.le_total a b with hab | hab
  · have hlow : 0 ≤ ((b : Int) - a) * f := Int.mul_nonneg (by omega) (by omega)
    have hhigh : ((b : Int) - a) * f ≤ ((b : Int) - a) * 512 := Int.mul_le_mul_of_nonneg_left (by omega) (by omega)
    omega
  · have hlow : 0 ≤ ((a : Int) - b) * f := Int.mul_nonneg (by omega) (by omega)
    have hhigh : ((a : Int) - b) * f ≤ ((a : Int) - b) * 512 := Int.mul_le_mul_of_nonneg_left (by omega) (by omega)
    have hneg : ((b : Int) - a) * f = -(((a : Int) - b) * f) := by ring
    rw [hneg]
    omega

/-- The curve stage stays between the two points of its segment (R42). -/
theorem curveValue_between (pts : Curve) (q : Nat) :
    min (curvePoint pts (q / 512)) (curvePoint pts (q / 512 + 1)) ≤ curveValue pts q ∧
      curveValue pts q ≤ max (curvePoint pts (q / 512)) (curvePoint pts (q / 512 + 1)) :=
  segment_between _ _ _ (Nat.mod_lt _ (by decide))

/-- Under a curve within its ranges the expression value is within its own. -/
theorem curveValue_le {pts : Curve} (hc : ∀ k : Fin 9, pts[k] ≤ 16383) (q : Nat) : curveValue pts q ≤ 16383 := by
  have hpoint (k : Nat) : curvePoint pts k ≤ 16383 := by
    by_cases h : k < 9
    · rw [curvePoint_of_lt pts h]; exact hc ⟨k, h⟩
    · simp [curvePoint, h]
  exact (curveValue_between pts q).2.trans (max_le (hpoint _) (hpoint _))

/-- A packet whose curve in force, if any, lies within its ranges (R43). -/
def Packet.CurveOk (pk : Packet) : Prop := ∀ pts, pk.curve = some pts → ∀ k : Fin 9, pts[k] ≤ 16383

theorem Packet.CurveOk.expression_le {pk : Packet} (h : pk.CurveOk) (q : Nat) :
    expression pk.curve q ≤ 16383 := by
  unfold expression
  split
  next c hc => exact curveValue_le (h c hc) q
  · exact Nat.zero_le _

/-! ### Phrases -/

/-- The voicing a slot reads lies within its ranges: it is a bank's, or empty (R75). -/
theorem State.Ranges.voicing {s : State} (h : s.Ranges) (i : SlotIx) (r : Resolution) : (s.voicingOf i r).Ok := by
  unfold State.voicingOf
  split
  next b _ => exact (h.tables b).2.2 r.voicing
  · exact ⟨⟨by decide, by decide⟩, Nat.zero_le _, nofun⟩

theorem layerVelocity_mem {onset fixedVelocity : Nat} (h1 : 1 ≤ onset ∧ onset ≤ 127)
    (h2 : 1 ≤ fixedVelocity ∧ fixedVelocity ≤ 127) (l : Layer) :
    1 ≤ layerVelocity onset fixedVelocity l ∧ layerVelocity onset fixedVelocity l ≤ 127 := by
  unfold layerVelocity
  split
  · exact h1
  · exact h2

namespace State.Ranges

variable {s t : State} (i : SlotIx) (pk : Packet) (r : Resolution)

theorem startLayer (h : s.Ranges) {vc : Voicing} (hvc : 1 ≤ vc.fixedVelocity ∧ vc.fixedVelocity ≤ 127) (k : Nat)
    {l : Layer} (hl : l.Ok) : (s.startLayer i pk r vc k l).Ranges := by
  unfold State.startLayer
  split
  · exact h
  next c v _ =>
    dsimp only
    obtain ⟨-, hprogram, hchannel, htrim⟩ := hl
    obtain ⟨-, -, -, -, hout, honset, -⟩ := h.slots i
    have hgiven := (h.takeVoice c v i).giveVoice v ⟨i, Fin.ofNat 4 k, pk.settings.priority⟩
    have hentry : Slot.InRange { ((s.takeVoice c v i).giveVoice v ⟨i, Fin.ofNat 4 k, pk.settings.priority⟩).slot i with
        layers := (((s.takeVoice c v i).giveVoice v ⟨i, Fin.ofNat 4 k, pk.settings.priority⟩).slot i).layers.set k
          (some v) } :=
      Slot.inRange_layers (hgiven.slots i) (by rw [List.length_set]; exact (hgiven.slots i).2.2.2.2.2.2)
    exact ((hgiven.modSlot hentry).raiseIf _ _).placeStart v ⟨hchannel, hprogram, pitchCode_le _,
      layerVelocity_mem honset hvc l, (layerLevel_le htrim).trans hout⟩

theorem startLayers (h : s.Ranges) {vc : Voicing} (hvc : 1 ≤ vc.fixedVelocity ∧ vc.fixedVelocity ≤ 127) (k : Nat)
    {ls : List Layer} (hls : ∀ l ∈ ls, l.Ok) : (State.startLayers i pk r vc k ls s).Ranges := by
  induction ls generalizing s k with
  | nil => exact h
  | cons l ls ih =>
    exact ih (h.startLayer i pk r hvc k (hls l List.mem_cons_self)) (k + 1)
      fun x hx => hls x (List.mem_cons_of_mem _ hx)

theorem startNote (h : s.Ranges) : (s.startNote i pk r).Ranges := by
  obtain ⟨hfixed, hcount, hlayers⟩ := h.voicing i r
  refine State.Ranges.raiseIf (.startLayers i pk r (h.modSlot ?_) hfixed 0 hlayers) _ _
  exact Slot.inRange_layers (h.slots i) (by simpa using hcount)

theorem produceRetune (h : s.Ranges) (v : VoiceIx) {p : Nat} (hp : p ≤ 8191) : (s.produceRetune v p).Ranges := by
  unfold State.produceRetune
  split
  · exact (h.modVoice (h.voices v)).offerRetune v hp
  · exact h

theorem produceLevel (h : s.Ranges) (v : VoiceIx) {l : Nat} (hl : l ≤ 16383) : (s.produceLevel v l).Ranges := by
  unfold State.produceLevel
  split
  · exact (h.modVoice (h.voices v)).offerLevel v hl
  · exact h

theorem retuneLayer (h : s.Ranges) (k : Nat) (l : Layer) (v : VoiceIx) : (s.retuneLayer i pk r k l v).Ranges :=
  (h.raiseIf _ _).produceRetune v (pitchCode_le _)

theorem retuneLayers (h : s.Ranges) (k : Nat) (ls : List Layer) (es : List (Option VoiceIx)) :
    (State.retuneLayers i pk r k ls es s).Ranges := by
  induction ls generalizing s k es with
  | nil => exact h
  | cons l ls ih =>
    match es with
    | [] => exact h
    | none :: es => exact ih h (k + 1) es
    | some v :: es => exact ih (h.retuneLayer i pk r k l v) (k + 1) es

theorem updateLayers (h : s.Ranges) {out : Nat} (hout : out ≤ 16383) (k : Nat) {ls : List Layer}
    (hls : ∀ l ∈ ls, l.Ok) (es : List (Option VoiceIx)) : (State.updateLayers i pk r out k ls es s).Ranges := by
  induction ls generalizing s k es with
  | nil => exact h
  | cons l ls ih =>
    have hrest : ∀ x ∈ ls, x.Ok := fun x hx => hls x (List.mem_cons_of_mem _ hx)
    match es with
    | [] => exact h
    | none :: es => exact ih h (k + 1) hrest es
    | some v :: es =>
      obtain ⟨-, -, -, htrim⟩ := hls l List.mem_cons_self
      exact ih ((h.retuneLayer i pk r k l v).produceLevel v ((layerLevel_le htrim).trans hout)) (k + 1) hrest es

theorem changeFingering (h : s.Ranges) : (s.changeFingering i pk).Ranges := by
  unfold State.changeFingering
  split
  · exact h
  next r _ =>
    split
    · exact h
    · exact (h.modSlot (h.slots i)).retuneLayers i pk r 0 _ _
    · have hreleased := h.releaseLayers .release (s.slot i).layers
      exact (hreleased.modSlot (Slot.inRange_layers (hreleased.slots i) (Nat.zero_le _))).startNote i pk r

theorem confirmSounding (h : s.Ranges) (gap : Bool) (ks : KeySet) : (s.confirmSounding i pk gap ks).Ranges := by
  unfold State.confirmSounding
  have hcount := h.modSlot (f := fun x => x.countRun gap ks) (Slot.inRange_countRun (h.slots i) gap ks)
  dsimp only
  split
  · exact (hcount.modSlot (hcount.slots i)).changeFingering i pk
  · exact hcount

theorem refreshResolution (h : s.Ranges) : (s.refreshResolution i).Ranges := h.modSlot (h.slots i)

theorem stalledStart (h : s.Ranges) : (s.stalledStart i pk).Ranges := by
  unfold State.stalledStart
  split
  · exact h.startNote i pk _
  · exact h

theorem confirm (h : s.Ranges) (first gap : Bool) (ks : KeySet) : (s.confirm i pk first gap ks).Ranges := by
  unfold State.confirm
  split
  · obtain ⟨h1, h2, -, h4, h5, h6, h7⟩ := h.slots i
    exact (h.modSlot (f := fun x => x.confirmFirst ks) ⟨h1, h2, (by decide : 1 ≤ 8), h4, h5, h6, h7⟩).refreshResolution i
  · split
    · exact h.confirmSounding i pk gap ks
    · have hcount : ((s.slot i).confirmQuiet gap ks).InRange := Slot.inRange_countRun (h.slots i) gap ks
      exact ((h.modSlot (f := fun x => x.confirmQuiet gap ks) hcount).refreshResolution i).stalledStart i pk

theorem onset (h : s.Ranges) (q : Nat) {e : Nat} (he : e ≤ 16383) : (s.onset i pk q e).Ranges := by
  unfold State.onset
  obtain ⟨h1, h2, h3, h4, h5, -, h7⟩ := h.slots i
  have hvelocity : State.Ranges (s.modSlot i fun x =>
      { x with onsetVelocity := onsetVelocityOf pk.settings.velocityGain q x.qPrev }) :=
    h.modSlot ⟨h1, h2, h3, h4, h5, onsetVelocityOf_mem .., h7⟩
  dsimp only
  split
  · obtain ⟨k1, k2, k3, k4, -, k6, k7⟩ := hvelocity.slots i
    exact (hvelocity.modSlot (f := fun x => { x with outLevel := e }) ⟨k1, k2, k3, k4, he, k6, k7⟩).startNote i pk _
  · exact ((hvelocity.modSlot (hvelocity.slots i)).switchBank i).raise _

theorem releaseNote (h : s.Ranges) : (s.releaseNote i).Ranges := by
  have hreleased := h.releaseLayers .release (s.slot i).layers
  obtain ⟨h1, h2, h3, h4, h5, h6, -⟩ := hreleased.slots i
  refine State.Ranges.refreshResolution i (.switchBank (hreleased.modSlot ?_) i)
  exact Slot.inRange_applyPending ⟨h1, h2, h3, h4, h5, h6, Nat.zero_le _⟩

theorem testSample (h : s.Ranges) (q : Nat) {e : Nat} (he : e ≤ 16383) : (s.testSample i pk q e).Ranges := by
  unfold State.testSample
  split
  · split
    · split
      · exact h.modSlot (h.slots i)
      · exact h
    · split
      · exact h.onset i pk q he
      · exact h
  · split
    · exact (h.modSlot (h.slots i)).switchBank i
    · exact h
  · split
    · exact h.releaseNote i
    · exact h
  · exact h

theorem sample (h : s.Ranges) (hpk : pk.CurveOk) (a : Nat) : (State.sample i pk s a).Ranges := by
  unfold State.sample
  have htest := h.testSample i pk (scaledPressure pk.settings a) (hpk.expression_le (scaledPressure pk.settings a))
  obtain ⟨h1, h2, h3, -, h5, h6, h7⟩ := htest.slots i
  exact htest.modSlot ⟨h1, h2, h3, scaledPressure_le .., h5, h6, h7⟩

theorem samples (h : s.Ranges) (hpk : pk.CurveOk) (as : List Nat) : (as.foldl (State.sample i pk) s).Ranges := by
  induction as generalizing s with
  | nil => exact h
  | cons a as ih => exact ih (h.sample i pk hpk a)

theorem perPacket (h : s.Ranges) {e : Nat} (he : e ≤ 16383) : (s.perPacket i pk e).Ranges := by
  unfold State.perPacket
  obtain ⟨h1, h2, h3, h4, h5, h6, h7⟩ := h.slots i
  have hout : (if (s.slot i).phase = .sounding then slewed pk.settings.slew (s.slot i).outLevel e else e) ≤ 16383 := by
    split
    · exact (slewed_between ..).2.trans (max_le h5 he)
    · exact he
  have hupdate : State.Ranges (s.modSlot i fun x => x.updateOut pk.settings.slew e) :=
    h.modSlot ⟨h1, h2, h3, h4, hout, h6, h7⟩
  dsimp only
  split
  next r _ _ =>
    exact hupdate.updateLayers i pk r (hupdate.slots i).2.2.2.2.1 0 (hupdate.voicing i r).2.2 _
  · exact hupdate

theorem processPacket (h : s.Ranges) (first gap : Bool) (p : Sense) : (s.processPacket i first gap p).Ranges := by
  have hpk : (s.packetOf i p).CurveOk := fun c hc => by
    obtain ⟨b, -, rfl⟩ := Option.map_eq_some_iff.mp hc
    exact (h.tables b).1 _
  exact ((h.confirm i _ first gap _).samples i _ hpk p.samples).perPacket i _ (hpk.expression_le _)

theorem takePacket (h : s.Ranges) (p : Sense) : (s.takePacket i p).Ranges := by
  obtain ⟨h1, h2, h3, h4, h5, h6, h7⟩ := h.slots i
  have haccept : State.Ranges (s.modSlot i fun x => x.accept p.sequence) := h.modSlot ⟨h1, h2, h3, h4, h5, h6, h7⟩
  unfold State.takePacket
  dsimp only
  split
  · refine State.Ranges.processPacket i (.switchBank (h.modSlot ?_) i) true false p
    exact ⟨h1, h2, h3, Nat.zero_le _, h5, h6, h7⟩
  · split
    · exact haccept.processPacket i false false p
    · split
      · exact (haccept.raise _).processPacket i false true p
      · exact h.raise _

/-! ### Slots -/

theorem unbind (h : s.Ranges) : (s.unbind i).Ranges := by
  have hreleased := h.releaseLayers .flush (s.slot i).layers
  have hslot := Slot.inRange_applyPending (hreleased.slots i)
  refine State.Ranges.switchBank (hreleased.modSlot ?_) i
  exact ⟨hslot.1, rfl, Nat.zero_le _, Nat.zero_le _, Nat.zero_le _, ⟨le_rfl, (by decide : 1 ≤ 127)⟩, Nat.zero_le _⟩

theorem bind (h : s.Ranges) (t : Half) : (s.bind i t).Ranges := by
  have hstart : State.Ranges (if (s.slot i).phase = .unbound then s else s.unbind i) := by
    split
    · exact h
    · exact h.unbind i
  obtain ⟨h1, h2, -⟩ := hstart.slots i
  refine State.Ranges.switchBank (hstart.modSlot ?_) i
  exact ⟨h1, h2, Nat.zero_le _, Nat.zero_le _, Nat.zero_le _, ⟨le_rfl, (by decide : 1 ≤ 127)⟩, Nat.zero_le _⟩

theorem lossExpiry (h : s.Ranges) : (s.lossExpiry i).Ranges := by
  unfold State.lossExpiry
  split
  · exact h
  · have hreleased := h.releaseLayers .lost (s.slot i).layers
    obtain ⟨h1, h2, h3, h4, h5, h6, -⟩ := hreleased.slots i
    refine State.Ranges.raise (.switchBank (hreleased.modSlot ?_) i) _
    refine Slot.inRange_applyPending ?_
    exact ⟨h1, h2, h3, h4, h5, h6, Nat.zero_le _⟩

theorem flushSlot (h : s.Ranges) : (s.flushSlot i).Ranges := by
  have hslot : (s.slot i).flushed.InRange := by
    obtain ⟨h1, h2, h3, h4, h5, h6, h7⟩ := h.slots i
    unfold Slot.flushed
    split
    · refine Slot.inRange_applyPending ?_
      exact ⟨h1, h2, h3, h4, h5, h6, Nat.zero_le _⟩
    · exact ⟨h1, h2, h3, h4, h5, h6, h7⟩
    · exact h.slots i
  unfold State.flushSlot
  split
  · exact (h.modSlot hslot).switchBank i
  · exact (h.modSlot hslot).switchBank i
  · exact h

theorem restartSlot (h : s.Ranges) : (s.restartSlot i).Ranges := by
  unfold State.restartSlot
  split
  · exact h
  · obtain ⟨h1, h2, -⟩ := Slot.inRange_applyPending (h.slots i)
    refine (h.modSlot ?_).switchBank i
    exact ⟨h1, h2, Nat.zero_le _, Nat.zero_le _, Nat.zero_le _, ⟨le_rfl, (by decide : 1 ≤ 127)⟩, Nat.zero_le _⟩

omit i in
theorem foldl {f : State → SlotIx → State} (hf : ∀ {s : State} (i : SlotIx), s.Ranges → (f s i).Ranges)
    (h : s.Ranges) (is : List SlotIx) : (is.foldl f s).Ranges := by
  induction is generalizing s with
  | nil => exact h
  | cons i is ih => exact ih (hf i h)

theorem voiceFlush (h : s.Ranges) (place : Bool) : (s.voiceFlush place).Ranges :=
  (h.flushPool place).foldl (fun i h => h.flushSlot i) _

end State.Ranges

/-! ### Settings (R6, R7, R8) -/

/-- The settings lie in the ranges of R6, whatever their thresholds' order. -/
def Settings.EachOk (st : Settings) : Prop :=
  st.zero ≤ 4095 ∧ st.gain ≤ 1023 ∧ (1 ≤ st.onThreshold ∧ st.onThreshold ≤ 4095) ∧ st.velocityGain ≤ 255 ∧
    (1 ≤ st.confirmCount ∧ st.confirmCount ≤ 8) ∧ (-24 ≤ st.transpose ∧ st.transpose ≤ 24) ∧
    (-64 ≤ st.tune ∧ st.tune ≤ 63) ∧ st.rollerCenter ≤ 7 ∧ st.lipCenter ≤ 1023 ∧ st.bendRange ≤ 768 ∧
    (1 ≤ st.slew ∧ st.slew ≤ 16383) ∧ (5 ≤ st.lossTime ∧ st.lossTime ≤ 1000)

theorem Settings.ok_iff (st : Settings) : st.Ok ↔ st.EachOk ∧ st.offThreshold < st.onThreshold := by
  unfold Settings.EachOk
  constructor
  · rintro ⟨h1, h2, h3, h4, h5⟩
    exact ⟨⟨h1, h2, ⟨by omega, h3⟩, h5⟩, h4⟩
  · rintro ⟨⟨h1, h2, ⟨-, h3⟩, h5⟩, h4⟩
    exact ⟨h1, h2, h3, h4, h5⟩

/-- A clamped value lies in the range of its setting (R7). -/
theorem clampedSetting_mem (n : Nat) (v : Int) :
    (settingRange n).1 ≤ clampedSetting n v ∧ clampedSetting n v ≤ (settingRange n).2 := by
  refine clamp_mem ?_ v
  unfold settingRange
  split <;> decide

/-- A setting written within its range keeps every setting within its own (R7). -/
theorem Settings.EachOk.put {st : Settings} (h : st.EachOk) (n : Nat) {v : Int} (h1 : (settingRange n).1 ≤ v)
    (h2 : v ≤ (settingRange n).2) : (st.put n v).EachOk := by
  unfold Settings.put
  unfold Settings.EachOk at h ⊢
  split <;> simp only [settingRange] at h1 h2 <;> first | exact h | (simp only; omega)

/-- A setting other than the thresholds leaves them as they are. -/
theorem Settings.put_thresholds (st : Settings) {n : Nat} (h4 : n ≠ 4) (h5 : n ≠ 5) (v : Int) :
    (st.put n v).onThreshold = st.onThreshold ∧ (st.put n v).offThreshold = st.offThreshold := by
  unfold Settings.put
  split <;> first | exact ⟨rfl, rfl⟩ | exact absurd rfl h4 | exact absurd rfl h5

/-- A deferred setting within its range keeps the pending record within its own (R8). -/
theorem PendingSettings.put_ok {p : PendingSettings} (h : p.Ok) (n : Nat) {v : Int} (h1 : (settingRange n).1 ≤ v)
    (h2 : v ≤ (settingRange n).2) : (p.put n v).Ok := by
  obtain ⟨ht, hr⟩ := h
  unfold PendingSettings.put
  split <;> simp only [settingRange] at h1 h2
  · exact ⟨ht, hr⟩
  · exact ⟨by simpa using ⟨h1, h2⟩, hr⟩
  · exact ⟨ht, by simpa using h2⟩
  · exact ⟨ht, hr⟩

/-- What SET_SLOT keeps of a slot while it writes setting after setting: everything but the order of the
thresholds. -/
structure Slot.Writing (old x : Slot) : Prop where
  settings : x.settings.EachOk
  pending : (x.pendingSettings.all fun p => decide p.Ok) = true
  rest : x = { old with settings := x.settings, pendingSettings := x.pendingSettings }

theorem Slot.Writing.writeSetting {old x : Slot} (h : old.Writing x) (n : Nat) {v : Int}
    (h1 : (settingRange n).1 ≤ v) (h2 : v ≤ (settingRange n).2) : old.Writing (x.writeSetting n v) := by
  obtain ⟨hset, hpend, hrest⟩ := h
  unfold Slot.writeSetting
  split
  · refine ⟨hset, ?_, by rw [hrest]⟩
    have hput : PendingSettings.Ok ((x.pendingSettings.getD {}).put n v) := by
      refine PendingSettings.put_ok ?_ n h1 h2
      cases hp : x.pendingSettings with
      | none => exact ⟨rfl, rfl⟩
      | some p =>
        rw [hp] at hpend
        exact of_decide_eq_true hpend
    exact decide_eq_true hput
  · exact ⟨hset.put n h1 h2, hpend, by rw [hrest]⟩

theorem Slot.Writing.writeSettings {old x : Slot} (h : old.Writing x) (vs : List (Nat × Half)) :
    old.Writing (x.writeSettings vs) := by
  unfold Slot.writeSettings
  induction vs generalizing x with
  | nil => exact h
  | cons p vs ih =>
    obtain ⟨h1, h2⟩ := clampedSetting_mem p.1 (namedValue p.1 p.2)
    exact ih (h.writeSetting p.1 h1 h2)

/-- A request that names neither threshold leaves both as they are. -/
theorem Slot.writeSettings_thresholds (x : Slot) {vs : List (Nat × Half)}
    (h : (namesSetting vs 4 || namesSetting vs 5) = false) :
    (x.writeSettings vs).settings.onThreshold = x.settings.onThreshold ∧
      (x.writeSettings vs).settings.offThreshold = x.settings.offThreshold := by
  unfold Slot.writeSettings
  induction vs generalizing x with
  | nil => exact ⟨rfl, rfl⟩
  | cons p vs ih =>
    have hsplit : p.1 ≠ 4 ∧ p.1 ≠ 5 ∧ (namesSetting vs 4 || namesSetting vs 5) = false := by
      simp only [namesSetting, List.any_cons, Bool.or_eq_false_iff, beq_eq_false_iff_ne] at h ⊢
      exact ⟨h.1.1, h.2.1, h.1.2, h.2.2⟩
    obtain ⟨h4, h5, hrest⟩ := hsplit
    obtain ⟨hon, hoff⟩ := ih (x.writeSetting p.1 (clampedSetting p.1 (namedValue p.1 p.2))) hrest
    rw [List.foldl_cons, hon, hoff]
    unfold Slot.writeSetting
    split
    · exact ⟨rfl, rfl⟩
    · exact Settings.put_thresholds _ h4 h5 _

/-- SET_SLOT keeps a slot within its ranges (R7, R8). -/
theorem Slot.inRange_applySettings {x : Slot} (h : x.InRange) (vs : List (Nat × Half)) :
    (x.applySettings vs).InRange := by
  obtain ⟨hset, hpend, hrest⟩ := h
  obtain ⟨heach, horder⟩ := (Settings.ok_iff _).mp hset
  have hwrite : x.Writing (x.writeSettings vs) := Slot.Writing.writeSettings ⟨heach, hpend, rfl⟩ vs
  have hpositive := hwrite.settings.2.2.1.1
  have hfields : ∀ st : Settings, st.Ok → Slot.InRange { x.writeSettings vs with settings := st } := fun st hst => by
    rw [hwrite.rest]
    exact ⟨hst, hwrite.pending, hrest⟩
  unfold Slot.applySettings Slot.fitThreshold
  split
  next hfit =>
    refine hfields _ ((Settings.ok_iff _).mpr ⟨hwrite.settings, ?_⟩)
    simp only
    omega
  next hfit =>
    refine hfields (x.writeSettings vs).settings ((Settings.ok_iff _).mpr ⟨hwrite.settings, ?_⟩)
    cases hnamed : namesSetting vs 4 || namesSetting vs 5 with
    | true => exact Nat.lt_of_not_le fun hle => hfit ⟨hnamed, hle⟩
    | false =>
      obtain ⟨hon, hoff⟩ := x.writeSettings_thresholds hnamed
      rw [hon, hoff]
      exact horder

/-- SET_ENGINE keeps the engine settings within the ranges of R163 (R164). -/
theorem Engine.ranges_applySettings {s : State} (h : s.EngineRanges) (vs : List (Nat × Half)) :
    (s.setEngine (s.responder.engine.applySettings vs)).EngineRanges := by
  unfold Engine.applySettings
  induction vs generalizing s with
  | nil => exact h
  | cons p vs ih =>
    refine ih (s := s.setEngine (s.responder.engine.put p.1 (clampedEngine p.1 p.2))) ?_
    have hmem : (engineRange p.1).1 ≤ clampedEngine p.1 p.2 ∧ clampedEngine p.1 p.2 ≤ (engineRange p.1).2 := by
      have hrange : 0 ≤ (engineRange p.1).1 ∧ (engineRange p.1).1 ≤ (engineRange p.1).2 := by
        unfold engineRange
        split <;> decide
      have := clamp_mem hrange.2 p.2.toNat
      unfold clampedEngine
      omega
    obtain ⟨h1, h2⟩ := hmem
    simp only [State.EngineRanges, State.setEngine_engine] at h ⊢
    unfold Engine.put
    split
    next hn => exact h
    all_goals
      first
        | exact h
        | (next hn =>
            simp only [hn, engineRange] at h1 h2
            simp only [hn]
            omega)

/-! ### Tables (R61, R69, R146) -/

theorem readFingering_ok {bs : List Byte} {f : Fingering} (h : readFingering bs = some f) : f.stored.Ok := by
  unfold readFingering at h
  split at h
  · split at h
    next hr =>
      cases h
      refine ⟨?_, hr.1, hr.2.1, hr.2.2.1⟩
      simp [Fingering.stored, BitVec.and_assoc]
    · cases h
  · cases h

theorem readCurve_ok {bs : List Byte} {pts : Curve} (h : readCurve bs = some pts) :
    ∀ k : Fin 9, pts[k] ≤ 16383 := by
  unfold readCurve at h
  dsimp only at h
  split at h
  next hlen =>
    split at h
    next hr =>
      cases h
      intro k
      have hall := of_decide_eq_true (List.all_eq_true.mp hr.2 _
        (List.getElem_mem (l := (halves bs).map BitVec.toNat) (by rw [hlen]; exact k.isLt)))
      exact hall
    · cases h
  · cases h

theorem readLayers_ok {n : Nat} {bs : List Byte} {ls : List Layer} {rest : List Byte}
    (h : readLayers n bs = some (ls, rest)) : ls.length = n ∧ ∀ l ∈ ls, l.Ok := by
  induction n generalizing bs ls rest with
  | zero =>
    cases h
    exact ⟨rfl, nofun⟩
  | succ n ih =>
    match bs, h with
    | iv :: pr :: ch :: tr :: fo :: bs, h =>
      unfold readLayers at h
      split at h
      next hr =>
        obtain ⟨⟨ls', rest'⟩, hls, heq⟩ := Option.map_eq_some_iff.mp h
        cases heq
        obtain ⟨hlen, hok⟩ := ih hls
        refine ⟨by simp [hlen], fun l hl => ?_⟩
        rcases List.mem_cons.mp hl with rfl | hl
        · exact ⟨⟨hr.1, hr.2.1⟩, hr.2.2.1, hr.2.2.2.1, hr.2.2.2.2.1⟩
        · exact hok l hl
      · cases h

theorem readVoicing_ok {bs : List Byte} {v : Voicing} {rest : List Byte} (h : readVoicing bs = some (v, rest)) :
    v.Ok := by
  unfold readVoicing at h
  split at h
  · split at h
    next hr =>
      obtain ⟨⟨ls, rest'⟩, hls, heq⟩ := Option.map_eq_some_iff.mp h
      cases heq
      obtain ⟨hlen, hok⟩ := readLayers_ok hls
      exact ⟨⟨hr.2.2.1, hr.2.2.2⟩, by simp only [hlen]; exact hr.1, hok⟩
    · cases h
  · cases h

/-- An entry read within its ranges is stored within them (R61, R69). -/
theorem readEntry_ok {k : TableKind} {bs : List Byte} {e : TableEntry} {rest : List Byte}
    (h : readEntry k bs = some (e, rest)) : e.stored.Storable := by
  cases k with
  | profile =>
    obtain ⟨p, -, heq⟩ := Option.map_eq_some_iff.mp h
    cases heq
    trivial
  | curve =>
    obtain ⟨c, hc, heq⟩ := Option.map_eq_some_iff.mp h
    cases heq
    exact readCurve_ok hc
  | fingering =>
    obtain ⟨f, hf, heq⟩ := Option.map_eq_some_iff.mp h
    cases heq
    exact readFingering_ok hf
  | voicing =>
    obtain ⟨⟨v, r⟩, hv, heq⟩ := Option.map_eq_some_iff.mp h
    cases heq
    exact readVoicing_ok hv

theorem readEntries_ok {k : TableKind} {n : Nat} {bs : List Byte} {es : List TableEntry}
    (h : readEntries k n bs = some es) : ∀ e ∈ es, e.stored.Storable := by
  induction n generalizing bs es with
  | zero =>
    unfold readEntries at h
    split at h
    · cases h; nofun
    · cases h
  | succ n ih =>
    unfold readEntries at h
    split at h
    next e r he =>
      obtain ⟨es', hes, heq⟩ := Option.map_eq_some_iff.mp h
      cases heq
      intro x hx
      rcases List.mem_cons.mp hx with rfl | hx
      · exact readEntry_ok he
      · exact ih hes x hx
    · cases h

theorem readTableWrite_ok {args : List Byte} {w : TableWrite} (h : readTableWrite args = some w) :
    ∀ e ∈ w.entries, e.stored.Storable := by
  unfold readTableWrite at h
  split at h
  · split at h
    · split at h
      · obtain ⟨es, hes, heq⟩ := Option.map_eq_some_iff.mp h
        cases heq
        exact readEntries_ok hes
      · cases h
    · cases h
  · cases h

/-- An entry of a vector after one entry was replaced. -/
theorem getElem_setIfInBounds_of {α : Type} {n : Nat} {P : α → Prop} {xs : Vector α n} (h : ∀ j : Fin n, P xs[j])
    (i : Nat) {x : α} (hx : P x) (j : Fin n) : P (xs.setIfInBounds i x)[j] := by
  have hj := Vector.getElem_setIfInBounds (xs := xs) (x := x) (i := i) (j := j.val) j.isLt
  show P (xs.setIfInBounds i x)[j.val]
  rw [hj]
  split
  · exact hx
  · exact h j

theorem Bank.ok_writeEntry {b : Bank} (h : b.Ok) (i : Nat) {e : TableEntry} (he : e.stored.Storable) :
    (b.writeEntry i e).Ok := by
  obtain ⟨hcurves, hfingerings, hvoicings⟩ := h
  cases e with
  | profile p => exact ⟨hcurves, hfingerings, hvoicings⟩
  | curve c =>
    exact ⟨getElem_setIfInBounds_of (P := fun pts : Curve => ∀ k : Fin 9, pts[k] ≤ 16383) hcurves i he, hfingerings,
      hvoicings⟩
  | fingering f => exact ⟨hcurves, getElem_setIfInBounds_of (P := Fingering.Ok) hfingerings i he, hvoicings⟩
  | voicing v => exact ⟨hcurves, hfingerings, getElem_setIfInBounds_of (P := Voicing.Ok) hvoicings i he⟩

theorem Bank.ok_writeEntries {b : Bank} (h : b.Ok) (i : Nat) {es : List TableEntry}
    (hes : ∀ e ∈ es, e.stored.Storable) : (b.writeEntries i es).Ok := by
  induction es generalizing b i with
  | nil => exact h
  | cons e es ih =>
    exact ih (Bank.ok_writeEntry h i (hes e List.mem_cons_self)) (i + 1) fun x hx => hes x (List.mem_cons_of_mem _ hx)

/-- A part copied from a bank within its ranges keeps the other one within them (R150). -/
theorem Bank.ok_copyPart {src dst : Bank} (hs : src.Ok) (hd : dst.Ok) (n : Nat) : (copyPart n src dst).Ok := by
  refine ⟨fun i => ?_, fun i => ?_, fun i => ?_⟩ <;> simp only [Machine.copyPart, Fin.getElem_fin, Vector.getElem_ofFn]
  · split
    · exact hs.1 i
    · exact hd.1 i
  · split
    · exact hs.2.1 i
    · exact hd.2.1 i
  · split
    · exact hs.2.2 i
    · exact hd.2.2 i

namespace State.Ranges

variable {s t : State}

theorem advanceCopy (h : s.Ranges) : s.advanceCopy.Ranges := by
  unfold State.advanceCopy
  split
  next b l _ _ =>
    split
    · have hcopy := h.setBank (b := b) (Bank.ok_copyPart (h.tables l) (h.tables b)
        (min bankEntries (s.store.copied + Config.copyAdvance s.freeCount)))
      exact hcopy.of_same (fun _ => rfl) (fun _ => rfl) (fun _ => rfl) rfl rfl
    · exact h
  · exact h

theorem abandonWork (h : s.Ranges) : s.abandonWork.Ranges := by
  unfold State.abandonWork
  dsimp only
  split
  · exact (h.advanceCopy.setBankState _ _).setWork _
  · exact h.advanceCopy.setWork _

theorem startWork (h : s.Ranges) (ws : List Work) : (State.startWork ws s).Ranges := by
  induction ws generalizing s with
  | nil => exact h.setWork _
  | cons w ws ih =>
    unfold State.startWork
    split
    next b x _ =>
      exact ((h.setWork (w :: ws)).setBankState b x).of_same (fun _ => rfl) (fun _ => rfl) (fun _ => rfl) rfl rfl
    · exact ih (((h.setWork ws).push _).raise _)

theorem queueWork (h : s.Ranges) (w : Work) : (s.queueWork w).Ranges := by
  unfold State.queueWork
  split
  · exact h.startWork _
  · exact h.setWork _

theorem swap (h : s.Ranges) (b : BankIx) : (s.swap b).Ranges := by
  have hpromote : (s.promote b).Ranges := by
    unfold State.promote
    dsimp only
    split
    · exact (h.setBankState _ _).setBankState b _
    · exact h.setBankState b _
  refine State.Ranges.drain ⟨hpromote.tables, fun i => ?_, hpromote.records, hpromote.voices, hpromote.engine⟩
  have hslot := hpromote.slots i
  simp only [State.slot, State.switchAll, Fin.getElem_fin, Vector.getElem_map] at hslot ⊢
  exact hslot

theorem copyCompletes (h : s.Ranges) : s.copyCompletes.Ranges := by
  unfold State.copyCompletes
  split
  next w ws b l _ _ _ =>
    split
    · have hcopy := Bank.ok_copyPart (h.tables l) (h.tables b) bankEntries
      exact ((((h.setBank (b := b) (x := { copyPart bankEntries (s.bank l) (s.bank b) with state := .staged })
        hcopy).setWork ws).push _).raise _).startWork ws
    · exact h
  · exact h

theorem verificationCompletes (h : s.Ranges) : s.verificationCompletes.Ranges := by
  unfold State.verificationCompletes
  split
  next w ws b _ _ =>
    split
    · dsimp only
      split
      · exact ((((h.setWork ws).setBankState b _).push _).raise _).startWork ws
      · exact ((((h.setWork ws).swap b).push _).raise _).startWork ws
    · exact h
  · exact h

theorem writeBank (h : s.Ranges) (b : BankIx) {args : List Byte} {w : TableWrite}
    (hw : readTableWrite args = some w) : (s.writeBank b w.first w.entries).Ranges :=
  h.setBank (Bank.ok_writeEntries (h.tables b) w.first (readTableWrite_ok hw))

/-! ### Every step -/

theorem reply (h : s.Ranges) (r : Request) (st : Status) (pl : List Byte) : (s.reply r st pl).Ranges := h.push _

theorem of_answer {r : Request} (h : s.Ranges) (k : Answer r s t) : t.Ranges := by
  cases k with
  | bind i t => exact (h.bind i t).reply ..
  | unbind i => exact (h.unbind i).reply ..
  | settings i ps st => exact (h.modSlot (Slot.inRange_applySettings (h.slots i) ps)).reply ..
  | engine ps st =>
    have hengine : (s.setEngine (s.responder.engine.applySettings ps)).Ranges :=
      ⟨h.tables, h.slots, h.records, h.voices, Engine.ranges_applySettings h.engine ps⟩
    exact hengine.reply ..
  | write w b hread => exact (h.writeBank b hread).reply ..
  | readTable pl => exact h.advanceCopy.reply ..
  | work k => exact (h.reply ..).queueWork _
  | abort w ws _ pl => exact (h.abandonWork.push _).reply ..
  | panic => exact (h.voiceFlush true).reply ..
  | restart =>
    have hslots := (h.abandonWork.voiceFlush true).foldl (fun i h => h.restartSlot i) (List.finRange 8)
    refine State.Ranges.reply ?_ ..
    unfold State.warmRestart
    dsimp only
    generalize List.foldl State.restartSlot _ _ = u at hslots ⊢
    exact hslots.of_same (fun _ => rfl) (fun _ => rfl) (fun _ => rfl) rfl rfl
  | _ => exact h.of_same (by simp [State.slot]) (by simp [State.bank]) (by simp [State.voice]) (by simp) (by simp)

theorem carryOut (h : s.Ranges) (r : Request) : (carryOut r s).Ranges := h.of_answer (carryOut_answer r s)

theorem attach (h : s.Ranges) : s.attach.Ranges := by
  cases hdown : s.port.attached with
  | true => rw [State.attach, if_pos hdown]; exact h
  | false =>
    rw [State.attach_of_detached hdown]
    have hup : s.connected.Ranges := h.of_same (fun _ => rfl) (fun _ => rfl) (fun _ => rfl) rfl rfl
    have hplaced : s.connectedPlaced.Ranges := by
      unfold State.connectedPlaced
      split
      · exact (hup.enqueueHead rfl).of_same (fun _ => rfl) (fun _ => rfl) (fun _ => rfl) rfl rfl
      · exact hup
    exact (hplaced.raise _).settle

theorem detach (h : s.Ranges) : s.detach.Ranges := by
  unfold State.detach
  split
  · refine State.Ranges.raise (.voiceFlush ?_ false) _
    exact h.of_same (fun _ => rfl) (fun _ => rfl) (fun _ => rfl) rfl rfl
  · exact h

theorem of_linkMoves (h : s.Ranges) (k : LinkMoves s t) : t.Ranges := by
  induction k with
  | refl => exact h
  | tail _ hmove ih =>
    cases hmove with
    | attach => exact ih.attach
    | detach => exact ih.detach
    | cut l => exact ih.raise _
    | _ => exact ih.of_same (fun _ => rfl) (fun _ => rfl) (fun _ => rfl) rfl rfl

theorem transmit (h : s.Ranges) : s.transmit.Ranges := by
  unfold State.transmit
  split
  next r q _ hq =>
    have hsent {t : State} (ht : t.Ranges) : (t.transmitted r).Ranges := by
      unfold State.transmitted
      split
      · refine ht.modVoice ?_
        split <;> exact ht.voices _
      · split
        · exact ht
        · refine ht.modVoice ?_
          split <;> exact ht.voices _
      · exact ht
    refine State.Ranges.settle (hsent ⟨h.tables, h.slots, fun x hx => h.records x ?_, h.voices, h.engine⟩)
    rw [hq]
    exact List.mem_cons_of_mem _ hx
  · exact h.of_same (fun _ => rfl) (fun _ => rfl) (fun _ => rfl) rfl rfl

theorem freedReport (h : s.Ranges) (v : VoiceIx) (g : Byte) : (s.freedReport v g).Ranges := by
  unfold State.freedReport
  dsimp only
  split
  · split
    · exact (h.setReleaseList _).setVoice (h.voices v)
    · exact h.setVoice (h.voices v)
  · exact h.raise _

theorem releaseExpiry (h : s.Ranges) (v : VoiceIx) : (s.releaseExpiry v).Ranges := by
  unfold State.releaseExpiry
  split
  · exact h
  · exact (h.setReleaseList _).modVoice (h.voices v)

theorem stallExpiry (h : s.Ranges) : s.stallExpiry.Ranges := by
  unfold State.stallExpiry
  split
  · exact h
  · refine State.Ranges.raise ?_ _
    exact h.of_same (fun _ => rfl) (fun _ => rfl) (fun _ => rfl) rfl rfl

theorem of_happens (h : s.Ranges) (k : Happens s t) : t.Ranges := by
  cases k with
  | powerOn =>
    obtain ⟨-, -, hslots, hrecords, hengine, -⟩ := lawsHoldAtReset
    exact ⟨hslots.1, hslots.2, hrecords.1, hrecords.2, hengine⟩
  | discard c => exact h.raise c
  | sense fields p i => exact h.takePacket i p
  | served r x rest =>
    exact State.Ranges.carryOut (by exact h.of_same (fun _ => rfl) (fun _ => rfl) (fun _ => rfl) rfl rfl) x
  | takes p rest x xs =>
    exact State.Ranges.carryOut (by exact h.of_same (fun _ => rfl) (fun _ => rfl) (fun _ => rfl) rfl rfl) x
  | lossExpiry i => exact h.lossExpiry i
  | releaseExpiry v => exact h.releaseExpiry v
  | stallExpiry => exact h.stallExpiry
  | copyCompletes => exact h.copyCompletes
  | verificationCompletes => exact h.verificationCompletes
  | transmit => exact h.transmit
  | freed v g => exact h.freedReport v g
  | hears l xs => exact h.of_linkMoves (s.hearAll_moves l xs)
  | cut l xs => exact h.of_linkMoves (s.packetCut_moves l xs)
  | grant n => exact h.of_same (by simp) (by simp) (by simp) (by simp [State.addCredit]) (by simp)
  | _ => exact h.of_same (by simp [State.slot]) (by simp [State.bank]) (by simp [State.voice]) (by simp) (by simp)

end State.Ranges

/-- Settles O56: every value that is written is clamped, computed within its range, or checked when it is read. -/
theorem rangesKept : Obligations.RangesKept := by
  unfold Obligations.RangesKept
  intro s t hslots hrecords hengine hstep
  obtain ⟨ktables, kslots, krecords, kvoices, kengine⟩ :=
    kept_of_happens (P := State.Ranges) (Q := State.Ranges)
      (fun _ _ h => h.of_same (fun _ => rfl) (fun _ => rfl) (fun _ => rfl) rfl rfl) (fun _ h => h)
      (fun _ _ h k => h.of_happens k) ⟨hslots.1, hslots.2, hrecords.1, hrecords.2, hengine⟩ hstep
  exact ⟨⟨ktables, kslots⟩, ⟨krecords, kvoices⟩, kengine⟩

end Sys2Proof.Machine

/-! Bytes, and the requests that report (R160, R165 to R170, R183, R187). -/

namespace Sys2Proof.Machine

open Sys2Proof

/-! ### Encodings byte by byte (R183) -/

/-- A two-byte field goes most significant byte first. -/
theorem halfBytes_eq (h : Half) : halfBytes h = [BitVec.ofNat 8 (h.toNat / 256), BitVec.ofNat 8 h.toNat] := by
  have high : h.extractLsb' 8 8 = BitVec.ofNat 8 (h.toNat / 256) := by
    apply BitVec.eq_of_toNat_eq
    simp [BitVec.extractLsb'_toNat, Nat.shiftRight_eq_div_pow]
  have low : h.extractLsb' 0 8 = BitVec.ofNat 8 h.toNat := by
    apply BitVec.eq_of_toNat_eq
    simp [BitVec.extractLsb'_toNat]
  rw [halfBytes, high, low]

theorem byte2_eq (n : Nat) : byte2 n = [BitVec.ofNat 8 (n / 256), BitVec.ofNat 8 n] := by
  have high : BitVec.ofNat 8 ((BitVec.ofNat 16 n).toNat / 256) = BitVec.ofNat 8 (n / 256) := by
    apply BitVec.eq_of_toNat_eq
    simp only [BitVec.toNat_ofNat]
    omega
  have low : BitVec.ofNat 8 (BitVec.ofNat 16 n).toNat = BitVec.ofNat 8 n := by
    apply BitVec.eq_of_toNat_eq
    simp only [BitVec.toNat_ofNat]
    omega
  rw [byte2, halfBytes_eq, high, low]

/-- A signed number of two bytes is its two's complement. -/
theorem signed2_eq (v : Int) :
    signed2 v = [BitVec.ofNat 8 ((v % 65536).toNat / 256), BitVec.ofNat 8 (v % 65536).toNat] := by
  have hv : BitVec.ofInt 16 v = BitVec.ofNat 16 (v % 65536).toNat := by
    apply BitVec.eq_of_toNat_eq
    simp only [BitVec.toNat_ofInt, BitVec.toNat_ofNat]
    omega
  rw [signed2, hv]
  exact byte2_eq _

/-- A signed number of one byte is its two's complement. -/
theorem signed1_eq (v : Int) : signed1 v = [BitVec.ofNat 8 (v % 256).toNat] := by
  have hv : BitVec.ofInt 8 v = BitVec.ofNat 8 (v % 256).toNat := by
    apply BitVec.eq_of_toNat_eq
    simp only [BitVec.toNat_ofInt, BitVec.toNat_ofNat]
    omega
  rw [signed1, hv]

theorem keySetBytes_eq (ks : KeySet) :
    keySetBytes ks =
      [BitVec.ofNat 8 (ks.toNat / 65536)] ++ [BitVec.ofNat 8 (ks.toNat / 256)] ++ [BitVec.ofNat 8 ks.toNat] := by
  have byte (k : Nat) : ks.extractLsb' k 8 = BitVec.ofNat 8 (ks.toNat / 2 ^ k) := by
    apply BitVec.eq_of_toNat_eq
    simp [BitVec.extractLsb'_toNat, Nat.shiftRight_eq_div_pow]
  rw [keySetBytes, byte, byte, byte]
  simp

/-- A yes or no is a number. -/
theorem flag1_eq (b : Bool) : flag1 b = [BitVec.ofNat 8 (if b then 1 else 0)] := by cases b <;> rfl

/-- A byte that says whether a timer runs. -/
theorem flag1_isSome {α : Type} (o : Option α) [Decidable (o = none)] :
    flag1 o.isSome = [BitVec.ofNat 8 (if o = none then 0 else 1)] := by
  cases o <;> simp [flag1]

/-- The number of a byte is that byte. -/
theorem byte1_of_toNat_eq {b : Byte} {n : Nat} (h : b.toNat = n) : byte1 n = [b] := by
  rw [byte1, ← h, BitVec.ofNat_toNat, BitVec.setWidth_eq]

/-! ### The bytes of packets upstream (R187) -/

/-- The bytes of a packet upstream, from its class byte and its fields (R183). -/
theorem envelope_eq (classCode : Byte) (fields : List Byte) :
    envelope classCode fields =
      ([classCode] ++ [BitVec.ofNat 8 fields.length] ++ fields) ++
        [BitVec.ofNat 8 ((crc16 ([classCode] ++ [BitVec.ofNat 8 fields.length] ++ fields)).toNat / 256),
          BitVec.ofNat 8 (crc16 ([classCode] ++ [BitVec.ofNat 8 fields.length] ++ fields)).toNat] := by
  rw [← halfBytes_eq]
  rfl

/-- The bytes of a failed completion, whatever its reason: the reason, and the index of a dangling entry (R153). -/
theorem completionPayload_eq (b : Option BankIx) (f : Option FailReason) :
    completionPayload b f =
      (match b with
        | some b => [BitVec.ofNat 8 b]
        | none => [0xFF#8]) ++
      (match f with
        | none => [0xFF#8, 0xFF#8, 0xFF#8]
        | some .noStaging => [0#8, 0xFF#8, 0xFF#8]
        | some .noSource => [1#8, 0xFF#8, 0xFF#8]
        | some (.danglingVoicing entry) =>
          [2#8] ++ [BitVec.ofNat 8 (entry.val / 256), BitVec.ofNat 8 entry.val]
        | some .emptyFingering => [3#8, 0xFF#8, 0xFF#8]
        | some .aborted => [4#8, 0xFF#8, 0xFF#8]) := by
  have bank : optional1 (b.map (·.val)) =
      (match b with
        | some b => [BitVec.ofNat 8 b]
        | none => [0xFF#8]) := by
    cases b <;> rfl
  unfold completionPayload
  rw [bank, List.append_assoc]
  congr 1
  cases f with
  | none => rfl
  | some reason =>
    cases reason with
    | danglingVoicing entry => exact congrArg _ (byte2_eq entry)
    | _ => rfl

/-! ### REPLY_SENT and UPSTREAM_PACKET_SENT (R161, R162) -/

theorem State.replySent_of_immediate {s : State} {p : Upstream} {rest : List Upstream}
    (h : s.collector.upstream = p :: rest) (hp : p.isImmediate = true) :
    s.replySent =
      State.serve
        { s with
          collector := { s.collector with upstream := rest }
          responder := { s.responder with waiting := false } } := by
  unfold State.replySent
  cases p with
  | immediate id code st pl => rw [h]
  | completion id k b f => cases hp
  | notice n ls cs => cases hp

/-- An event that does not fit the head of the packets upstream changes nothing (log 3). -/
theorem State.replySent_of_not_immediate {s : State}
    (h : ∀ p rest, s.collector.upstream = p :: rest → p.isImmediate = false) : s.replySent = s := by
  unfold State.replySent
  split
  next hup => cases h _ _ hup
  · rfl

theorem State.upstreamSent_of_not_immediate {s : State} {p : Upstream} {rest : List Upstream}
    (h : s.collector.upstream = p :: rest) (hp : p.isImmediate = false) :
    s.upstreamSent = { s with collector := { s.collector with upstream := rest } } := by
  unfold State.upstreamSent
  cases p with
  | immediate id code st pl => cases hp
  | completion id k b f => rw [h]
  | notice n ls cs => rw [h]

theorem State.upstreamSent_of_immediate {s : State}
    (h : ∀ p rest, s.collector.upstream = p :: rest → p.isImmediate = true) : s.upstreamSent = s := by
  unfold State.upstreamSent
  split
  next hup => cases h _ _ hup
  next hup => cases h _ _ hup
  · rfl

/-- Settles O8: the head leaves by its class, and each packet's fields are R187's, item by item. -/
theorem upstreamHeadLeaves : Obligations.UpstreamHeadLeaves := by
  unfold Obligations.UpstreamHeadLeaves
  refine ⟨fun s p rest => ⟨fun hup hp hreq => ?idle, fun r rs hup hp hreq => ?next, fun hup hp => ?other, fun hup hp => ?kept,
    fun hup => ?empty, rfl, rfl⟩, fun p => ?bytes⟩
  case idle =>
    show Host.Outcome.next s.replySent = _
    rw [State.replySent_of_immediate hup hp, State.serve]
    simp only [hreq]
  case next =>
    show Host.Outcome.next s.replySent = _
    rw [State.replySent_of_immediate hup hp, State.serve]
    simp only [hreq]
  case other =>
    refine ⟨congrArg Host.Outcome.next (State.replySent_of_not_immediate fun q qs hq => ?_),
      congrArg Host.Outcome.next (State.upstreamSent_of_not_immediate hup hp)⟩
    cases hup.symm.trans hq
    exact hp
  case kept =>
    refine congrArg Host.Outcome.next (State.upstreamSent_of_immediate fun q qs hq => ?_)
    cases hup.symm.trans hq
    exact hp
  case empty =>
    exact ⟨congrArg Host.Outcome.next (State.replySent_of_not_immediate fun q qs hq => nomatch hup.symm.trans hq),
      congrArg Host.Outcome.next (State.upstreamSent_of_immediate fun q qs hq => nomatch hup.symm.trans hq)⟩
  case bytes =>
    cases p with
    | immediate id code st pl =>
      have hfields : (Upstream.immediate id code st pl).fields =
          [id, code, 0#8] ++ [BitVec.ofNat 8 st.code] ++ pl := rfl
      rw [Upstream.wire, hfields, envelope_eq]
      cases st <;> rfl
    | completion id k b f =>
      have hfields : (Upstream.completion id k b f).fields =
          [id, k.command, 1#8] ++ [BitVec.ofNat 8 (if f.isNone then Status.ok else Status.failed).code] ++
            completionPayload b f := rfl
      rw [Upstream.wire, hfields, envelope_eq, completionPayload_eq, ← List.append_assoc]
      cases k <;> cases f <;> rfl
    | notice n ls cs =>
      have hfields : (Upstream.notice n ls cs).fields =
          halfBytes n ++ halfBytes ls ++ byte1 cs.length ++ cs.flatMap fun c => byte1 c.latch ++ c.bytes := rfl
      rw [Upstream.wire, hfields, envelope_eq, halfBytes_eq, halfBytes_eq]
      rfl

end Sys2Proof.Machine

/-! Requests in a ready state: a request that is carried out while the responder waits (R161). -/

namespace Sys2Proof.Machine

open Sys2Proof

/-- The state in which a ready responder carries a request out: it waits for the reply to be sent (R161). -/
def State.busy (s : State) : State := { s with responder := { s.responder with waiting := true } }

/-! ### The operations that requests are carried out with do not look at whether the responder waits -/

section

variable (s : State)

@[simp] theorem State.busy_reads :
    s.busy.collector = s.collector ∧ s.busy.slots = s.slots ∧ s.busy.pool = s.pool ∧ s.busy.port = s.port ∧
      s.busy.store = s.store ∧ s.busy.notices = s.notices ∧ s.busy.freeCount = s.freeCount ∧
      s.busy.pending = s.pending ∧ s.busy.receivers = s.receivers ∧ s.busy.responder.engine = s.responder.engine ∧
      (∀ i, s.busy.slot i = s.slot i) ∧ (∀ v, s.busy.voice v = s.voice v) ∧ ∀ b, s.busy.bank b = s.bank b := by
  simp [State.busy, State.slot, State.voice, State.bank]

@[simp] theorem State.busy_writes :
    (∀ p, s.busy.push p = (s.push p).busy) ∧ (∀ i y, s.busy.setSlot i y = (s.setSlot i y).busy) ∧
      (∀ i f, s.busy.modSlot i f = (s.modSlot i f).busy) ∧ (∀ v y, s.busy.setVoice v y = (s.setVoice v y).busy) ∧
      (∀ v f, s.busy.modVoice v f = (s.modVoice v f).busy) ∧ (∀ b y, s.busy.setBank b y = (s.setBank b y).busy) ∧
      (∀ b y, s.busy.setBankState b y = (s.setBankState b y).busy) ∧
      (∀ l, s.busy.setAgeList l = (s.setAgeList l).busy) ∧
      (∀ l, s.busy.setReleaseList l = (s.setReleaseList l).busy) ∧
      (∀ q, s.busy.setQueue q = (s.setQueue q).busy) ∧ (∀ ws, s.busy.setWork ws = (s.setWork ws).busy) ∧
      s.busy.settleStall = s.settleStall.busy :=
  ⟨fun _ => rfl, fun _ _ => rfl, fun _ _ => rfl, fun _ _ => rfl, fun _ _ => rfl, fun _ _ => rfl, fun _ _ => rfl,
    fun _ => rfl, fun _ => rfl, fun _ => rfl, fun _ => rfl, rfl⟩

@[simp] theorem State.busy_raise (c : Capture) : s.busy.raise c = (s.raise c).busy := by
  unfold State.raise
  simp only [State.busy_reads]
  (repeat' split) <;> rfl

/-- A run of operations, each of which commutes. -/
theorem State.busy_foldl {α : Type} (f : State → α → State) (h : ∀ t a, f (State.busy t) a = (f t a).busy)
    (l : List α) : l.foldl f s.busy = (l.foldl f s).busy := by
  induction l generalizing s with
  | nil => rfl
  | cons a l ih => simp [h, ih]

@[simp] theorem State.busy_makeRoom : s.busy.makeRoom = s.makeRoom.busy := by
  have note (t : State) (r : VoiceRecord) : t.busy.noteEviction r = (t.noteEviction r).busy := by
    have owe : t.busy.oweRefresh r = (t.oweRefresh r).busy := by cases r <;> rfl
    unfold State.noteEviction
    split <;> simp [owe]
  unfold State.makeRoom
  simp only [State.busy_reads]
  (repeat' split) <;> simp [note]

@[simp] theorem State.busy_enqueue (r : VoiceRecord) : s.busy.enqueue r = (s.enqueue r).busy := by
  simp only [State.enqueue, State.busy_makeRoom, State.busy_reads]
  split <;> rfl

@[simp] theorem State.busy_releaseLayers (k : StopKind) (es : List (Option VoiceIx)) :
    State.releaseLayers k es s.busy = (State.releaseLayers k es s).busy := by
  have one (t : State) (v : VoiceIx) : t.busy.releaseVoice v k = (t.releaseVoice v k).busy := by
    unfold State.releaseVoice
    simp only [State.busy_reads]
    split
    · simp [State.cancelVoice]
    · simp [State.stopVoice]
    · rfl
  induction es generalizing s with
  | nil => rfl
  | cons e es ih => cases e <;> simp [State.releaseLayers, one, ih]

@[simp] theorem State.busy_drain : s.busy.drain = s.drain.busy := by
  have one (t : State) (b : BankIx) : t.busy.drainBank b = (t.drainBank b).busy := by
    have used : t.busy.bankUsed b = t.bankUsed b := rfl
    simp only [State.drainBank, State.busy_reads, used]
    split <;> rfl
  simp [State.drain, one]

@[simp] theorem State.busy_switchBank (i : SlotIx) : s.busy.switchBank i = (s.switchBank i).busy := by
  simp [State.switchBank]

@[simp] theorem State.busy_unbind (i : SlotIx) : s.busy.unbind i = (s.unbind i).busy := by simp [State.unbind]

@[simp] theorem State.busy_bind (i : SlotIx) (t : Half) : s.busy.bind i t = (s.bind i t).busy := by
  simp only [State.bind, State.busy_reads]
  split <;> simp

@[simp] theorem State.busy_voiceFlush (place : Bool) : s.busy.voiceFlush place = (s.voiceFlush place).busy := by
  have pool : s.busy.flushPool place = (s.flushPool place).busy := rfl
  have one (t : State) (i : SlotIx) : t.busy.flushSlot i = (t.flushSlot i).busy := by
    unfold State.flushSlot
    simp only [State.busy_reads]
    split <;> simp
  rw [State.voiceFlush, pool, State.busy_foldl _ _ one]
  rfl

@[simp] theorem State.busy_advanceCopy : s.busy.advanceCopy = s.advanceCopy.busy := by
  unfold State.advanceCopy
  simp only [State.busy_reads]
  (repeat' split) <;> rfl

@[simp] theorem State.busy_abandonWork : s.busy.abandonWork = s.abandonWork.busy := by
  simp only [State.abandonWork, State.busy_advanceCopy, State.busy_reads]
  split <;> rfl

@[simp] theorem State.busy_warmRestart : s.busy.warmRestart = s.warmRestart.busy := by
  have one (t : State) (i : SlotIx) : t.busy.restartSlot i = (t.restartSlot i).busy := by
    unfold State.restartSlot
    simp only [State.busy_reads]
    split <;> simp
  unfold State.warmRestart
  dsimp only
  rw [State.busy_abandonWork, State.busy_voiceFlush, State.busy_foldl _ _ one]
  generalize List.foldl _ _ _ = t
  rfl

end

/-! ### Answers in a ready state -/

/-- The reply that ends what a request did (R160). -/
theorem State.reply_busy {t : State} (h : t.collector.up = true) (r : Request) (st : Status) (pl : List Byte) :
    t.busy.reply r st pl = t.answered r.id r.code st pl := by
  rw [State.reply_of_up (s := t.busy) h]
  rfl

section

variable {s : State} (h : s.Ready)
include h

/-- A request that arrives in a ready state is carried out at once (R161). -/
theorem submit_busy (r : Request) : s.submit r = carryOut r s.busy := State.submit_ready h r

theorem State.Ready.up : s.collector.up = true := State.up_of_receives h.1

/-- A request that is refused whatever the state (R159, R160). -/
theorem submit_refused {r : Request} {st : Status} (hr : ∀ t : State, carryOut r t = t.refuse r st) :
    Host.Outcome.next (φ := Fault) (ρ := Refusal) (s.submit r) = .next (s.answered r.id r.code st []) := by
  rw [submit_busy h, hr]
  exact congrArg _ (State.refuse_ready h r st)

end

/-! ### Arguments that do not fit (R159, R188) -/

section

variable {r : Request} (s : State)

theorem cmdStatus_of_length (h : r.args.length ≠ 0) : cmdStatus r s = s.refuse r .badArg := by
  unfold cmdStatus
  split
  next hargs => simp [hargs] at h
  · rfl

theorem cmdReadEngine_of_length (h : r.args.length ≠ 0) : cmdReadEngine r s = s.refuse r .badArg := by
  unfold cmdReadEngine
  split
  next hargs => simp [hargs] at h
  · rfl

theorem requestWork_of_length (k : WorkKind) (h : r.args.length ≠ 0) : requestWork k r s = s.refuse r .badArg := by
  unfold requestWork
  split
  next hargs => simp [hargs] at h
  · rfl

theorem cmdAbortWork_of_length (h : r.args.length ≠ 0) : cmdAbortWork r s = s.refuse r .badArg := by
  unfold cmdAbortWork
  split
  next hargs => simp [hargs] at h
  · rfl

theorem cmdPanic_of_length (h : r.args.length ≠ 0) : cmdPanic r s = s.refuse r .badArg := by
  unfold cmdPanic
  split
  next hargs => simp [hargs] at h
  · rfl

theorem cmdRestart_of_length (h : r.args.length ≠ 0) : cmdRestart r s = s.refuse r .badArg := by
  unfold cmdRestart
  split
  next hargs => simp [hargs] at h
  · rfl

theorem cmdReadCapture_of_length (h : r.args.length ≠ 1) : cmdReadCapture r s = s.refuse r .badArg := by
  unfold cmdReadCapture
  split
  next hargs => simp [hargs] at h
  · rfl

theorem cmdUnbindSlot_of_length (h : r.args.length ≠ 1) : cmdUnbindSlot r s = s.refuse r .badArg := by
  unfold cmdUnbindSlot
  split
  next hargs => simp [hargs] at h
  · rfl

theorem cmdReadSlot_of_length (h : r.args.length ≠ 1) : cmdReadSlot r s = s.refuse r .badArg := by
  unfold cmdReadSlot
  split
  next hargs => simp [hargs] at h
  · rfl

theorem cmdReadVoices_of_length (h : r.args.length ≠ 2) : cmdReadVoices r s = s.refuse r .badArg := by
  unfold cmdReadVoices
  split
  next hargs => simp [hargs] at h
  · rfl

theorem cmdBindSlot_of_length (h : r.args.length ≠ 3) : cmdBindSlot r s = s.refuse r .badArg := by
  unfold cmdBindSlot
  split
  next hargs => simp [hargs] at h
  · rfl

theorem cmdClearNotices_of_length (h : r.args.length ≠ 4) : cmdClearNotices r s = s.refuse r .badArg := by
  unfold cmdClearNotices
  split
  next hargs => simp [hargs] at h
  · rfl

theorem cmdReadTable_of_length (h : r.args.length ≠ 4) : cmdReadTable r s = s.refuse r .badArg := by
  unfold cmdReadTable
  split
  next hargs => simp [hargs] at h
  · rfl

theorem cmdSetNotices_of_length (h : r.args.length ≠ 5) : cmdSetNotices r s = s.refuse r .badArg := by
  unfold cmdSetNotices
  split
  next hargs => simp [hargs] at h
  · rfl

theorem cmdSetSlot_of_length (h : r.args.length < 3) : cmdSetSlot r s = s.refuse r .badArg := by
  unfold cmdSetSlot
  split
  next hargs =>
    rw [hargs] at h
    exact absurd h (by simp)
  · rfl

theorem cmdWriteTable_of_length (h : r.args.length < 3) : cmdWriteTable r s = s.refuse r .badArg := by
  have hread : readTableWrite r.args = none := by
    unfold readTableWrite
    split
    next hargs =>
      rw [hargs] at h
      exact absurd h (by simp)
    · rfl
  unfold cmdWriteTable
  rw [hread]

/-- Values that differ in number from the bits of the mask (R188). -/
theorem readMasked_of_not_fits {mask : Nat → Bool} {n : Nat} {bs : List Byte}
    (h : bs.length ≠ 2 * (List.range n).countP mask) : readMasked mask n bs = none := by
  unfold readMasked
  exact if_neg (by rwa [← List.countP_eq_length_filter])

theorem cmdSetSlot_of_mask {b m1 m0 : Byte} {vs : List Byte} (hargs : r.args = b :: m1 :: m0 :: vs)
    (h : vs.length ≠ 2 * (List.range 16).countP (half m1 m0).getLsbD) : cmdSetSlot r s = s.refuse r .badArg := by
  unfold cmdSetSlot
  simp only [hargs, readMasked_of_not_fits h]
  cases readSlotIx b <;> rfl

theorem cmdSetEngine_of_mask {m : Byte} {vs : List Byte} (hargs : r.args = m :: vs)
    (h : vs.length ≠ 2 * (List.range 5).countP m.getLsbD ∨ 32 ≤ m.toNat) :
    cmdSetEngine r s = s.refuse r .badArg := by
  unfold cmdSetEngine
  simp only [hargs]
  rcases h with hlen | hbits
  · rw [readMasked_of_not_fits hlen]
  · split
    · rfl
    · exact if_pos (.inl hbits)

/-- A code that names no command is answered UNKNOWN (R159). -/
theorem carryOut_unknown (h : r.code.toNat ∉ commandCodes) : carryOut r s = s.refuse r .unknown := by
  unfold carryOut
  split
  case h_19 => rfl
  all_goals
    next hcode => exact absurd (by rw [hcode]; decide) h

end

/-- Settles O9: each command's arguments are matched by their number before anything is done. -/
theorem malformedRequestsAreRefused : Obligations.MalformedRequestsAreRefused := by
  unfold Obligations.MalformedRequestsAreRefused
  intro id args s h
  refine ⟨fun code hcode => submit_refused h fun t => carryOut_unknown t hcode, fun hlen => ⟨?_, ?_, ?_, ?_, ?_, ?_, ?_⟩,
    fun hlen => ⟨?_, ?_, ?_⟩, fun hlen => ?_, fun hlen => ?_, fun hlen => ⟨?_, ?_⟩, fun hlen => ?_,
    fun hlen => ⟨?_, ?_⟩, ?_, fun b m1 m0 hlen => ?_, fun m hmask => ?_⟩
  · exact submit_refused h fun t => cmdStatus_of_length t hlen
  · exact submit_refused h fun t => cmdReadEngine_of_length t hlen
  · exact submit_refused h fun t => requestWork_of_length t .copyLive hlen
  · exact submit_refused h fun t => requestWork_of_length t .commit hlen
  · exact submit_refused h fun t => cmdAbortWork_of_length t hlen
  · exact submit_refused h fun t => cmdPanic_of_length t hlen
  · exact submit_refused h fun t => cmdRestart_of_length t hlen
  · exact submit_refused h fun t => cmdReadCapture_of_length t hlen
  · exact submit_refused h fun t => cmdUnbindSlot_of_length t hlen
  · exact submit_refused h fun t => cmdReadSlot_of_length t hlen
  · exact submit_refused h fun t => cmdReadVoices_of_length t hlen
  · exact submit_refused h fun t => cmdBindSlot_of_length t hlen
  · exact submit_refused h fun t => cmdClearNotices_of_length t hlen
  · exact submit_refused h fun t => cmdReadTable_of_length t hlen
  · exact submit_refused h fun t => cmdSetNotices_of_length t hlen
  · exact submit_refused h fun t => cmdSetSlot_of_length t hlen
  · exact submit_refused h fun t => cmdWriteTable_of_length t hlen
  · exact submit_refused h fun t => rfl
  · exact submit_refused h fun t => cmdSetSlot_of_mask (r := ⟨id, 0x12#8, b :: m1 :: m0 :: args⟩) t rfl hlen
  · exact submit_refused h fun t => cmdSetEngine_of_mask (r := ⟨id, 0x14#8, m :: args⟩) t rfl hmask

end Sys2Proof.Machine

/-! The requests that report, and SET_NOTICES (R123, R165 to R170, R187). -/

namespace Sys2Proof.Machine

open Sys2Proof

/-- A request that arrives in a ready state does what it does and is answered (R160, R161). -/
theorem submit_answers {s t : State} (h : s.Ready) {r : Request} {st : Status} {pl : List Byte}
    (hup : t.collector.up = s.collector.up) (hr : carryOut r s.busy = t.busy.reply r st pl) :
    Host.Outcome.next (φ := Fault) (ρ := Refusal) (s.submit r) = .next (t.answered r.id r.code st pl) := by
  rw [submit_busy h, hr, State.reply_busy (hup.trans h.up)]

/-! ### SET_NOTICES (R170, R177) -/

theorem NoticeUnit.enable_eq (n : NoticeUnit) (a b : LatchSet) (m : Bool) [Decidable (m = true ∧
    ∃ l : LatchIx, n.latches[l].first.isSome = true ∧ a.getLsbD l = true)] :
    n.enable a b m =
      { n with
        lineEnable := a
        packetEnable := b
        masterEnable := m
        lineLow := decide (m = true ∧ ∃ l : LatchIx, n.latches[l].first.isSome = true ∧ a.getLsbD l = true) } := by
  have hline : NoticeUnit.line { n with lineEnable := a, packetEnable := b, masterEnable := m } =
      decide (m = true ∧ ∃ l : LatchIx, n.latches[l].first.isSome = true ∧ a.getLsbD l = true) := by
    rw [Bool.eq_iff_iff, NoticeUnit.line_iff, decide_eq_true_iff]
    simp only [Option.isSome_iff_ne_none]
  rw [← hline]
  rfl

/-- Settles O13: the enables are written whole, and the line is R177's. -/
theorem setNoticesWritesEnables : Obligations.SetNoticesWritesEnables := by
  unfold Obligations.SetNoticesWritesEnables
  intro id a1 a0 b1 b0 m s h
  refine ⟨fun hm => ?_, fun hm => submit_refused h fun t => if_neg (by omega)⟩
  have hset := submit_answers h
    (t := { s with notices := s.notices.enable (half a1 a0) (half b1 b0) (m == 1#8) }) (st := .ok) (pl := [])
    (r := ⟨id, 0x03#8, [a1, a0, b1, b0, m]⟩) rfl (if_pos hm)
  refine hset.trans ?_
  rw [NoticeUnit.enable_eq]
  simp only [beq_iff_eq]
  rfl

/-! ### STATUS (R166) -/

/-- A report clears the new flag of each latch and moves nothing else but the number (R176). -/
theorem NoticeUnit.report_eq (n : NoticeUnit) :
    n.report =
      { n with
        reportNumber := n.reportNumber + 1
        latches := Vector.ofFn fun l => { n.latches[l] with isNew := false } } := by
  unfold NoticeUnit.report
  congr 1
  apply Vector.ext
  intro k hk
  simp

theorem NoticeUnit.report_isSet (n : NoticeUnit) (l : LatchIx) : n.report.latches[l].isSet = n.latches[l].isSet := by
  rw [NoticeUnit.latch_report]
  rfl

theorem latchClass_iff : ∀ l : LatchIx,
    (latchClass l = .fault ↔ l = 9 ∨ l = 10 ∨ l = 15) ∧
      (latchClass l = .degraded ↔ l = 4 ∨ l = 5 ∨ l = 6 ∨ l = 8) := by
  decide

/-- Some set latch is of a class (R166). -/
def NoticeUnit.Shows (n : NoticeUnit) (c : NoticeClass) : Prop :=
  ∃ l : LatchIx, n.latches[l].first.isSome = true ∧ latchClass l = c

theorem NoticeUnit.any_shows (n : NoticeUnit) (c : NoticeClass) :
    ((List.finRange 16).any fun l => n.latches[l].isSet && latchClass l == c) = true ↔ n.Shows c := by
  simp only [List.any_eq_true, List.mem_finRange, true_and, Bool.and_eq_true, beq_iff_eq]
  rfl

/-- The worst class is the first, in the order of R166, that some set latch is of. -/
theorem NoticeUnit.worst_cases (n : NoticeUnit) :
    (n.Shows .fault ∧ n.worst = some .fault) ∨
      (¬n.Shows .fault ∧ n.Shows .degraded ∧ n.worst = some .degraded) ∨
      (¬n.Shows .fault ∧ ¬n.Shows .degraded ∧ n.Shows .advisory ∧ n.worst = some .advisory) ∨
      (¬n.Shows .fault ∧ ¬n.Shows .degraded ∧ ¬n.Shows .advisory ∧ n.worst = none) := by
  classical
  have hany : (fun c => (List.finRange 16).any fun l => n.latches[l].isSet && latchClass l == c) =
      fun c => decide (n.Shows c) :=
    funext fun c => by rw [Bool.eq_iff_iff, NoticeUnit.any_shows, decide_eq_true_iff]
  unfold NoticeUnit.worst
  rw [hany]
  by_cases hf : n.Shows .fault
  · exact .inl ⟨hf, by simp [hf]⟩
  · by_cases hd : n.Shows .degraded
    · exact .inr (.inl ⟨hf, hd, by simp [hf, hd]⟩)
    · by_cases ha : n.Shows .advisory
      · exact .inr (.inr (.inl ⟨hf, hd, ha, by simp [hf, hd, ha]⟩))
      · exact .inr (.inr (.inr ⟨hf, hd, ha, by simp [hf, hd, ha]⟩))

/-- The byte of the worst class among the set latches (R166, log 8). -/
theorem NoticeUnit.worst_byte (n : NoticeUnit)
    [Decidable (∃ l : LatchIx, n.latches[l].first.isSome = true ∧ (l = 9 ∨ l = 10 ∨ l = 15))]
    [Decidable (∃ l : LatchIx, n.latches[l].first.isSome = true ∧ (l = 4 ∨ l = 5 ∨ l = 6 ∨ l = 8))]
    [Decidable (∃ l : LatchIx, n.latches[l].first.isSome = true)] :
    optional1 (n.worst.map NoticeClass.code) =
      [if ∃ l : LatchIx, n.latches[l].first.isSome = true ∧ (l = 9 ∨ l = 10 ∨ l = 15) then 0#8
        else if ∃ l : LatchIx, n.latches[l].first.isSome = true ∧ (l = 4 ∨ l = 5 ∨ l = 6 ∨ l = 8) then 1#8
        else if ∃ l : LatchIx, n.latches[l].first.isSome = true then 2#8
        else 0xFF#8] := by
  have hfault : n.Shows .fault ↔
      ∃ l : LatchIx, n.latches[l].first.isSome = true ∧ (l = 9 ∨ l = 10 ∨ l = 15) :=
    exists_congr fun l => and_congr_right' (latchClass_iff l).1
  have hdegraded : n.Shows .degraded ↔
      ∃ l : LatchIx, n.latches[l].first.isSome = true ∧ (l = 4 ∨ l = 5 ∨ l = 6 ∨ l = 8) :=
    exists_congr fun l => and_congr_right' (latchClass_iff l).2
  have hadvisory (hf : ¬n.Shows .fault) (hd : ¬n.Shows .degraded) :
      n.Shows .advisory ↔ ∃ l : LatchIx, n.latches[l].first.isSome = true := by
    refine exists_congr fun l => and_iff_left_of_imp fun hl => ?_
    cases hc : latchClass l with
    | fault => exact absurd ⟨l, hl, hc⟩ hf
    | degraded => exact absurd ⟨l, hl, hc⟩ hd
    | advisory => rfl
  rcases n.worst_cases with ⟨hf, hw⟩ | ⟨hf, hd, hw⟩ | ⟨hf, hd, ha, hw⟩ | ⟨hf, hd, ha, hw⟩
  · rw [hw, if_pos (hfault.mp hf)]
    rfl
  · rw [hw, if_neg (mt hfault.mpr hf), if_pos (hdegraded.mp hd)]
    rfl
  · rw [hw, if_neg (mt hfault.mpr hf), if_neg (mt hdegraded.mpr hd), if_pos ((hadvisory hf hd).mp ha)]
    rfl
  · rw [hw, if_neg (mt hfault.mpr hf), if_neg (mt hdegraded.mpr hd), if_neg (mt (hadvisory hf hd).mpr ha)]
    rfl

theorem NoticeUnit.worst_report (n : NoticeUnit) : n.report.worst = n.worst := by
  simp only [NoticeUnit.worst, NoticeUnit.report_isSet]

theorem NoticeUnit.setLatches_report (n : NoticeUnit) : n.report.setLatches = n.setLatches := by
  simp only [NoticeUnit.setLatches, NoticeUnit.report_isSet]

/-- Settles O11: the payload is the model's, with the number advanced and the latches as they stood. -/
theorem statusReports : Obligations.StatusReports := by
  unfold Obligations.StatusReports
  intro id s h
  refine ⟨s.notices.setLatches, _, ?_, fun l => NoticeUnit.getLsbD_setLatches _ l, rfl⟩
  have hset := submit_answers h (t := { s with notices := s.notices.report })
    (st := .ok) (pl := statusBytes { s with notices := s.notices.report }) (r := ⟨id, 0x01#8, []⟩) rfl rfl
  refine hset.trans (congrArg Host.Outcome.next ?_)
  have slotBytes (x : Slot) : byte1 x.phase.code ++ optional1 (x.absentCause.map AbsentCause.code) =
      [match x.phase with
        | .unbound => 0#8
        | .absent => 1#8
        | .quiet => 2#8
        | .stalled => 3#8
        | .sounding => 4#8,
        match x.absentCause with
        | some .bind => 0#8
        | some .timeout => 1#8
        | some .restart => 2#8
        | none => 0xFF#8] := by
    have hphase : byte1 x.phase.code = [match x.phase with
        | .unbound => 0#8
        | .absent => 1#8
        | .quiet => 2#8
        | .stalled => 3#8
        | .sounding => 4#8] := by
      cases x.phase <;> rfl
    have hcause : optional1 (x.absentCause.map AbsentCause.code) = [match x.absentCause with
        | some .bind => 0#8
        | some .timeout => 1#8
        | some .restart => 2#8
        | none => 0xFF#8] := by
      rcases x.absentCause with _ | (_ | _ | _) <;> rfl
    rw [hphase, hcause]
    rfl
  have bankByte (b : Bank) : byte1 b.state.code = [match b.state with
      | .empty => 0#8
      | .staged => 1#8
      | .copying => 2#8
      | .verifying => 3#8
      | .live => 4#8
      | .draining => 5#8] := by
    cases b.state <;> rfl
  have liveByte (o : Option BankIx) : optional1 (o.map (·.val)) = [match o with
      | some b => BitVec.ofNat 8 b
      | none => 0xFF#8] := by
    cases o <;> rfl
  have flagByte (b : Bool) : flag1 b = [if b then 1#8 else 0#8] := rfl
  have kindByte (k : WorkKind) : byte1 k.code = [match k with
      | .copyLive => 0#8
      | .commit => 1#8] := by
    cases k <;> rfl
  unfold statusBytes
  dsimp only
  rw [NoticeUnit.worst_report, NoticeUnit.setLatches_report, NoticeUnit.worst_byte, NoticeUnit.report_eq]
  have hwork : workBytes s.store.work = (match s.store.work with
      | [] => []
      | w :: ws => [match w.kind with
          | .copyLive => 0#8
          | .commit => 1#8, w.id, 1#8] ++ ws.flatMap fun w' => [match w'.kind with
          | .copyLive => 0#8
          | .commit => 1#8, w'.id, 0#8]) := by
    cases s.store.work with
    | nil => rfl
    | cons w ws => simp only [workBytes, kindByte, flagByte]; rfl
  rw [hwork]
  simp only [slotBytes, bankByte, liveByte, List.append_assoc, flagByte]
  rfl

end Sys2Proof.Machine

/-! READ_CAPTURE, READ_SLOT, READ_VOICES and READ_TABLE (R23, R123, R167 to R169). -/

namespace Sys2Proof.Machine

open Sys2Proof

/-- A slot number that names slot i (R7). -/
theorem readSlotIx_of_toNat {b : Byte} {i : SlotIx} (h : b.toNat = i.val) : readSlotIx b = some i := by
  unfold readSlotIx
  rw [dif_pos (h ▸ i.isLt)]
  exact congrArg some (Fin.ext h)

/-- A slot number above 7 (R7). -/
theorem readSlotIx_of_above {b : Byte} (h : 7 < b.toNat) : readSlotIx b = none := by
  unfold readSlotIx
  exact dif_neg (by omega)

/-! ### READ_CAPTURE (R169) -/

theorem captureBytes_of_set {l : LatchIx} {x : Latch} {c : Capture} (h : x.first = some c) {b : Byte}
    (hb : b.toNat = l.val) :
    captureBytes l x =
      [b, 1#8] ++ [BitVec.ofNat 8 (x.lastMark.toNat / 256), BitVec.ofNat 8 x.lastMark.toNat] ++
        [BitVec.ofNat 8 x.repeats] ++ c.bytes := by
  rw [captureBytes, byte1_of_toNat_eq hb, halfBytes_eq, Latch.isSet, h]
  rfl

theorem captureBytes_of_clear {l : LatchIx} {x : Latch} (h : x.first = none) {b : Byte} (hb : b.toNat = l.val) :
    captureBytes l x =
      [b, 0#8] ++ [BitVec.ofNat 8 (x.lastMark.toNat / 256), BitVec.ofNat 8 x.lastMark.toNat] ++ [0#8] ++
        List.replicate ([2, 2, 3, 3, 2, 4, 4, 3, 2, 1, 2, 2, 2, 4, 2, 5].getD l 0) 0xFF#8 := by
  rw [captureBytes, byte1_of_toNat_eq hb, halfBytes_eq, Latch.isSet, h]
  rfl

theorem exec_readCapture_ready {s : State} (h : s.Ready) (id : Byte) {b : Byte} {l : LatchIx} (hb : b.toNat = l.val) :
    exec (.readCapture id [b]) s =
      .next (s.answered id 0x04#8 .ok (captureBytes l s.notices.latches[l])) := by
  have hlt : b.toNat < 16 := hb ▸ l.isLt
  obtain rfl : l = ⟨b.toNat, hlt⟩ := Fin.ext hb.symm
  exact submit_answers h (t := s) (r := ⟨id, 0x04#8, [b]⟩) rfl (dif_pos hlt)

/-- The table and the entry of a dangling voicing (R153). -/
theorem failTable_dangling (e : EntryIx) :
    failTable (.danglingVoicing e) = [2#8] ++ [BitVec.ofNat 8 (e.val / 256), BitVec.ofNat 8 e.val] :=
  congrArg ([2#8] ++ ·) (byte2_eq e)

theorem Capture.bytes_length (c : Capture) : c.bytes.length = captureSize c.latch := by
  cases c with
  | workFail k r =>
    have hsize : (failTable r).length = 3 := by
      cases r with
      | danglingVoicing e => rw [failTable_dangling]; rfl
      | _ => rfl
    simp [Capture.bytes, hsize, byte1, captureSize, Capture.latch]
  | _ => rfl

/-- The table and the index of a WORK_FAIL capture (R153). -/
theorem failTable_eq (r : FailReason) :
    failTable r ++ byte1 r.code = match r with
      | .noStaging => [0xFF#8, 0xFF#8, 0xFF#8, 0#8]
      | .noSource => [0xFF#8, 0xFF#8, 0xFF#8, 1#8]
      | .danglingVoicing entry => [2#8] ++ [BitVec.ofNat 8 (entry.val / 256), BitVec.ofNat 8 entry.val] ++ [2#8]
      | .emptyFingering => [2#8, 0xFF#8, 0xFF#8, 3#8]
      | .aborted => [0xFF#8, 0xFF#8, 0xFF#8, 4#8] := by
  cases r with
  | danglingVoicing entry => rw [failTable_dangling]; rfl
  | _ => rfl

/-- Settles O14: the payload of a set and of a clear latch, and the bytes of each capture. -/
theorem readCaptureReports : Obligations.ReadCaptureReports := by
  unfold Obligations.ReadCaptureReports
  refine ⟨fun id b s h => ⟨fun l hb => ⟨fun c hc => ?_, fun hc => ?_⟩, fun hb => submit_refused h fun t => dif_neg (by omega)⟩,
    fun c => ⟨c.bytes_length, ?_⟩⟩
  · rw [exec_readCapture_ready h id hb, captureBytes_of_set hc hb]
  · rw [exec_readCapture_ready h id hb, captureBytes_of_clear hc hb]
  · cases c with
    | corrupt r o => cases r <;> cases o <;> rfl
    | stray t => exact halfBytes_eq t
    | lost i p => cases p <;> rfl
    | unmapped i ks => rw [Capture.bytes, keySetBytes_eq]; rfl
    | evict v re => cases re <;> rfl
    | attach d p => cases p <;> rfl
    | clamp i k v => rw [Capture.bytes, signed2_eq]; rfl
    | workDone k b => cases k <;> rfl
    | workFail k r =>
      rw [Capture.bytes, List.append_assoc, failTable_eq]
      cases k <;> rfl
    | _ => rfl

/-! ### READ_SLOT (R23) -/

/-- Settles O20: the items of the payload one by one. -/
theorem readSlotReports : Obligations.ReadSlotReports := by
  unfold Obligations.ReadSlotReports
  intro id b s h
  refine ⟨fun hb => submit_refused h fun t => ?_, fun i hb => ?_⟩
  · show cmdReadSlot ⟨id, 0x13#8, [b]⟩ t = _
    simp only [cmdReadSlot, readSlotIx_of_above hb]
  intro x st one two signed keys
  have hanswer := submit_answers h (t := s) (r := ⟨id, 0x13#8, [b]⟩) (st := .ok) (pl := slotBytes (s.slot i)) rfl (by
    show cmdReadSlot ⟨id, 0x13#8, [b]⟩ s.busy = _
    simp only [cmdReadSlot, readSlotIx_of_toNat hb]
    rfl)
  refine hanswer.trans (congrArg (fun pl => Host.Outcome.next (s.answered id 0x13#8 .ok pl)) ?_)
  have htag : x.tag.elim (allOnes 2) halfBytes = (match x.tag with
      | some tag => two tag.toNat
      | none => [0xFF#8, 0xFF#8]) := by
    cases x.tag with
    | none => rfl
    | some tag => exact halfBytes_eq tag
  have hphase : byte1 x.phase.code = (match x.phase with
      | .unbound => [0#8]
      | .absent => [1#8]
      | .quiet => [2#8]
      | .stalled => [3#8]
      | .sounding => [4#8]) := by
    cases x.phase <;> rfl
  have hcause : optional1 (x.absentCause.map AbsentCause.code) = (match x.absentCause with
      | some .bind => [0#8]
      | some .timeout => [1#8]
      | some .restart => [2#8]
      | none => [0xFF#8]) := by
    rcases x.absentCause with _ | (_ | _ | _) <;> rfl
  have hseq : presence 1 (x.expectedSeq.map fun b => [b]) = (match x.expectedSeq with
      | some sequence => [1#8, sequence]
      | none => [0#8, 0#8]) := by
    cases x.expectedSeq <;> rfl
  have hprofile : presence 1 ((x.pendingSettings.getD {}).profile.map fun x => byte1 x) =
      (match x.pendingSettings.bind (·.profile) with
      | some profile => [1#8] ++ one profile
      | none => [0#8, 0#8]) := by
    rcases x.pendingSettings with _ | ⟨_ | _, _, _⟩ <;> rfl
  have htranspose : presence 2 ((x.pendingSettings.getD {}).transpose.map signed2) =
      (match x.pendingSettings.bind (·.transpose) with
      | some transpose => [1#8] ++ signed transpose
      | none => [0#8, 0#8, 0#8]) := by
    rcases x.pendingSettings with _ | ⟨_, _ | v, _⟩
    · rfl
    · rfl
    · exact congrArg ([1#8] ++ ·) (signed2_eq v)
  have hcenter : presence 1 ((x.pendingSettings.getD {}).rollerCenter.map byte1) =
      (match x.pendingSettings.bind (·.rollerCenter) with
      | some center => [1#8] ++ one center
      | none => [0#8, 0#8]) := by
    rcases x.pendingSettings with _ | ⟨_, _, _ | _⟩ <;> rfl
  have hbank : optional1 (x.bank.map (·.val)) = (match x.bank with
      | some bank => one bank
      | none => [0xFF#8]) := by
    cases x.bank <;> rfl
  have hresolution : resolutionBytes x.resolution = (match x.resolution with
      | some r => [1#8] ++ one r.entry ++ one r.note ++ signed r.cent ++ one r.voicing
      | none => [0#8, 0#8, 0#8, 0#8, 0#8, 0#8]) := by
    cases x.resolution with
    | none => rfl
    | some r =>
      simp only [resolutionBytes, Option.map_some, presence, Option.elim_some, signed2_eq]
      rfl
  have hlayers : (x.layers.flatMap fun e => optional1 (e.map (·.val))) = x.layers.flatMap fun entry =>
      match entry with
      | some voice => one voice
      | none => [0xFF#8] := by
    congr 1
    funext e
    cases e <;> rfl
  unfold slotBytes settingsBytes pendingBytes
  rw [htag, hphase, hcause, hseq, hprofile, htranspose, hcenter, hbank, hresolution, hlayers, flag1_isSome,
    flag1_eq, keySetBytes_eq, keySetBytes_eq]
  simp only [byte2_eq, signed2_eq, List.append_assoc]
  rfl

/-! ### READ_VOICES (R123, R168) -/

/-- The bytes of one voice record, item by item (R123). -/
theorem Pool.voiceBytes_eq (p : Pool) (v : VoiceIx) :
    p.voiceBytes v =
      [BitVec.ofNat 8 v] ++
        (match p.voices[v].phase with
          | .free => [0#8]
          | .sounding => [1#8]
          | .releasing => [2#8]) ++
        (match p.voices[v].owner with
          | some o => [BitVec.ofNat 8 o.slot] ++ [BitVec.ofNat 8 o.layer] ++ [BitVec.ofNat 8 o.priority]
          | none => [0xFF#8, 0xFF#8, 0xFF#8]) ++
        [p.voices[v].generation] ++
        (match p.voices[v].dn with
          | .none => [0#8]
          | .pending => [1#8]
          | .opened => [2#8]
          | .tail => [3#8]) ++
        [p.voices[v].dnGeneration] ++
        [BitVec.ofNat 8 (p.voices[v].lastPitch / 256), BitVec.ofNat 8 p.voices[v].lastPitch] ++
        [BitVec.ofNat 8 (p.voices[v].lastLevel / 256), BitVec.ofNat 8 p.voices[v].lastLevel] ++
        [BitVec.ofNat 8 (if p.voices[v].pitchOwed then 1 else 0)] ++
        [BitVec.ofNat 8 (if p.voices[v].levelOwed then 1 else 0)] ++
        [BitVec.ofNat 8 (if p.voices[v].releaseTimer = none then 0 else 1)] ++
        (match p.voices[v].phase with
          | .sounding =>
            (match p.ageList.idxOf? v with
              | some k => [BitVec.ofNat 8 k]
              | none => [0xFF#8])
          | .releasing =>
            (match p.releaseList.idxOf? v with
              | some k => [BitVec.ofNat 8 k]
              | none => [0xFF#8])
          | .free => [0xFF#8]) := by
  have hposition : optional1 (p.position v) =
      (match p.voices[v].phase with
          | .sounding =>
            (match p.ageList.idxOf? v with
              | some k => [BitVec.ofNat 8 k]
              | none => [0xFF#8])
          | .releasing =>
            (match p.releaseList.idxOf? v with
              | some k => [BitVec.ofNat 8 k]
              | none => [0xFF#8])
          | .free => [0xFF#8]) := by
    unfold Pool.position
    cases p.voices[v].phase with
    | free => rfl
    | sounding => dsimp only; cases p.ageList.idxOf? v <;> rfl
    | releasing => dsimp only; cases p.releaseList.idxOf? v <;> rfl
  have howner : optional1 (p.voices[v].owner.map (·.slot.val)) ++ (optional1 (p.voices[v].owner.map (·.layer.val)) ++
        optional1 (p.voices[v].owner.map (·.priority.val))) =
      (match p.voices[v].owner with
          | some o => [BitVec.ofNat 8 o.slot] ++ [BitVec.ofNat 8 o.layer] ++ [BitVec.ofNat 8 o.priority]
          | none => [0xFF#8, 0xFF#8, 0xFF#8]) := by
    cases p.voices[v].owner <;> rfl
  have hphase : byte1 p.voices[v].phase.code = (match p.voices[v].phase with
          | .free => [0#8]
          | .sounding => [1#8]
          | .releasing => [2#8]) := by
    cases p.voices[v].phase <;> rfl
  have hdn : byte1 p.voices[v].dn.code = (match p.voices[v].dn with
          | .none => [0#8]
          | .pending => [1#8]
          | .opened => [2#8]
          | .tail => [3#8]) := by
    cases p.voices[v].dn <;> rfl
  unfold Pool.voiceBytes
  dsimp only
  rw [hposition, hphase, hdn, flag1_eq, flag1_eq, flag1_isSome, byte2_eq, byte2_eq]
  simp only [List.append_assoc]
  rw [← List.append_assoc (optional1 (p.voices[v].owner.map (·.layer.val))), ← List.append_assoc (optional1 _),
    howner]
  simp only [List.append_assoc]
  rfl

/-- Consecutive voices are told by their numbers. -/
theorem voices_eq_of_range {vs : List VoiceIx} {f n : Nat} (h : vs.map (·.val) = List.range' f n) :
    vs = (List.range n).map fun j => Fin.ofNat 32 (f + j) := by
  have hlt (j : Nat) (hj : j < n) : f + j < 32 := by
    have hmem : f + j ∈ vs.map (·.val) := h ▸ List.mem_range'_1.mpr (by omega)
    obtain ⟨v, -, hv⟩ := List.mem_map.mp hmem
    exact hv ▸ v.isLt
  apply List.map_injective_iff.mpr Fin.val_injective
  rw [h, List.range'_eq_map_range, List.map_map]
  refine List.map_congr_left fun j hj => ?_
  exact (Nat.mod_eq_of_lt (hlt j (List.mem_range.mp hj))).symm

/-- Settles O21: the voices asked for are the consecutive ones, each with its record. -/
theorem readVoicesReports : Obligations.ReadVoicesReports := by
  unfold Obligations.ReadVoicesReports
  intro id f n s h
  refine ⟨fun hn => submit_refused h fun t => if_pos hn, fun hn hn8 hf => submit_refused h fun t => ?_,
    fun vs hn hn8 hvs => ?_⟩
  · exact (if_neg (by omega)).trans (if_pos hf)
  intro one two
  have hlast : f.toNat + (n.toNat - 1) < 32 := by
    have hmem : f.toNat + (n.toNat - 1) ∈ vs.map (·.val) := hvs ▸ List.mem_range'_1.mpr (by omega)
    obtain ⟨v, -, hv⟩ := List.mem_map.mp hmem
    exact hv ▸ v.isLt
  have hanswer := submit_answers h (t := s) (r := ⟨id, 0x30#8, [f, n]⟩) (st := .ok)
    (pl := (List.range n.toNat).flatMap fun j => s.pool.voiceBytes (Fin.ofNat 32 (f.toNat + j))) rfl
    ((if_neg (by omega)).trans (if_neg (by omega)))
  refine hanswer.trans (congrArg (fun pl => Host.Outcome.next (s.answered id 0x30#8 .ok pl)) ?_)
  rw [voices_eq_of_range hvs, List.flatMap_map]
  congr 1
  funext j
  exact s.pool.voiceBytes_eq _

/-! ### READ_TABLE (R167) -/

/-- A run of items that are all there. -/
theorem filterMap_range_of_isSome {α : Type} (f : Nat → Option α) {n : Nat} (h : ∀ j < n, (f j).isSome) :
    ((List.range n).filterMap f).length = n ∧ ∀ j < n, ((List.range n).filterMap f)[j]? = f j := by
  induction n with
  | zero => simp
  | succ n ih =>
    obtain ⟨hlen, hget⟩ := ih fun j hj => h j (by omega)
    obtain ⟨a, ha⟩ := Option.isSome_iff_exists.mp (h n (by omega))
    rw [List.range_succ, List.filterMap_append]
    simp only [List.filterMap_cons, ha, List.filterMap_nil]
    refine ⟨by simp [hlen], fun j hj => ?_⟩
    by_cases hjn : j < n
    · rw [List.getElem?_append_left (by omega), hget j hjn]
    · obtain rfl : j = n := by omega
      rw [List.getElem?_append_right (by omega), hlen, ha]
      simp

/-- Each table has an entry at every index up to its last (R145). -/
theorem Bank.readEntry_isSome (b : Bank) {k : TableKind} {i : Nat} (h : i ≤ k.lastIndex) :
    (b.readEntry k i).isSome := by
  cases k with
  | profile => simp [Bank.readEntry, Nat.lt_succ_of_le (show i ≤ 3 from h)]
  | curve => simp [Bank.readEntry, Nat.lt_succ_of_le (show i ≤ 3 from h)]
  | fingering => simp [Bank.readEntry, Nat.lt_succ_of_le (show i ≤ 255 from h)]
  | voicing => simp [Bank.readEntry, Nat.lt_succ_of_le (show i ≤ 63 from h)]

theorem readKind_of_above {b : Byte} (h : 3 < b.toNat) : readKind b = none := by
  unfold readKind
  split
  case h_5 => rfl
  all_goals omega

/-- READ_TABLE's arguments out of range (R167). -/
theorem cmdReadTable_badArg {id b kb i n : Byte} (s : State)
    (h : 1 < b.toNat ∨ 3 < kb.toNat ∨ n.toNat = 0 ∨ 16 < n.toNat ∨ (kb.toNat = 3 ∧ 10 < n.toNat)) :
    cmdReadTable ⟨id, 0x21#8, [b, kb, i, n]⟩ s = s.refuse ⟨id, 0x21#8, [b, kb, i, n]⟩ .badArg := by
  unfold cmdReadTable
  dsimp only
  split
  · rfl
  next k hk =>
    split
    next hb =>
      refine if_pos ?_
      rcases h with h | h | h | h | ⟨hkb, h⟩
      · omega
      · rw [readKind_of_above h] at hk
        cases hk
      · exact .inl h
      · refine .inr (Nat.lt_of_le_of_lt ?_ h)
        cases k <;> decide
      · have hv : readKind kb = some .voicing := by
          unfold readKind
          rw [hkb]
          rfl
        rw [hv] at hk
        cases hk
        exact .inr h
    · rfl

/-- READ_TABLE's arguments in range: what READ_TABLE answers (R167). -/
theorem cmdReadTable_in_range {id b kb i n : Byte} (s : State) {bank : BankIx} {k : TableKind}
    (hb : b.toNat = bank.val) (hk : readKind kb = some k) (hn : 1 ≤ n.toNat) (hmax : n.toNat ≤ k.maxRead) :
    cmdReadTable ⟨id, 0x21#8, [b, kb, i, n]⟩ s =
      if k.lastIndex < i.toNat ∨ k.lastIndex < i.toNat + n.toNat - 1 then
        s.refuse ⟨id, 0x21#8, [b, kb, i, n]⟩ .noSuch
      else
        (if (s.bank bank).state = .copying then s.advanceCopy else s).reply ⟨id, 0x21#8, [b, kb, i, n]⟩ .ok
          ((((if (s.bank bank).state = .copying then s.advanceCopy else s).bank bank).readEntries k i.toNat
            n.toNat).flatMap TableEntry.bytes) := by
  have hlt : b.toNat < 2 := hb ▸ bank.isLt
  have hbank : (⟨b.toNat, hlt⟩ : BankIx) = bank := Fin.ext hb
  unfold cmdReadTable
  simp only [hk]
  rw [dif_pos hlt, if_neg (by omega), hbank]

/-- The bytes of a table entry, item by item (R188). -/
theorem TableEntry.bytes_eq (e : TableEntry) :
    e.bytes = match e with
      | .profile pr =>
        ((List.finRange 24).map fun k =>
          match pr.map[k] with
          | some key => BitVec.ofNat 8 key
          | none => 0xFF#8) ++ keySetBytes pr.inversion
      | .curve pts => (List.finRange 9).flatMap fun k => [BitVec.ofNat 8 (pts[k] / 256)] ++ [BitVec.ofNat 8 pts[k]]
      | .fingering f =>
        [BitVec.ofNat 8 (if f.valid then 1 else 0)] ++ keySetBytes f.care ++ keySetBytes f.pattern ++
          [BitVec.ofNat 8 f.note] ++ [BitVec.ofNat 8 (f.cent % 256).toNat] ++ [BitVec.ofNat 8 f.voicing]
      | .voicing v =>
        [BitVec.ofNat 8 v.layers.length] ++
          (match v.mode with
            | .legato => [0#8]
            | .retrigger => [1#8]) ++ [BitVec.ofNat 8 v.fixedVelocity] ++
          v.layers.flatMap fun l =>
            [BitVec.ofNat 8 (l.interval % 256).toNat] ++ [BitVec.ofNat 8 l.program] ++ [BitVec.ofNat 8 l.channel] ++
              [BitVec.ofNat 8 l.trim] ++ [BitVec.ofNat 8 (if l.follow then 1 else 0)] := by
  cases e with
  | profile pr =>
    have hmap : pr.map.toList = (List.finRange 24).map fun k => pr.map[k] := by
      apply List.ext_getElem <;> simp
    simp only [TableEntry.bytes, hmap, List.flatMap_map]
    congr 1
    rw [← List.flatMap_pure_eq_map]
    congr 1
    funext k
    dsimp only [Function.comp]
    cases pr.map[k] <;> rfl
  | curve pts =>
    have hmap : pts.toList = (List.finRange 9).map fun k => pts[k] := by
      apply List.ext_getElem <;> simp
    simp only [TableEntry.bytes, hmap, List.flatMap_map, byte2_eq]
    rfl
  | fingering f =>
    simp only [TableEntry.bytes, flag1_eq, signed1_eq]
    rfl
  | voicing v =>
    have hmode : byte1 (if v.mode = .legato then 0 else 1) = (match v.mode with
        | .legato => [0#8]
        | .retrigger => [1#8]) := by
      cases v.mode <;> rfl
    simp only [TableEntry.bytes, flag1_eq, signed1_eq, hmode]
    rfl

/-- Settles O22: the checks of R167 in order, the entries as stored, and the encoding of each. -/
theorem readTableReports : Obligations.ReadTableReports := by
  unfold Obligations.ReadTableReports
  refine ⟨fun id b kb i n s h => ⟨fun hbad => submit_refused h fun t => cmdReadTable_badArg t hbad,
    fun bank k hb hkb hn hn16 hvoicing => ?read⟩, fun s b l hb hcopying hl => ?advance, fun b i => ⟨rfl, rfl, rfl, rfl⟩,
    fun e => ?bytes⟩
  case read =>
    intro lastIndex
    have hk : readKind kb = some k := by
      unfold readKind
      cases k <;> simp only [hkb]
    have hlast : k.lastIndex = lastIndex := by cases k <;> rfl
    have hmax : n.toNat ≤ k.maxRead := by
      cases k with
      | voicing => exact hvoicing rfl
      | _ => exact hn16
    refine ⟨fun hindex => submit_refused h fun t => (cmdReadTable_in_range t hb hk hn hmax).trans (if_pos (hlast ▸ hindex)),
      fun hindex => ?_⟩
    intro u
    have hu : (if (s.busy.bank bank).state = .copying then s.busy.advanceCopy else s.busy) = u.busy := by
      simp only [State.busy_reads, State.busy_advanceCopy, u]
      split <;> rfl
    have hup : u.collector.up = s.collector.up := by
      simp only [u]
      split <;> simp
    have hread := (cmdReadTable_in_range (id := id) (i := i) s.busy hb hk hn hmax).trans (if_neg (by omega))
    rw [hu] at hread
    obtain ⟨hlen, hget⟩ := filterMap_range_of_isSome (fun j => (u.bank bank).readEntry k (i.toNat + j))
      (n := n.toNat) fun j hj => (u.bank bank).readEntry_isSome (by omega)
    exact ⟨(u.bank bank).readEntries k i.toNat n.toNat, submit_answers h hup hread, hlen, hget⟩
  case advance =>
    refine ⟨min bankEntries (s.store.copied + Config.copyAdvance s.freeCount), Nat.min_le_left _ _, ?_, ?_⟩
    · have : bankEntries = 328 := rfl
      omega
    · unfold State.advanceCopy
      simp only [hb, hl, hcopying, if_true]
      rfl
  case bytes =>
    intro one keys
    rw [TableEntry.bytes_eq]
    cases e with
    | profile pr => simp only [keySetBytes_eq]; rfl
    | fingering f => simp only [keySetBytes_eq]; rfl
    | _ => rfl

end Sys2Proof.Machine

/-! BIND_SLOT, UNBIND_SLOT and SET_SLOT (R7 to R12). -/

namespace Sys2Proof.Machine

open Sys2Proof

/-! ### The drain test (R148) -/

theorem State.setSlot_setSlot (s : State) (i : SlotIx) (x y : Slot) : (s.setSlot i x).setSlot i y = s.setSlot i y := by
  simp [State.setSlot]

/-- The switching rule on a slot that was just replaced (R147). -/
theorem State.switchBank_setSlot (s : State) (i : SlotIx) (x : Slot) :
    (s.setSlot i x).switchBank i =
      State.drain (s.setSlot i { x with bank := switchedBank s.store.liveBank x }) := by
  unfold State.switchBank State.modSlot
  rw [State.slot_setSlot_same, State.setSlot_setSlot]
  rfl

theorem State.bankUsed_iff (s : State) (b : BankIx) : s.bankUsed b = false ↔ ∀ i : SlotIx, (s.slot i).bank ≠ some b := by
  simp [State.bankUsed]

/-- The drain test moves the banks alone (R148). -/
theorem State.drain_eq (s : State) : s.drain = { s with store := { s.store with banks := s.drain.store.banks } } := by
  have one (t : State) (b : BankIx) :
      t.drainBank b = { t with store := { t.store with banks := (t.drainBank b).store.banks } } := by
    unfold State.drainBank
    split <;> rfl
  have first (banks : Vector Bank 2) :
      ({ s.drainBank 0 with store := { (s.drainBank 0).store with banks := banks } } : State) =
        { s with store := { s.store with banks := banks } } := by
    rw [one s 0]
  exact (one (s.drainBank 0) 1).trans (first s.drain.store.banks)

/-! ### Pending settings (R9) -/

theorem Slot.applyPending_eq (x : Slot) :
    x.applyPending = { x with settings := x.applyPending.settings, pendingSettings := none } := by
  unfold Slot.applyPending
  cases hp : x.pendingSettings with
  | none =>
    dsimp only
    rw [← hp]
  | some p => rfl

/-- Applying the pending record writes the values that it holds (R9). -/
theorem Slot.applyPending_value (x : Slot) {n : Nat} (hn : n < 16) :
    x.applyPending.settings.value n =
      if n = 0 ∨ n = 9 ∨ n = 11 then (x.pendingSettings.bind (·.value n)).getD (x.settings.value n)
      else x.settings.value n := by
  unfold Slot.applyPending
  cases hp : x.pendingSettings with
  | none => exact (ite_self _).symm
  | some p =>
    obtain ⟨profile, transpose, center⟩ := p
    interval_cases n
    any_goals rfl
    · cases profile <;> rfl
    · cases center <;> rfl

/-! ### Unbinding and binding (R11, R12) -/

/-- The context of an unbound slot (R12). -/
theorem Slot.unbound_eq (x : Slot) (live : Option BankIx) :
    { x.unbound with bank := switchedBank live x.unbound } =
      ({ settings := x.applyPending.settings } : Slot) := rfl

/-- The full effect of an unbind (R12). -/
theorem State.unbind_eq (s : State) (i : SlotIx) :
    s.unbind i =
      State.drain ((State.releaseLayers .flush (s.slot i).layers s).setSlot i
        { settings := (s.slot i).applyPending.settings }) := by
  unfold State.unbind State.modSlot
  dsimp only
  rw [State.switchBank_setSlot, Slot.unbound_eq]
  simp

/-- A bound slot takes its tag (R11). -/
theorem State.bind_eq (s : State) (i : SlotIx) (t : Half) :
    s.bind i t =
      (let u := if (s.slot i).phase = .unbound then s else s.unbind i
      State.drain (u.setSlot i { (u.slot i).bound t with bank := u.store.liveBank.or (u.slot i).bank })) := by
  unfold State.bind State.modSlot
  dsimp only
  rw [State.switchBank_setSlot]
  rfl

theorem State.bind_up (s : State) (i : SlotIx) (t : Half) : (s.bind i t).collector.up = s.collector.up := by simp

theorem State.tagInUse_iff (s : State) (i : SlotIx) (t : Half) :
    s.tagInUse i t = true ↔ ∃ j : SlotIx, j ≠ i ∧ (s.slot j).phase ≠ .unbound ∧ (s.slot j).tag = some t := by
  simp [State.tagInUse, and_assoc]

/-- Settles O15: the checks of R10 in order, then R11's effect; and the drain test bank by bank. -/
theorem bindSlotBinds : Obligations.BindSlotBinds := by
  unfold Obligations.BindSlotBinds
  refine ⟨fun id b t1 t0 s h => ⟨fun hb => submit_refused h fun t => ?above, fun i hb =>
    ⟨fun htag => submit_refused h fun t => ?tag, fun hzero hones => ⟨fun hheld => ?held, fun hfree => ?free⟩⟩⟩,
    fun s => ⟨s.drain_eq, fun b => ?drain⟩⟩
  case above =>
    show cmdBindSlot ⟨id, 0x10#8, [b, t1, t0]⟩ t = _
    simp only [cmdBindSlot, readSlotIx_of_above hb]
  case tag =>
    show cmdBindSlot ⟨id, 0x10#8, [b, t1, t0]⟩ t = _
    simp only [cmdBindSlot, readSlotIx_of_toNat hb]
    exact if_pos htag
  case held =>
    have hcmd : carryOut ⟨id, 0x10#8, [b, t1, t0]⟩ s.busy = s.busy.reply ⟨id, 0x10#8, [b, t1, t0]⟩ .inUse [] := by
      show cmdBindSlot ⟨id, 0x10#8, [b, t1, t0]⟩ s.busy = _
      simp only [cmdBindSlot, readSlotIx_of_toNat hb]
      rw [if_neg (not_or.mpr ⟨hzero, hones⟩)]
      exact if_pos ((State.tagInUse_iff s.busy i _).mpr hheld)
    exact submit_answers h rfl hcmd
  case free =>
    have hcmd : carryOut ⟨id, 0x10#8, [b, t1, t0]⟩ s.busy =
        (s.bind i (half t1 t0)).busy.reply ⟨id, 0x10#8, [b, t1, t0]⟩ .ok [] := by
      show cmdBindSlot ⟨id, 0x10#8, [b, t1, t0]⟩ s.busy = _
      simp only [cmdBindSlot, readSlotIx_of_toNat hb]
      rw [if_neg (not_or.mpr ⟨hzero, hones⟩), if_neg, State.busy_bind]
      rintro hheld
      obtain ⟨j, hj, hbound, htag⟩ := (State.tagInUse_iff s.busy i _).mp hheld
      exact hfree j hj hbound htag
    have hanswer := submit_answers h (s.bind_up i (half t1 t0)) hcmd
    rw [State.bind_eq, State.unbind_eq] at hanswer
    exact hanswer
  case drain =>
    exact (s.bank_drain b).trans (if_congr (and_congr_right' (s.bankUsed_iff b)) rfl rfl)

/-- Settles O16: R12's effect, and the values the pending record holds. -/
theorem unbindSlotReleases : Obligations.UnbindSlotReleases := by
  unfold Obligations.UnbindSlotReleases
  refine ⟨fun id b s h => ⟨fun hb => submit_refused h fun t => ?above, fun i hb => ⟨fun hp => ?unbound, fun hp => ?bound⟩⟩,
    fun x => ⟨fun n hn => x.applyPending_value hn, x.applyPending_eq⟩⟩
  case above =>
    show cmdUnbindSlot ⟨id, 0x11#8, [b]⟩ t = _
    simp only [cmdUnbindSlot, readSlotIx_of_above hb]
  case unbound =>
    have hcmd : carryOut ⟨id, 0x11#8, [b]⟩ s.busy = s.busy.reply ⟨id, 0x11#8, [b]⟩ .ok [] := by
      show cmdUnbindSlot ⟨id, 0x11#8, [b]⟩ s.busy = _
      simp only [cmdUnbindSlot, readSlotIx_of_toNat hb]
      rw [if_pos (by simpa using hp)]
    exact submit_answers h rfl hcmd
  case bound =>
    have hcmd : carryOut ⟨id, 0x11#8, [b]⟩ s.busy = (s.unbind i).busy.reply ⟨id, 0x11#8, [b]⟩ .ok [] := by
      show cmdUnbindSlot ⟨id, 0x11#8, [b]⟩ s.busy = _
      simp only [cmdUnbindSlot, readSlotIx_of_toNat hb]
      rw [if_neg (by simpa using hp), State.busy_unbind]
    have hanswer := submit_answers h (by simp) hcmd
    rw [State.unbind_eq] at hanswer
    exact hanswer

/-! ### One setting (R6, R7) -/

/-- A setting holds what was put there, where that lies in its range. -/
theorem Settings.value_put_same (st : Settings) {n : Nat} (hn : n < 16) {v : Int} (h1 : (settingRange n).1 ≤ v)
    (h2 : v ≤ (settingRange n).2) : (st.put n v).value n = v := by
  interval_cases n <;> simp only [settingRange] at h1 h2 <;> simp only [Settings.put, Settings.value]
  any_goals omega
  -- What is left are the settings of two bits: profile, curve and priority.
  all_goals
    show ((v.toNat % 4 : Nat) : Int) = v
    omega

/-- The other settings stay when one is put. -/
theorem Settings.value_put_ne (st : Settings) {m n : Nat} (v : Int) (hm : m < 16) (hn : n < 16) (hne : n ≠ m) :
    (st.put m v).value n = st.value n := by
  interval_cases m <;> interval_cases n <;> first | exact absurd rfl hne | rfl

theorem isDeferred_iff (n : Nat) : isDeferred n = true ↔ n = 0 ∨ n = 9 ∨ n = 11 := by
  simp [isDeferred, or_assoc]

/-- The pending record holds what was put there (R8). -/
theorem PendingSettings.value_put_same (p : PendingSettings) {n : Nat} (hn : isDeferred n = true) {v : Int}
    (h1 : (settingRange n).1 ≤ v) (h2 : v ≤ (settingRange n).2) : (p.put n v).value n = some v := by
  obtain rfl | rfl | rfl := (isDeferred_iff n).mp hn
  · simp only [settingRange] at h1 h2
    have hv : ((v.toNat % 4 : Nat) : Int) = v := by omega
    exact congrArg some hv
  · rfl
  · simp only [settingRange] at h1 h2
    exact congrArg some (Int.toNat_of_nonneg h1)

theorem PendingSettings.value_put_ne (p : PendingSettings) {m n : Nat} (v : Int) (hm : isDeferred m = true)
    (hn : isDeferred n = true) (hne : n ≠ m) : (p.put m v).value n = p.value n := by
  obtain rfl | rfl | rfl := (isDeferred_iff m).mp hm <;> obtain rfl | rfl | rfl := (isDeferred_iff n).mp hn <;>
    first | exact absurd rfl hne | rfl

/-- An absent record holds nothing. -/
theorem PendingSettings.value_getD (o : Option PendingSettings) (n : Nat) :
    (o.getD {}).value n = o.bind (·.value n) := by
  cases o with
  | none => unfold PendingSettings.value; split <;> rfl
  | some p => rfl

/-! ### All the settings that a mask names (R7, R8) -/

section

variable (mask : Nat → Bool) (bs : List Byte)

/-- The value that a request writes for setting n (R7). -/
def writtenSetting (n : Nat) : Int := clampedSetting n (namedValue n (maskedValue mask bs n))

/-- A slot after the settings below k have been written: each goes where R8 says, and nothing else moves. -/
structure Slot.WroteBelow (x y : Slot) (k : Nat) : Prop where
  rest : y = { x with settings := y.settings, pendingSettings := y.pendingSettings }
  current : ∀ n < 16, y.settings.value n =
    if n < k ∧ mask n = true ∧ ¬(isDeferred n = true ∧ x.phase = .sounding) then writtenSetting mask bs n
    else x.settings.value n
  pending : ∀ n, isDeferred n = true → y.pendingSettings.bind (·.value n) =
    if n < k ∧ mask n = true ∧ x.phase = .sounding then some (writtenSetting mask bs n)
    else x.pendingSettings.bind (·.value n)

theorem Slot.WroteBelow.phase {x y : Slot} {k : Nat} (h : x.WroteBelow mask bs y k) : y.phase = x.phase := by
  rw [h.rest]

/-- One more setting is written (R8). -/
theorem Slot.WroteBelow.succ {x y : Slot} {k : Nat} (hk : k < 16) (h : x.WroteBelow mask bs y k)
    (hmask : mask k = true) : x.WroteBelow mask bs (y.writeSetting k (writtenSetting mask bs k)) (k + 1) := by
  obtain ⟨h1, h2⟩ : (settingRange k).1 ≤ writtenSetting mask bs k ∧ writtenSetting mask bs k ≤ (settingRange k).2 :=
    clampedSetting_mem k (namedValue k (maskedValue mask bs k))
  unfold Slot.writeSetting
  rw [h.phase]
  by_cases hd : isDeferred k = true ∧ x.phase = .sounding
  · rw [if_pos hd]
    refine ⟨by rw [h.rest], fun n hn => (h.current n hn).trans (if_congr ?_ rfl rfl), fun n hn => ?_⟩
    · rw [Nat.lt_succ_iff_lt_or_eq, or_and_right]
      refine (or_iff_left ?_).symm
      rintro ⟨rfl, -, hnot⟩
      exact hnot hd
    · simp only [Option.bind_some]
      by_cases hnk : n = k
      · subst hnk
        rw [PendingSettings.value_put_same _ hn h1 h2, if_pos ⟨Nat.lt_succ_self n, hmask, hd.2⟩]
      · rw [PendingSettings.value_put_ne _ _ hd.1 hn hnk, PendingSettings.value_getD, h.pending n hn]
        exact if_congr (and_congr_left' (by omega)) rfl rfl
  · rw [if_neg hd]
    refine ⟨by rw [h.rest], fun n hn => ?_, fun n hn => (h.pending n hn).trans (if_congr ?_ rfl rfl)⟩
    · dsimp only
      by_cases hnk : n = k
      · subst hnk
        rw [Settings.value_put_same _ hn h1 h2, if_pos ⟨Nat.lt_succ_self n, hmask, hd⟩]
      · rw [Settings.value_put_ne _ _ hk hn hnk, h.current n hn]
        exact if_congr (and_congr_left' (by omega)) rfl rfl
    · rw [Nat.lt_succ_iff_lt_or_eq, or_and_right]
      refine (or_iff_left ?_).symm
      rintro ⟨rfl, -, hsounding⟩
      exact hd ⟨hn, hsounding⟩

/-- The settings named are written in bit order (R7). -/
theorem Slot.wroteBelow_writeSettings (x : Slot) {k : Nat} (hk : k ≤ 16) :
    x.WroteBelow mask bs (x.writeSettings (maskedPairs mask k bs)) k := by
  induction k with
  | zero => exact ⟨rfl, fun n _ => by simp [Slot.writeSettings, maskedPairs], fun n _ => by simp [Slot.writeSettings, maskedPairs]⟩
  | succ k ih =>
    have ih := ih (by omega)
    rw [maskedPairs_succ, Slot.writeSettings, List.foldl_append]
    cases hmask : mask k with
    | true => exact ih.succ mask bs hk hmask
    | false =>
      have hne (n : Nat) (h : mask n = true) : n ≠ k := by
        rintro rfl
        rw [hmask] at h
        cases h
      refine ⟨ih.rest, fun n hn => (ih.current n hn).trans (if_congr ?_ rfl rfl),
        fun n hn => (ih.pending n hn).trans (if_congr ?_ rfl rfl)⟩
      · exact ⟨fun ⟨h1, h2, h3⟩ => ⟨by omega, h2, h3⟩, fun ⟨h1, h2, h3⟩ => ⟨by have := hne n h2; omega, h2, h3⟩⟩
      · exact ⟨fun ⟨h1, h2, h3⟩ => ⟨by omega, h2, h3⟩, fun ⟨h1, h2, h3⟩ => ⟨by have := hne n h2; omega, h2, h3⟩⟩

theorem namesSetting_iff {n : Nat} (hn : n < 16) : namesSetting (maskedPairs mask 16 bs) n = true ↔ mask n = true := by
  rw [namesSetting, any_maskedPairs_iff]
  refine ⟨?_, fun h => ⟨n, hn, h, beq_self_eq_true n⟩⟩
  rintro ⟨m, -, hm, heq⟩
  obtain rfl : m = n := eq_of_beq heq
  exact hm

end

/-- The last check of R7: the off threshold, and whether it was brought down. -/
theorem Slot.fitThreshold_spec (x : Slot) (vs : List (Nat × Half)) (hon : 1 ≤ x.settings.onThreshold) :
    x.fitThreshold vs = { x with settings := (x.fitThreshold vs).settings } ∧
      (∀ n < 16, n ≠ 5 → (x.fitThreshold vs).settings.value n = x.settings.value n) ∧
      (x.fitThreshold vs).settings.value 5 =
        (if (namesSetting vs 4 = true ∨ namesSetting vs 5 = true) ∧ x.settings.value 4 ≤ x.settings.value 5 then
          x.settings.value 4 - 1
        else x.settings.value 5) ∧
      (x.fitThreshold vs ≠ x ↔ (x.fitThreshold vs).settings.value 5 ≠ x.settings.value 5) := by
  have hcond : (namesSetting vs 4 || namesSetting vs 5) = true ∧ x.settings.onThreshold ≤ x.settings.offThreshold ↔
      (namesSetting vs 4 = true ∨ namesSetting vs 5 = true) ∧ x.settings.value 4 ≤ x.settings.value 5 := by
    rw [Bool.or_eq_true]
    exact and_congr_right' Int.ofNat_le.symm
  unfold Slot.fitThreshold
  split
  next h =>
    have hput : ({ x.settings with offThreshold := x.settings.onThreshold - 1 } : Settings) =
        x.settings.put 5 (x.settings.value 4 - 1) := by
      have hone : x.settings.onThreshold - 1 = ((x.settings.onThreshold : Int) - 1).toNat := by omega
      rw [hone]
      rfl
    have hfive : (x.settings.put 5 (x.settings.value 4 - 1)).value 5 = x.settings.value 4 - 1 := by
      show (((x.settings.onThreshold : Int) - 1).toNat : Int) = (x.settings.onThreshold : Int) - 1
      omega
    have hlower : x.settings.value 4 - 1 ≠ x.settings.value 5 := by
      have hle : (x.settings.onThreshold : Int) ≤ x.settings.offThreshold := (hcond.mp h).2
      show (x.settings.onThreshold : Int) - 1 ≠ x.settings.offThreshold
      omega
    rw [hput]
    refine ⟨rfl, fun n hn hne => Settings.value_put_ne _ _ (by decide) hn hne, ?_, ?_⟩
    · rw [if_pos (hcond.mp h)]
      exact hfive
    · refine iff_of_true (fun heq => hlower ?_) (by rw [hfive]; exact hlower)
      rw [← hfive]
      exact congrArg (fun y : Slot => y.settings.value 5) heq
  next h => exact ⟨rfl, fun n _ _ => rfl, (if_neg (mt hcond.mpr h)).symm, iff_of_false (not_not_intro rfl) (not_not_intro rfl)⟩

/-- Transpose and tune are signed (R188). -/
theorem namedValue_eq (n : Nat) (h : Half) :
    namedValue n h = if (n = 9 ∨ n = 10) ∧ 32768 ≤ h.toNat then (h.toNat : Int) - 65536 else h.toNat := by
  unfold namedValue
  by_cases hn : n = 9 ∨ n = 10
  · rw [if_pos hn, BitVec.toInt_eq_toNat_cond]
    by_cases hh : 32768 ≤ h.toNat
    · rw [if_neg (by omega), if_pos ⟨hn, hh⟩]
      norm_num
    · rw [if_pos (by omega), if_neg (by tauto)]
  · rw [if_neg hn, if_neg (by tauto)]

/-- The value written is the one named, brought within the range of R6. -/
theorem clampedSetting_eq (n : Nat) (v : Int) :
    clampedSetting n v = max (settingRange n).1 (min (settingRange n).2 v) := by
  have hrange : (settingRange n).1 ≤ (settingRange n).2 := by
    unfold settingRange
    split <;> decide
  unfold clampedSetting clamp
  split
  · omega
  · split <;> omega

theorem settingRange_eq {n : Nat} (hn : n < 16) :
    settingRange n =
      (([0, 0, 0, 0, 1, 0, 0, 1, 0, -24, -64, 0, 0, 0, 1, 5] : List Int).getD n 0,
        ([3, 3, 4095, 1023, 4095, 4094, 255, 8, 3, 24, 63, 7, 1023, 768, 16383, 1000] : List Int).getD n 0) := by
  interval_cases n <;> rfl

/-- Whether a write of settings answers CLAMPED (R7). -/
theorem Slot.settingsClamped_iff (x : Slot) (mask : Nat → Bool) (bs : List Byte) :
    x.settingsClamped (maskedPairs mask 16 bs) = true ↔
      (∃ n < 16, mask n = true ∧ writtenSetting mask bs n ≠ namedValue n (maskedValue mask bs n)) ∨
        x.applySettings (maskedPairs mask 16 bs) ≠ x.writeSettings (maskedPairs mask 16 bs) := by
  rw [Slot.settingsClamped, Bool.or_eq_true, any_maskedPairs_iff, bne_iff_ne]
  simp only [bne_iff_ne]
  rfl

/-- Settles O17: the settings are written by their numbers, then the off threshold is fitted. -/
theorem setSlotWritesSettings : Obligations.SetSlotWritesSettings := by
  unfold Obligations.SetSlotWritesSettings
  intro id b m1 m0 vs s h
  refine ⟨fun hb => submit_refused h fun t => ?above, ?_⟩
  case above =>
    show cmdSetSlot ⟨id, 0x12#8, b :: m1 :: m0 :: vs⟩ t = _
    unfold cmdSetSlot
    simp only [readSlotIx_of_above hb]
  intro i hb hlen hon old named value lowest highest written deferred
  have hvalue (n : Nat) : namedValue n (maskedValue named vs n) = value n := namedValue_eq n _
  have hwritten (n : Nat) (hn : n < 16) : writtenSetting named vs n = written n := by
    rw [writtenSetting, hvalue, clampedSetting_eq, settingRange_eq hn]
  have hdeferred (n : Nat) : (isDeferred n = true ∧ (s.slot i).phase = .sounding) ↔ deferred n :=
    and_congr_left' (isDeferred_iff n)
  set x := s.slot i with hx
  set ps := maskedPairs named 16 vs with hps
  set y := x.writeSettings ps with hy
  have hw : x.WroteBelow named vs y 16 := x.wroteBelow_writeSettings named vs le_rfl
  have hcurrent (n : Nat) (hn : n < 16) :
      y.settings.value n = if named n = true ∧ ¬deferred n then written n else old.value n := by
    rw [hw.current n hn, ← hwritten n hn]
    exact if_congr (by rw [← hdeferred]; tauto) rfl rfl
  have hpending (n : Nat) (hn : n = 0 ∨ n = 9 ∨ n = 11) : y.pendingSettings.bind (·.value n) =
      if named n = true ∧ deferred n then some (written n) else x.pendingSettings.bind (·.value n) := by
    have hd := (isDeferred_iff n).mpr hn
    have hn16 : n < 16 := by omega
    rw [hw.pending n hd, ← hwritten n hn16]
    exact if_congr (by rw [← hdeferred]; tauto) rfl rfl
  have hoff : y.settings.value 5 = if named 5 then written 5 else old.value 5 := by
    rw [hcurrent 5 (by decide)]
    exact if_congr (and_iff_left (by simp [deferred])) rfl rfl
  have hon4 : 1 ≤ y.settings.onThreshold := by
    have hle : (1 : Int) ≤ y.settings.value 4 := by
      rw [hcurrent 4 (by decide)]
      split
      · exact le_max_left _ _
      · exact Int.ofNat_le.mpr hon
    exact Int.ofNat_le.mp hle
  obtain ⟨hrest, hother, hfive, hdiffers⟩ := y.fitThreshold_spec ps hon4
  have hnames : namesSetting ps 4 = true ∨ namesSetting ps 5 = true ↔ named 4 = true ∨ named 5 = true :=
    or_congr (namesSetting_iff named vs (by decide)) (namesSetting_iff named vs (by decide))
  have hcmd : carryOut ⟨id, 0x12#8, b :: m1 :: m0 :: vs⟩ s.busy =
      (s.setSlot i (x.applySettings ps)).busy.reply ⟨id, 0x12#8, b :: m1 :: m0 :: vs⟩
        (if x.settingsClamped ps then .clamped else .ok) [] := by
    show cmdSetSlot ⟨id, 0x12#8, b :: m1 :: m0 :: vs⟩ s.busy = _
    unfold cmdSetSlot
    simp only [readSlotIx_of_toNat hb, readMasked_of_fits hlen]
    rfl
  have hanswer := submit_answers h (t := s.setSlot i (x.applySettings ps)) rfl hcmd
  have hslot : x.applySettings ps =
      { x with settings := (x.applySettings ps).settings, pendingSettings := y.pendingSettings } := by
    calc x.applySettings ps = { y with settings := (x.applySettings ps).settings } := hrest
      _ = _ := by rw [hw.rest]
  rw [hslot] at hanswer
  refine ⟨(x.applySettings ps).settings, y.pendingSettings, _, hanswer,
    fun n hn hne => (hother n hn hne).trans (hcurrent n hn), ?off, hpending, ite_eq_or_eq _ _ _, ?status⟩
  case off =>
    have hfour : (x.applySettings ps).settings.value 4 = y.settings.value 4 := hother 4 (by decide) (by decide)
    rw [← hoff, hfour]
    exact hfive.trans (if_congr (and_congr_left' hnames) rfl rfl)
  case status =>
    have hstatus : Status.clamped ≠ .ok := by decide
    rw [hstatus.ite_eq_left_iff, Slot.settingsClamped_iff, ← hoff]
    refine or_congr (exists_congr fun n => and_congr_right fun hn => and_congr_right' ?_) hdiffers
    rw [hwritten n hn, hvalue]

end Sys2Proof.Machine

/-! ABORT_WORK, PANIC and RESTART (R94, R121, R154, R171, R172): what a sweep over the slots does to slots and banks. -/

namespace Sys2Proof.Machine

open Sys2Proof

/-! ### Sweeps over the slots -/

/-- The drain has been tested (R148): a DRAINING bank is in use. -/
def State.DrainTested (s : State) : Prop := ∀ b : BankIx, (s.bank b).state = .draining → s.bankUsed b = true

theorem State.drain_tested (s : State) : s.drain.DrainTested := by
  intro b hb
  have hused : s.drain.bankUsed b = s.bankUsed b := by simp [State.bankUsed]
  rw [hused]
  by_contra hnot
  rw [Bool.not_eq_true] at hnot
  rw [State.bank_drain] at hb
  by_cases hd : (s.bank b).state = .draining
  · rw [if_pos ⟨hd, hnot⟩] at hb
    cases hb
  · rw [if_neg fun h => hd h.1] at hb
    exact hd hb

theorem State.BankLaws.drainTested {s : State} (h : s.BankLaws) : s.DrainTested := by
  obtain ⟨-, -, hdraining, -⟩ := h
  intro b hb
  obtain ⟨-, i, -, hi⟩ := hdraining b hb
  by_contra hnot
  rw [Bool.not_eq_true, State.bankUsed_iff] at hnot
  exact hnot i hi

/-- What a sweep over the slots leaves and what it may do to a bank: a DRAINING one may become STAGED (R148). -/
structure State.Sweeps (s t : State) : Prop where
  ports : s.SamePorts t
  pool : t.pool = s.pool
  work : t.store.work = s.store.work
  copied : t.store.copied = s.store.copied
  live : t.store.liveBank = s.store.liveBank
  banks : ∀ d, t.bank d = s.bank d ∨ ((s.bank d).state = .draining ∧ t.bank d = { s.bank d with state := .staged })
  tested : s.DrainTested → t.DrainTested

namespace State.Sweeps

variable {s t u : State}

theorem refl (s : State) : s.Sweeps s := ⟨⟨rfl, rfl, rfl, rfl, rfl⟩, rfl, rfl, rfl, rfl, fun _ => .inl rfl, id⟩

theorem trans (h : s.Sweeps t) (k : t.Sweeps u) : s.Sweeps u := by
  obtain ⟨⟨n1, c1, p1, r1, x1⟩, pool1, work1, copied1, live1, banks1, tested1⟩ := h
  obtain ⟨⟨n2, c2, p2, r2, x2⟩, pool2, work2, copied2, live2, banks2, tested2⟩ := k
  refine ⟨⟨n2.trans n1, c2.trans c1, p2.trans p1, r2.trans r1, x2.trans x1⟩, pool2.trans pool1, work2.trans work1,
    copied2.trans copied1, live2.trans live1, fun d => ?_, tested2 ∘ tested1⟩
  rcases banks2 d with h2 | ⟨h2, h3⟩ <;> rcases banks1 d with h4 | ⟨h4, h5⟩
  · exact .inl (h2.trans h4)
  · exact .inr ⟨h4, h2.trans h5⟩
  · exact .inr ⟨h4 ▸ h2, by rw [h3, h4]⟩
  · rw [h5] at h2
    cases h2

/-- One slot is changed and the switching rule applied to it (R147, R148). -/
theorem switched (s : State) (i : SlotIx) (f : Slot → Slot) : s.Sweeps ((s.modSlot i f).switchBank i) := by
  have hports (x : State) : s.SamePorts x → s.SamePorts x.drain := fun hx =>
    let hd := x.drain_samePorts
    ⟨hd.notices.trans hx.notices, hd.collector.trans hx.collector, hd.port.trans hx.port,
      hd.responder.trans hx.responder, hd.receivers.trans hx.receivers⟩
  refine ⟨hports _ ⟨rfl, rfl, rfl, rfl, rfl⟩, by simp, by simp [State.switchBank], by simp [State.switchBank], by simp,
    fun d => ?_, fun _ => State.drain_tested _⟩
  unfold State.switchBank
  rw [State.bank_drain]
  split
  next h => exact .inr ⟨by simpa using h.1, by simp⟩
  · exact .inl (by simp)

theorem foldl {f : State → SlotIx → State} (h : ∀ (s : State) i, s.Sweeps (f s i)) (s : State) (is : List SlotIx) :
    s.Sweeps (is.foldl f s) := by
  induction is generalizing s with
  | nil => exact refl s
  | cons i is ih => exact (h s i).trans (ih _)

/-- A bank that is not DRAINING is as it was. -/
theorem bank_eq (h : s.Sweeps t) {d : BankIx} (hd : (s.bank d).state ≠ .draining) : t.bank d = s.bank d :=
  (h.banks d).resolve_right fun k => hd k.1

/-- A DRAINING bank that no slot reads after the sweep is STAGED with its contents (R148). -/
theorem bank_of_unread (h : s.Sweeps t) (htested : s.DrainTested) {d : BankIx} (hd : (s.bank d).state = .draining)
    (hunread : ∀ i : SlotIx, (t.slot i).bank ≠ some d) : t.bank d = { s.bank d with state := .staged } := by
  refine ((h.banks d).resolve_left fun k => ?_).2
  have hused := h.tested htested d (k ▸ hd)
  rw [(t.bankUsed_iff d).mpr hunread] at hused
  cases hused

end State.Sweeps

/-- What a sweep makes of each slot, when each step changes its own slot by the LIVE bank alone. -/
theorem State.slot_foldl_sweep {f : State → SlotIx → State} {g : Option BankIx → Slot → Slot}
    (hsweep : ∀ (s : State) i, s.Sweeps (f s i))
    (hslot : ∀ (s : State) i j, (f s i).slot j = if i = j then g s.store.liveBank (s.slot j) else s.slot j)
    (s : State) {is : List SlotIx} (hnodup : is.Nodup) (j : SlotIx) :
    (is.foldl f s).slot j = if j ∈ is then g s.store.liveBank (s.slot j) else s.slot j := by
  induction is generalizing s with
  | nil => simp
  | cons i is ih =>
    obtain ⟨hi, hnodup⟩ := List.nodup_cons.mp hnodup
    rw [List.foldl_cons, ih _ hnodup, (hsweep s i).live, hslot]
    by_cases hij : i = j
    · subst hij
      simp [hi]
    · simp [hij, Ne.symm hij]

/-! ### The voice flush (R94, R121) -/

/-- A slot after a voice flush (R94, R147). -/
def Slot.afterFlush (live : Option BankIx) (x : Slot) : Slot :=
  match x.phase with
  | .sounding => { x.applyPending with phase := .quiet, rearm := true, layers := [], bank := live.or x.bank }
  | .stalled => { x with phase := .quiet, rearm := true, bank := live.or x.bank }
  | _ => x

/-- Pending settings are applied alike whatever the phase, the layers and rearm (R9). -/
theorem Slot.applyPending_quiet (x : Slot) :
    Slot.applyPending { x with layers := [], phase := .quiet, rearm := true } =
      { x.applyPending with layers := [], phase := .quiet, rearm := true } := by
  unfold Slot.applyPending
  dsimp only
  cases hp : x.pendingSettings with
  | none =>
    dsimp only
    rw [hp]
  | some p => rfl

theorem Slot.applyPending_bank (x : Slot) : x.applyPending.bank = x.bank := by rw [Slot.applyPending_eq]

theorem State.flushSlot_sweeps (s : State) (i : SlotIx) : s.Sweeps (s.flushSlot i) := by
  unfold State.flushSlot
  split
  · exact .switched s i _
  · exact .switched s i _
  · exact .refl s

theorem State.slot_flushSlot (s : State) (i j : SlotIx) :
    (s.flushSlot i).slot j = if i = j then (s.slot j).afterFlush s.store.liveBank else s.slot j := by
  unfold State.flushSlot
  by_cases hij : i = j
  · subst hij
    rw [if_pos rfl]
    unfold Slot.afterFlush
    cases hp : (s.slot i).phase with
    | sounding =>
      simp only [State.slot_switchBank, if_true, State.slot_modSlot_same, State.modSlot_store, Slot.flushed, hp,
        Slot.applyPending_quiet, switchedBank, Slot.applyPending_bank]
    | stalled =>
      simp only [State.slot_switchBank, if_true, State.slot_modSlot_same, State.modSlot_store, Slot.flushed, hp]
      rfl
    | _ => rfl
  · rw [if_neg hij]
    split <;> simp [State.slot_switchBank, State.slot_modSlot, hij]

theorem State.voiceFlush_sweeps (s : State) (place : Bool) : (s.flushPool place).Sweeps (s.voiceFlush place) :=
  .foldl State.flushSlot_sweeps _ _

theorem State.slot_voiceFlush (s : State) (place : Bool) (j : SlotIx) :
    (s.voiceFlush place).slot j = (s.slot j).afterFlush s.store.liveBank := by
  refine (State.slot_foldl_sweep State.flushSlot_sweeps State.slot_flushSlot _ (List.nodup_finRange 8) j).trans ?_
  rw [if_pos (List.mem_finRange j)]
  rfl

/-- Every voice takes the flush (R121). -/
theorem State.voice_voiceFlush (s : State) (place : Bool) (v : VoiceIx) :
    (s.voiceFlush place).voice v = (s.voice v).flushed := by
  unfold State.voice
  rw [(s.voiceFlush_sweeps place).pool]
  simp [State.flushPool]

/-- What a flush makes of pool and port (R121), the ALL_STOP placed or owed. -/
structure State.FlushedTo (s t : State) (place : Bool) : Prop where
  voice : ∀ v : VoiceIx, t.voice v =
    { s.voice v with
      phase := .free, owner := none, generation := (s.voice v).generation + 1, dn := .none
      pitchOwed := false, levelOwed := false, releaseTimer := none }
  ageList : t.pool.ageList = []
  releaseList : t.pool.releaseList = []
  rotation : t.pool.rotation = s.pool.rotation
  queue : t.port.queue = if place then [.allStop] else []
  owed : t.port.allStopOwed = !place
  credit : t.port.credit = s.port.credit
  attached : t.port.attached = s.port.attached
  sending : t.port.sending = s.port.sending
  stall : t.StallLaw
  timer : t.port.stallTimer =
    (State.settleStall
      { s with port := { s.port with queue := if place then [.allStop] else [], allStopOwed := !place } }).port.stallTimer

/-- A state with the pool and the port that a flush leaves, from one with the same pool, port and engine settings. -/
theorem State.FlushedTo.of_flushPool {s a t : State} {place : Bool} (hpool : t.pool = (a.flushPool place).pool)
    (hport : t.port = (a.flushPool place).port) (hp : a.pool = s.pool) (hq : a.port = s.port)
    (hr : a.responder.engine = s.responder.engine) : s.FlushedTo t place := by
  have hport' : t.port = (s.flushPool place).port := by
    rw [hport]
    simp only [State.flushPool, State.settleStall, hq, hr]
  refine ⟨fun v => ?_, by rw [hpool]; rfl, by rw [hpool]; rfl, by rw [hpool, ← hp]; rfl,
    by rw [hport']; rfl, by rw [hport']; rfl, by rw [hport']; rfl, by rw [hport']; rfl, by rw [hport']; rfl, ?_,
    by rw [hport']; rfl⟩
  · unfold State.voice
    rw [hpool, ← hp]
    simp [State.flushPool, Voice.flushed]
  · rw [State.StallLaw, hport']
    exact State.settleStall_law _

theorem State.DrainTested.of_same {s t : State} (h : s.DrainTested)
    (hbank : ∀ b, (t.bank b).state = .draining → (s.bank b).state = .draining) (hslot : ∀ i, t.slot i = s.slot i) :
    t.DrainTested := fun b hb => by
  have hused := h b (hbank b hb)
  unfold State.bankUsed at hused ⊢
  simpa only [hslot] using hused

/-- After a flush no slot reads a bank but the LIVE one (R94, R147). -/
theorem State.BankLaws.unread_of_draining {s : State} (h : s.BankLaws) {b : BankIx} (hb : (s.bank b).state = .draining)
    (i : SlotIx) : ((s.slot i).afterFlush s.store.liveBank).bank ≠ some b := by
  obtain ⟨-, -, hdraining, -, hunbound, hbound⟩ := h
  obtain ⟨hlive, -⟩ := hdraining b hb
  obtain ⟨l, hl⟩ := Option.ne_none_iff_exists'.mp hlive
  have hlb : some l ≠ some b := fun heq => by
    have := State.liveBank_state hl
    rw [Option.some.inj heq, hb] at this
    cases this
  unfold Slot.afterFlush
  rw [hl] at hbound ⊢
  cases hp : (s.slot i).phase with
  | unbound =>
    dsimp only
    rw [hunbound i hp]
    exact nofun
  | absent =>
    dsimp only
    rw [hbound i (by simp [hp]) (by simp [hp])]
    exact hlb
  | quiet =>
    dsimp only
    rw [hbound i (by simp [hp]) (by simp [hp])]
    exact hlb
  | stalled => simpa using hlb
  | sounding => simpa using hlb

/-- A flush stages the banks that were DRAINING (R148). -/
theorem State.BankLaws.bank_voiceFlush {s : State} (h : s.BankLaws) {b : BankIx} (hb : (s.bank b).state = .draining)
    (place : Bool) : (s.voiceFlush place).bank b = { s.bank b with state := .staged } :=
  (s.voiceFlush_sweeps place).bank_of_unread (s := s.flushPool place) h.drainTested hb fun i => by
    rw [State.slot_voiceFlush]
    exact h.unread_of_draining hb i

theorem State.bank_voiceFlush_of_ne {s : State} {b : BankIx} (hb : (s.bank b).state ≠ .draining) (place : Bool) :
    (s.voiceFlush place).bank b = s.bank b :=
  (s.voiceFlush_sweeps place).bank_eq (s := s.flushPool place) hb

/-! ### RESTART, slot by slot (R21) -/

/-- A slot after RESTART (R21, R147). -/
def Slot.afterRestart (live : Option BankIx) (x : Slot) : Slot :=
  if x.phase = .unbound then x else { x.restarted with bank := live.or x.bank }

theorem State.restartSlot_sweeps (s : State) (i : SlotIx) : s.Sweeps (s.restartSlot i) := by
  unfold State.restartSlot
  split
  · exact .refl s
  · exact .switched s i _

theorem State.slot_restartSlot (s : State) (i j : SlotIx) :
    (s.restartSlot i).slot j = if i = j then (s.slot j).afterRestart s.store.liveBank else s.slot j := by
  unfold State.restartSlot Slot.afterRestart
  by_cases hij : i = j
  · subst hij
    rw [if_pos rfl]
    split
    · rfl
    · have hbank : (s.slot i).restarted.bank = (s.slot i).bank := by
        unfold Slot.restarted
        rw [Slot.applyPending_eq]
      simp only [State.slot_switchBank, if_true, State.slot_modSlot_same, State.modSlot_store]
      rw [← hbank]
      rfl
  · rw [if_neg hij]
    split
    · rfl
    · simp [State.slot_switchBank, State.slot_modSlot, hij]

/-! ### Long work that is abandoned (R154, R156) -/

/-- The bank of long work is found from the bank states alone. -/
theorem State.workBank_congr {s t : State} (h : ∀ d, (t.bank d).state = (s.bank d).state) :
    t.store.workBank = s.store.workBank := by
  unfold TableStore.workBank
  congr 1
  funext d
  have hd := h d
  simp only [State.bank] at hd
  rw [hd]

/-- With no COPYING bank nothing is copied (R150). -/
theorem State.advanceCopy_of_not_copying {s : State} {b : BankIx} (hb : s.store.workBank = some b)
    (h : (s.bank b).state ≠ .copying) : s.advanceCopy = s := by
  unfold State.advanceCopy
  rw [hb]
  split
  next heq _ =>
    cases heq
    exact if_neg h
  · rfl

/-- A COPYING bank is looked at: it holds a leading part of the LIVE bank (R150, log 5). -/
theorem State.advanceCopy_of_copying {s : State} {b l : BankIx} (hb : s.store.workBank = some b)
    (hc : (s.bank b).state = .copying) (hl : s.store.liveBank = some l) :
    ∃ n, n ≤ 328 ∧ min 328 s.store.copied ≤ n ∧
      s.advanceCopy =
        { s with
          store :=
            { s.store with banks := s.store.banks.set b (copyPart n (s.bank l) (s.bank b)), copied := n }
          freeCount := s.freeCount + 1 } := by
  obtain ⟨-, hadvance, -⟩ := readTableReports
  exact hadvance s b l hb hc hl

theorem State.advanceCopy_state (s : State) (d : BankIx) : (s.advanceCopy.bank d).state = (s.bank d).state := by
  unfold State.advanceCopy
  split
  next b l hb hl =>
    split
    · show ((s.setBank b _).bank d).state = _
      rw [State.bank_setBank]
      split
      next h => rw [← h]; rfl
      · rfl
    · rfl
  · rfl

theorem State.advanceCopy_bank_of_ne {s : State} {d : BankIx} (hd : (s.bank d).state ≠ .copying) :
    s.advanceCopy.bank d = s.bank d := by
  unfold State.advanceCopy
  split
  next b l hb hl =>
    split
    next hc =>
      show (s.setBank b _).bank d = _
      rw [State.bank_setBank, if_neg]
      rintro rfl
      exact hd hc
    · rfl
  · rfl

theorem State.abandonWork_of_work {s : State} {b : BankIx} (hb : s.store.workBank = some b) :
    s.abandonWork = (s.advanceCopy.setBankState b .staged).setWork [] := by
  unfold State.abandonWork
  dsimp only
  rw [(State.workBank_congr s.advanceCopy_state).trans hb]

/-- A bank after long work was abandoned (R154). -/
theorem State.bank_abandonWork (s : State) (d : BankIx) :
    s.abandonWork.bank d =
      if s.store.workBank = some d then { s.advanceCopy.bank d with state := .staged } else s.advanceCopy.bank d := by
  cases hb : s.store.workBank with
  | none =>
    unfold State.abandonWork
    dsimp only
    rw [(State.workBank_congr s.advanceCopy_state).trans hb]
    rfl
  | some b =>
    rw [State.abandonWork_of_work hb]
    show (s.advanceCopy.setBankState b .staged).bank d = _
    rw [State.bank_setBankState]
    by_cases hbd : b = d
    · subst hbd; simp
    · simp [hbd]

/-- A bank that neither copies nor verifies is left by the abandoning of long work (R156). -/
theorem State.bank_abandonWork_of_ne {s : State} {d : BankIx} (hc : (s.bank d).state ≠ .copying)
    (hv : (s.bank d).state ≠ .verifying) : s.abandonWork.bank d = s.bank d := by
  rw [State.bank_abandonWork, if_neg, State.advanceCopy_bank_of_ne hc]
  intro h
  rcases State.workBank_state h with h | h
  · exact hc h
  · exact hv h

theorem State.abandonWork_liveBank (s : State) : s.abandonWork.store.liveBank = s.store.liveBank := by
  refine State.liveBank_congr fun d => ?_
  by_cases hc : (s.bank d).state = .copying ∨ (s.bank d).state = .verifying
  · have hnot : (s.bank d).state ≠ .live := by rcases hc with h | h <;> simp [h]
    refine iff_of_false ?_ hnot
    rw [State.bank_abandonWork]
    split
    · nofun
    · rw [State.advanceCopy_state]
      exact hnot
  · rw [not_or] at hc
    rw [State.bank_abandonWork_of_ne hc.1 hc.2]

/-! ### ABORT_WORK (R154) -/

theorem cmdAbortWork_of_running {r : Request} {s : State} (hargs : r.args = []) {w : Work} {ws : List Work}
    (hw : s.store.work = w :: ws) {b : BankIx} (hb : s.store.workBank = some b) :
    cmdAbortWork r s =
      (s.abandonWork.push (.completion w.id w.kind (some b) (some .aborted))).reply r .ok
        [1#8, BitVec.ofNat 8 ws.length] := by
  unfold cmdAbortWork
  rw [hargs, hw, hb]
  rfl

/-- Settles O28: a running operation's bank as ABORT_WORK leaves it, and the copied part entry by entry. -/
theorem abortWorkStopsLongWork : Obligations.AbortWorkStopsLongWork := by
  unfold Obligations.AbortWorkStopsLongWork
  refine ⟨fun id s h => ⟨fun hw => ?idle, fun w ws b hw _ hb => ⟨fun hv => ?verifying, fun l hc hl => ?copying⟩⟩,
    fun n src dst => ⟨rfl, fun i => by simp [copyPart], fun i => by simp [copyPart], fun i => by simp [copyPart],
      fun i => by simp [copyPart]⟩⟩
  case idle =>
    have hcmd : carryOut ⟨id, 0x24#8, []⟩ s.busy = s.busy.reply ⟨id, 0x24#8, []⟩ .ok [0#8, 0#8] := by
      show cmdAbortWork ⟨id, 0x24#8, []⟩ s.busy = _
      unfold cmdAbortWork
      simp only [State.busy_reads, hw]
      rfl
    exact submit_answers h rfl hcmd
  all_goals
    have hcmd : carryOut ⟨id, 0x24#8, []⟩ s.busy =
        State.reply (s.abandonWork.push (.completion w.id w.kind (some b) (some .aborted))).busy ⟨id, 0x24#8, []⟩ .ok
          [1#8, BitVec.ofNat 8 ws.length] := by
      refine (cmdAbortWork_of_running (r := ⟨id, 0x24#8, []⟩) (s := s.busy) rfl hw hb).trans ?_
      rw [State.busy_abandonWork]
      rfl
    have hanswer := submit_answers h (by simp) hcmd
    rw [State.abandonWork_of_work hb] at hanswer
  case verifying =>
    rw [State.advanceCopy_of_not_copying hb (by simp [hv])] at hanswer
    exact hanswer
  case copying =>
    obtain ⟨n, hn, hmin, hadvance⟩ := State.advanceCopy_of_copying hb hc hl
    refine ⟨n, hn, hmin, hanswer.trans ?_⟩
    have hbank : s.advanceCopy.bank b = copyPart n (s.bank l) (s.bank b) := by
      rw [hadvance]
      simp [State.bank]
    have hstaged : (s.advanceCopy.setBankState b .staged).setWork [] =
        { s with
          store :=
            { s.store with
              banks := s.store.banks.set b { copyPart n (s.bank l) (s.bank b) with state := .staged }
              work := []
              copied := n }
          freeCount := s.freeCount + 1 } := by
      unfold State.setBankState
      rw [hbank, hadvance]
      simp [State.setBank, State.setWork]
    rw [hstaged]

/-! ### PANIC and RESTART (R171, R172) -/

/-- Settles O29: the flush answers OK; pool, port, slots and banks are those of a sweep. -/
theorem panicFlushes : Obligations.PanicFlushes := by
  unfold Obligations.PanicFlushes
  intro id s h
  have hcmd : carryOut ⟨id, 0x31#8, []⟩ s.busy = (s.voiceFlush true).busy.reply ⟨id, 0x31#8, []⟩ .ok [] := by
    rw [← State.busy_voiceFlush]
    rfl
  obtain ⟨⟨hnotices, hcollector, hport, hresponder, hreceivers⟩, hpool, hwork, -, -, -, -⟩ := s.voiceFlush_sweeps true
  have hflush : s.FlushedTo (s.voiceFlush true) true := .of_flushPool hpool hport rfl rfl rfl
  have hslot (i : SlotIx) := s.slot_voiceFlush true i
  have hother (b : BankIx) (hb : (s.bank b).state ≠ .draining) := State.bank_voiceFlush_of_ne hb true
  have hdraining (hlaws : s.BankLaws) (b : BankIx) (hb : (s.bank b).state = .draining) := hlaws.bank_voiceFlush hb true
  have hanswer := submit_answers h (by simp) hcmd
  generalize s.voiceFlush true = u at *
  obtain ⟨hvoice, hage, hrelease, hrotation, hqueue, howed, hcredit, hattached, hsending, hstall, htimer⟩ := hflush
  refine ⟨_, hanswer, hvoice, hage, hrelease, hrotation, hqueue, howed, hcredit, hattached, hsending, hstall, htimer,
    fun i => ⟨fun hp => ?_, fun hp => ?_, fun hs hq => ?_⟩, hother, hdraining, hwork, hnotices, ?_, hreceivers, ?_⟩
  · refine (hslot i).trans ?_
    simp only [Slot.afterFlush, hp]
  · refine (hslot i).trans ?_
    simp only [Slot.afterFlush, hp]
  · refine (hslot i).trans ?_
    unfold Slot.afterFlush
    split
    next hp => exact absurd hp hs
    next hp => exact absurd hp hq
    · rfl
  · show ({ u.responder with waiting := true } : Responder) = _
    rw [hresponder]
    rfl
  · show ({ u.collector with upstream := u.collector.upstream ++ [.immediate id 0x31#8 .ok []] } : CollectorPort) = _
    rw [hcollector]
    rfl

/-- A slot that takes a flush and then RESTART (R21): the values of the third column of R5. -/
theorem Slot.restart_afterFlush {x : Slot} (live : Option BankIx) (hp : x.phase ≠ .unbound) :
    (x.afterFlush live).afterRestart live =
      { tag := x.tag, phase := .absent, absentCause := some .restart, settings := x.applyPending.settings
        bank := live.or x.bank } := by
  have hor (o : Option BankIx) : live.or (live.or o) = live.or o := by cases live <;> rfl
  unfold Slot.afterFlush
  split
  · rw [Slot.afterRestart, if_neg (by simp)]
    simp only [hor]
    rw [Slot.applyPending_eq]
    rfl
  · rw [Slot.afterRestart, if_neg (by simp)]
    simp only [hor]
    unfold Slot.restarted
    rw [Slot.applyPending_eq]
    simp only [Slot.applyPending]
    cases x.pendingSettings <;> rfl
  · rw [Slot.afterRestart, if_neg hp]
    unfold Slot.restarted
    rw [Slot.applyPending_eq]

/-- Settles O30: RESTART is the abandoning of long work, a flush, a sweep over the slots and the clearing of the latches. -/
theorem restartIsWarm : Obligations.RestartIsWarm := by
  unfold Obligations.RestartIsWarm
  intro id s h
  have hcmd : carryOut ⟨id, 0x32#8, []⟩ s.busy = s.warmRestart.busy.reply ⟨id, 0x32#8, []⟩ .ok [] := by
    rw [← State.busy_warmRestart]
    rfl
  have hanswer := submit_answers h (t := s.warmRestart) (by simp) hcmd
  obtain ⟨hnotices, hcollector, hport, hresponder, hreceivers⟩ := s.abandonWork_samePorts
  set a := s.abandonWork with ha
  have hsweep : (a.flushPool true).Sweeps ((List.finRange 8).foldl State.restartSlot (a.voiceFlush true)) :=
    (a.voiceFlush_sweeps true).trans (.foldl State.restartSlot_sweeps _ _)
  have hslot (i : SlotIx) : ((List.finRange 8).foldl State.restartSlot (a.voiceFlush true)).slot i =
      ((s.slot i).afterFlush s.store.liveBank).afterRestart s.store.liveBank := by
    rw [State.slot_foldl_sweep State.restartSlot_sweeps State.slot_restartSlot _ (List.nodup_finRange 8) i,
      if_pos (List.mem_finRange i), State.slot_voiceFlush, (a.voiceFlush_sweeps true).live]
    show ((a.slot i).afterFlush a.store.liveBank).afterRestart a.store.liveBank = _
    rw [ha, s.abandonWork_liveBank]
    simp
  have hwarm : s.warmRestart =
      { (List.finRange 8).foldl State.restartSlot (a.voiceFlush true) with
        notices := ((List.finRange 8).foldl State.restartSlot (a.voiceFlush true)).notices.clearAll } := rfl
  have hawork : a.store.work = [] := by
    rw [ha]
    unfold State.abandonWork
    rfl
  generalize (List.finRange 8).foldl State.restartSlot (a.voiceFlush true) = u at *
  have hbank (b : BankIx) : (s.bank b).state ≠ .copying → (s.bank b).state ≠ .verifying → a.bank b = s.bank b :=
    fun hc hv => State.bank_abandonWork_of_ne hc hv
  have hstate (b : BankIx) : (a.bank b).state = .draining → (s.bank b).state = .draining := by
    intro hb
    rw [ha, State.bank_abandonWork] at hb
    split at hb
    · cases hb
    · rwa [State.advanceCopy_state] at hb
  have hflush : s.FlushedTo u true :=
    .of_flushPool hsweep.pool hsweep.ports.port (by simp [ha]) hport (congrArg Responder.engine hresponder)
  have hunread (hlaws : s.BankLaws) {b : BankIx} (hb : (s.bank b).state = .draining) (i : SlotIx) :
      (u.slot i).bank ≠ some b := by
    have hafter := hlaws.unread_of_draining hb i
    rw [hslot]
    by_cases hp : (s.slot i).phase = .unbound
    · have hsame : (s.slot i).afterFlush s.store.liveBank = s.slot i := by
        unfold Slot.afterFlush
        rw [hp]
      rw [hsame] at hafter ⊢
      unfold Slot.afterRestart
      rwa [if_pos hp]
    · rw [Slot.restart_afterFlush _ hp]
      obtain ⟨l, hl⟩ := Option.ne_none_iff_exists'.mp (hlaws.2.2.1 b hb).1
      rw [hl]
      have hlive := State.liveBank_state hl
      rintro heq
      cases Option.some.inj heq
      rw [hb] at hlive
      cases hlive
  have hdraining (hlaws : s.BankLaws) (b : BankIx) (hb : (s.bank b).state = .draining) :
      u.bank b = { s.bank b with state := .staged } := by
    have hab := hbank b (by simp [hb]) (by simp [hb])
    have htested : (a.flushPool true).DrainTested :=
      hlaws.drainTested.of_same hstate (by simp [ha])
    have := hsweep.bank_of_unread htested (d := b) (hab.symm ▸ hb) (hunread hlaws hb)
    rw [this]
    show ({ a.bank b with state := .staged } : Bank) = _
    rw [hab]
  have hstaged (b : BankIx) (hb : s.store.workBank = some b) :
      u.bank b = { s.advanceCopy.bank b with state := .staged } := by
    have hab : a.bank b = { s.advanceCopy.bank b with state := .staged } := by
      rw [ha, State.bank_abandonWork, if_pos hb]
    have hnot : ((a.flushPool true).bank b).state ≠ .draining := by
      show (a.bank b).state ≠ .draining
      rw [hab]
      nofun
    exact (hsweep.bank_eq hnot).trans hab
  rw [hwarm] at hanswer
  obtain ⟨hvoice, hage, hrelease, hrotation, hqueue, howed, hcredit, hattached, hsending, hstall, htimer⟩ := hflush
  have hn : u.notices = s.notices := hsweep.ports.notices.trans hnotices
  have hkept {α : Type} (f : NoticeUnit → α) (hf : f u.notices.clearAll = f u.notices) :
      f u.notices.clearAll = f s.notices := hf.trans (congrArg f hn)
  refine ⟨_, hanswer, hvoice, hage, hrelease, hrotation, hqueue, howed, hcredit, hattached, hsending, hstall, htimer,
    fun i => ⟨fun hp => ?unbound, fun hp => (hslot i).trans (Slot.restart_afterFlush _ hp)⟩, hsweep.work.trans hawork,
    fun b hb => ?kept, fun b hb => ⟨?state, fun hv => ?verifying, fun l hc hl => ?copying⟩, hdraining, ?latch, ?line,
    rfl, hkept NoticeUnit.timer rfl, hkept NoticeUnit.reportNumber rfl, hkept NoticeUnit.lineEnable rfl,
    hkept NoticeUnit.packetEnable rfl, hkept NoticeUnit.masterEnable rfl, ?responder,
    hsweep.ports.receivers.trans hreceivers, ?collector⟩
  case unbound =>
    refine (hslot i).trans ?_
    have hsame : (s.slot i).afterFlush s.store.liveBank = s.slot i := by
      unfold Slot.afterFlush
      rw [hp]
    rw [hsame, Slot.afterRestart, if_pos hp]
  case kept =>
    have hab : a.bank b = s.bank b := hbank b (by rcases hb with h | h | h <;> simp [h]) (by rcases hb with h | h | h <;> simp [h])
    refine (hsweep.bank_eq (d := b) ?_).trans hab
    show (a.bank b).state ≠ .draining
    rw [hab]
    rcases hb with h | h | h <;> simp [h]
  case state => exact congrArg Bank.state (hstaged b hb)
  case verifying =>
    refine (hstaged b hb).trans ?_
    rw [State.advanceCopy_of_not_copying hb (by simp [hv])]
  case copying =>
    obtain ⟨n, hle, hmin, hadvance⟩ := State.advanceCopy_of_copying hb hc hl
    refine ⟨n, hle, hmin, (hstaged b hb).trans ?_⟩
    have hcopied : s.advanceCopy.bank b = copyPart n (s.bank l) (s.bank b) := by
      rw [hadvance]
      simp [State.bank]
    rw [hcopied]
  case latch =>
    intro l
    show (NoticeUnit.clearAll u.notices).latches[l] = _
    simp [NoticeUnit.clearAll, NoticeUnit.evalLine]
  case line =>
    show (NoticeUnit.clearAll u.notices).lineLow = false
    simp [NoticeUnit.clearAll, NoticeUnit.evalLine, NoticeUnit.line, Latch.isSet]
  case responder =>
    show ({ u.responder with waiting := true } : Responder) = _
    rw [hsweep.ports.responder.trans hresponder]
  case collector =>
    show ({ u.collector with upstream := u.collector.upstream ++ [.immediate id 0x32#8 .ok []] } : CollectorPort) = _
    rw [hsweep.ports.collector.trans hcollector]

end Sys2Proof.Machine

/-! Long work: its requests, its completions and the swap (R149 to R153). -/

namespace Sys2Proof.Machine

open Sys2Proof

/-! ### What a raise reports -/

/-- Every packet of a list is a NOTICE. -/
def AllNotices (ps : List Upstream) : Prop := ∀ p ∈ ps, ∃ n ls cs, p = .notice n ls cs

/-- A raise sets its latch when that is clear, and leaves what each latch holds otherwise (R175). -/
theorem State.raise_first (s : State) (c : Capture) (l : LatchIx) :
    (s.raise c).notices.latches[l].first =
      if c.latch = l then s.notices.latches[l].first.or (some c) else s.notices.latches[l].first := by
  have hstrike : (s.notices.strike c).latches[l].first =
      if c.latch = l then s.notices.latches[l].first.or (some c) else s.notices.latches[l].first := by
    rw [NoticeUnit.latch_strike]
    by_cases hl : c.latch = l
    · rw [if_pos hl, if_pos hl, Latch.isSet]
      cases hf : s.notices.latches[l].first with
      | none => rfl
      | some x => exact hf
    · rw [if_neg hl, if_neg hl]
  rw [← hstrike]
  rcases s.raise_cases c with ⟨-, h⟩ | ⟨-, -, h⟩ | ⟨-, -, h⟩ <;> rw [h]
  show ((s.notices.strike c).report.latches[l]).first = _
  rw [NoticeUnit.latch_report]

/-- The packets a raise adds upstream are NOTICEs (R178). -/
theorem State.raise_collector (s : State) (c : Capture) :
    ∃ ps, AllNotices ps ∧
      (s.raise c).collector = { s.collector with upstream := s.collector.upstream ++ ps } := by
  rcases s.raise_cases c with ⟨-, h⟩ | ⟨-, -, h⟩ | ⟨-, -, h⟩ <;> rw [h]
  · exact ⟨[], nofun, by simp⟩
  · exact ⟨[], nofun, by simp⟩
  · unfold CollectorPort.push
    split
    · refine ⟨[_], fun p hp => ?_, rfl⟩
      obtain rfl := List.mem_singleton.mp hp
      exact ⟨_, _, _, rfl⟩
    · exact ⟨[], nofun, by simp⟩

/-- A raise reads the notice unit and the engine settings alone. -/
theorem State.raise_notices_congr {s t : State} (hn : t.notices = s.notices) (hr : t.responder = s.responder)
    (c : Capture) : (t.raise c).notices = (s.raise c).notices := by
  unfold State.raise
  simp only [hn, hr]
  (repeat' split) <;> rfl

/-- A raise neither reads nor moves the tables (R175). -/
theorem State.raise_withStore (s : State) (x : TableStore) (c : Capture) :
    State.raise { s with store := x } c = { s.raise c with store := x } := by
  unfold State.raise
  dsimp only
  (repeat' split) <;> rfl

/-! ### The start of long work (R149 to R151) -/

theorem TableStore.startOf_none {t : TableStore} (h : t.stagingBank = none) (k : WorkKind) :
    t.startOf k = .fails none .noStaging := by
  unfold TableStore.startOf
  cases k <;> rw [h]

theorem TableStore.startOf_copyLive {t : TableStore} {b : BankIx} (h : t.stagingBank = some b) :
    t.startOf .copyLive = if t.liveBank = none then .fails (some b) .noSource else .running b .copying := by
  unfold TableStore.startOf
  rw [h]
  cases t.liveBank <;> rfl

theorem TableStore.startOf_commit {t : TableStore} {b : BankIx} (h : t.stagingBank = some b) :
    t.startOf .commit = if t.banks[b].state = .empty then .fails none .noStaging else .running b .verifying := by
  unfold TableStore.startOf
  rw [h]

/-- The store while an operation runs on bank b (R149). -/
def TableStore.running (t : TableStore) (ws : List Work) (b : BankIx) (x : BankState) : TableStore :=
  { t with banks := t.banks.set b { t.banks[b] with state := x }, work := ws, copied := 0 }

theorem State.startWork_of_running {s : State} {w : Work} {ws : List Work} {b : BankIx} {x : BankState}
    (h : s.store.startOf w.kind = .running b x) :
    State.startWork (w :: ws) s = { s with store := s.store.running (w :: ws) b x } := by
  unfold State.startWork
  rw [h]
  rfl

theorem State.startWork_of_fails {s : State} {w : Work} {ws : List Work} {b : Option BankIx} {r : FailReason}
    (h : s.store.startOf w.kind = .fails b r) :
    State.startWork (w :: ws) s = State.startWork ws ((s.setWork ws).completeFail w b r) := by
  rw [State.startWork]
  simp only [h]

theorem State.setWork_self {s : State} {ws : List Work} (h : s.store.work = ws) : s.setWork ws = s := by
  subst h
  rfl

theorem State.startWork_nil {s : State} (h : s.store.work = []) : State.startWork [] s = s := State.setWork_self h

/-! ### COPY_LIVE and COMMIT (R149 to R151) -/

/-- A request for long work without arguments: refused, or answered QUEUED and queued (R149). -/
theorem requestWork_ready {s : State} (h : s.Ready) (k : WorkKind) (id code : Byte) :
    requestWork k ⟨id, code, []⟩ s.busy =
      match s.store.workRefusal with
      | some st => s.answered id code st []
      | none => (s.answered id code .queued []).queueWork ⟨k, id⟩ := by
  unfold requestWork
  dsimp only
  rw [show s.busy.store = s.store from rfl]
  cases s.store.workRefusal with
  | some st => exact State.reply_busy h.up _ st []
  | none => exact congrArg (fun t : State => t.queueWork ⟨k, id⟩) (State.reply_busy h.up ⟨id, code, []⟩ .queued [])

theorem TableStore.workRefusal_of_room {t : TableStore} {b : BankIx} (hb : t.stagingBank = some b)
    (h : t.work.length < 2) : t.workRefusal = none := by
  unfold TableStore.workRefusal
  rw [hb, if_neg (by simp), if_neg (by omega)]

/-- A long operation that is asked for with an empty queue and runs (R149). -/
theorem State.queueWork_of_running {s : State} (hw : s.store.work = []) {w : Work} {b : BankIx} {x : BankState}
    (hstart : s.store.startOf w.kind = .running b x) (id code : Byte) :
    (s.answered id code .queued []).queueWork w =
      State.answered { s with store := s.store.running [w] b x } id code .queued [] := by
  have hempty : (s.answered id code .queued []).store.work.isEmpty = true := by simp [State.answered, hw]
  unfold State.queueWork
  rw [if_pos hempty, State.startWork_of_running (by exact hstart)]
  rfl

/-- A long operation that is asked for with an empty queue and fails at its start (R149). -/
theorem State.queueWork_of_fails {s : State} (hw : s.store.work = []) {w : Work} {b : Option BankIx} {r : FailReason}
    (hstart : s.store.startOf w.kind = .fails b r) (id code : Byte) :
    (s.answered id code .queued []).queueWork w =
      State.raise (State.push (s.answered id code .queued []) (.completion w.id w.kind b (some r)))
        (.workFail w.kind r) := by
  have hwork : (s.answered id code .queued []).store.work = [] := hw
  unfold State.queueWork
  rw [if_pos (by simp [hwork]), State.startWork_of_fails (by exact hstart), State.setWork_self hwork,
    State.startWork_nil (by simp [hwork])]
  rfl

/-- Settles O24: the refusals, the queue's length, and the start by the banks' states. -/
theorem longWorkIsQueued : Obligations.LongWorkIsQueued := by
  unfold Obligations.LongWorkIsQueued
  intro id s h
  have hcopy : exec (.copyLive id []) s = .next (requestWork .copyLive ⟨id, 0x22#8, []⟩ s.busy) :=
    congrArg Host.Outcome.next (submit_busy h ⟨id, 0x22#8, []⟩)
  have hcommit : exec (.commit id []) s = .next (requestWork .commit ⟨id, 0x23#8, []⟩ s.busy) :=
    congrArg Host.Outcome.next (submit_busy h ⟨id, 0x23#8, []⟩)
  rw [requestWork_ready h] at hcopy hcommit
  refine ⟨fun hnone => ?_, fun b hb => ⟨fun htwo => ?_, fun hone => ?_, fun hw hlive => ?_, fun hw hlive => ?_,
    fun hw hstate => ?_, fun hw hstate => ?_⟩⟩
  · have hrefusal : s.store.workRefusal = some .bankBusy := by simp [TableStore.workRefusal, hnone]
    rw [hrefusal] at hcopy hcommit
    exact ⟨hcopy, hcommit⟩
  · have hrefusal : s.store.workRefusal = some .busy := by simp [TableStore.workRefusal, hb, htwo]
    rw [hrefusal] at hcopy hcommit
    exact ⟨hcopy, hcommit⟩
  · rw [TableStore.workRefusal_of_room hb (by omega)] at hcopy hcommit
    have hqueue (w : Work) (code : Byte) : (s.answered id code .queued []).queueWork w =
        (s.setWork (s.store.work ++ [w])).answered id code .queued [] := by
      unfold State.queueWork
      rw [if_neg]
      · rfl
      · show ¬s.store.work.isEmpty = true
        rw [List.isEmpty_iff]
        rintro hempty
        simp [hempty] at hone
    exact ⟨hcopy.trans (congrArg _ (hqueue _ _)), hcommit.trans (congrArg _ (hqueue _ _))⟩
  · rw [TableStore.workRefusal_of_room hb (by simp [hw])] at hcopy
    have hstart : s.store.startOf .copyLive = .running b .copying := by
      rw [TableStore.startOf_copyLive hb, if_neg hlive]
    exact hcopy.trans (congrArg _ (State.queueWork_of_running hw (w := ⟨.copyLive, id⟩) hstart id 0x22#8))
  · rw [TableStore.workRefusal_of_room hb (by simp [hw])] at hcopy
    have hstart : s.store.startOf .copyLive = .fails (some b) .noSource := by
      rw [TableStore.startOf_copyLive hb, if_pos hlive]
    exact hcopy.trans (congrArg _ (State.queueWork_of_fails hw (w := ⟨.copyLive, id⟩) hstart id 0x22#8))
  · rw [TableStore.workRefusal_of_room hb (by simp [hw])] at hcommit
    have hstart : s.store.startOf .commit = .running b .verifying := by
      rw [TableStore.startOf_commit hb]
      exact if_neg hstate
    exact hcommit.trans (congrArg _ (State.queueWork_of_running hw (w := ⟨.commit, id⟩) hstart id 0x23#8))
  · rw [TableStore.workRefusal_of_room hb (by simp [hw])] at hcommit
    have hstart : s.store.startOf .commit = .fails none .noStaging := by
      rw [TableStore.startOf_commit hb]
      exact if_pos hstate
    exact hcommit.trans (congrArg _ (State.queueWork_of_fails hw (w := ⟨.commit, id⟩) hstart id 0x23#8))

/-! ### Completion (R153) -/

/-- What a completion leaves besides tables and slots, with its reply and its latch (R153, log 14). -/
structure State.Completes (s t : State) (reply : Upstream) (c : Capture) (ps : List Upstream) : Prop where
  notices : t.notices = (s.raise c).notices
  upstream : s.collector.up = true → t.collector.upstream = s.collector.upstream ++ reply :: ps
  packets : AllNotices ps
  up : t.collector.up = s.collector.up
  pool : t.pool = s.pool
  port : t.port = s.port
  responder : t.responder = s.responder
  receivers : t.receivers = s.receivers
  freeCount : t.freeCount = s.freeCount

/-- A reply and an event on the same state but for its tables and slots. -/
theorem State.completes_raise {s a : State} (reply : Upstream) (c : Capture) (hn : a.notices = s.notices)
    (hc : a.collector = s.collector) (hpool : a.pool = s.pool) (hport : a.port = s.port)
    (hr : a.responder = s.responder) (hreceivers : a.receivers = s.receivers) (hf : a.freeCount = s.freeCount) :
    ∃ ps, s.Completes ((a.push reply).raise c) reply c ps := by
  obtain ⟨ps, hps, hcollector⟩ := (a.push reply).raise_collector c
  refine ⟨ps, State.raise_notices_congr (s := s) (t := a.push reply) hn hr c, fun hup => ?_, hps, ?_, ?_, ?_, ?_, ?_, ?_⟩
  · rw [hcollector]
    simp [State.push, CollectorPort.push, hc, hup]
  · simp [hc]
  · simp [hpool]
  · simp [hport]
  · simp [hr]
  · simp [hreceivers]
  · simp [hf]

/-- The store may move as it will. -/
theorem State.Completes.withStore {s t : State} {reply : Upstream} {c : Capture} {ps : List Upstream}
    (h : s.Completes t reply c ps) (x : TableStore) : s.Completes { t with store := x } reply c ps :=
  ⟨h.notices, h.upstream, h.packets, h.up, h.pool, h.port, h.responder, h.receivers, h.freeCount⟩

/-- Every entry of a bank is copied (R150). -/
theorem copyPart_all (src dst : Bank) : copyPart bankEntries src dst = { src with state := dst.state } := by
  have hentries : bankEntries = 328 := rfl
  have hprofiles : (Vector.ofFn fun i : Fin 4 => if i.val < bankEntries then src.profiles[i] else dst.profiles[i]) =
      src.profiles := by
    apply Vector.ext
    intro k hk
    simp [show k < bankEntries by omega]
  have hcurves : (Vector.ofFn fun i : Fin 4 => if 4 + i.val < bankEntries then src.curves[i] else dst.curves[i]) =
      src.curves := by
    apply Vector.ext
    intro k hk
    simp [show 4 + k < bankEntries by omega]
  have hvoicings : (Vector.ofFn fun i : Fin 64 =>
      if 8 + i.val < bankEntries then src.voicings[i] else dst.voicings[i]) = src.voicings := by
    apply Vector.ext
    intro k hk
    simp [show 8 + k < bankEntries by omega]
  have hfingerings : (Vector.ofFn fun i : Fin 256 =>
      if 72 + i.val < bankEntries then src.fingerings[i] else dst.fingerings[i]) = src.fingerings := by
    apply Vector.ext
    intro k hk
    simp [show 72 + k < bankEntries by omega]
  unfold copyPart
  rw [hprofiles, hcurves, hvoicings, hfingerings]

/-- The staging bank beside a LIVE one is the other bank, where that is not DRAINING (R144). -/
theorem State.stagingBank_of_live {s : State} {b l : BankIx} (hl : s.store.liveBank = some l) (hbl : b ≠ l)
    (hlive : (s.bank b).state ≠ .live) (hdraining : (s.bank b).state ≠ .draining) : s.store.stagingBank = some b := by
  have hlst := State.liveBank_state hl
  have hb : ((s.bank b).state != .live && (s.bank b).state != .draining) = true := by
    simpa using And.intro hlive hdraining
  have hlb : ((s.bank l).state != .live && (s.bank l).state != .draining) = false := by
    rw [hlst]
    rfl
  unfold TableStore.stagingBank
  rw [hl, if_neg (by simp), show List.finRange 2 = [0, 1] by decide]
  show ([0, 1] : List BankIx).find? (fun x => (s.bank x).state != .live && (s.bank x).state != .draining) = some b
  rcases bankIx_cases b with rfl | rfl <;> rcases bankIx_cases l with rfl | rfl
  · exact absurd rfl hbl
  · exact List.find?_cons_of_pos hb
  · rw [List.find?_cons_of_neg (by rw [hlb]; decide)]
    exact List.find?_cons_of_pos hb
  · exact absurd rfl hbl

/-- A DRAINING bank beside a LIVE one leaves no staging bank (R144). -/
theorem State.stagingBank_of_draining {s : State} {d l : BankIx} (hl : s.store.liveBank = some l) (hdl : d ≠ l)
    (hd : (s.bank d).state = .draining) : s.store.stagingBank = none := by
  have hlst := State.liveBank_state hl
  unfold TableStore.stagingBank
  rw [hl, if_neg (by simp), List.find?_eq_none]
  intro x _
  show ¬((s.bank x).state != .live && (s.bank x).state != .draining) = true
  have hx : x = l ∨ x = d := by
    rcases bankIx_cases x with rfl | rfl <;> rcases bankIx_cases d with rfl | rfl <;>
      rcases bankIx_cases l with rfl | rfl <;> simp_all
  rcases hx with rfl | rfl
  · rw [hlst]
    decide
  · rw [hd]
    decide

/-- The bank that a copy fills, as it stands once the copy is complete. -/
def State.filled (s : State) (b l : BankIx) : State := s.setBank b { s.bank l with state := .staged }

theorem State.copyCompletes_eq {s : State} {w : Work} {ws : List Work} {b l : BankIx} (hw : s.store.work = w :: ws)
    (hk : w.kind = .copyLive) (hb : s.store.workBank = some b) (hl : s.store.liveBank = some l) :
    s.copyCompletes = State.startWork ws (((s.filled b l).setWork ws).completeOk w b) := by
  unfold State.copyCompletes
  simp only [hw, hb, hl, hk, if_true]
  rw [copyPart_all]
  rfl

/-- The state of a filled bank by what waits behind the copy (R149, R150). -/
def filledState : List Work → BankState
  | [] => .staged
  | w :: _ =>
    match w.kind with
    | .copyLive => .copying
    | .commit => .verifying

/-- The operation that waits behind a copy runs on the bank that was filled (R149). -/
theorem State.startWork_filled {s t : State} {b l : BankIx} (hbl : b ≠ l) (hb : t.bank b = { s.bank l with state := .staged })
    (hl : t.store.liveBank = some l) {ws : List Work} (hw : t.store.work = ws) :
    ∃ x, State.startWork ws t = { t with store := x } ∧ x.work = ws ∧
      x.banks[b] = { s.bank l with state := filledState ws } ∧ x.banks[l] = t.bank l := by
  cases ws with
  | nil => exact ⟨t.store, State.startWork_nil hw, hw, hb, rfl⟩
  | cons w' ws' =>
    have hstaging : t.store.stagingBank = some b :=
      State.stagingBank_of_live hl hbl (by simp [hb]) (by simp [hb])
    have hstart : t.store.startOf w'.kind = .running b (filledState (w' :: ws')) := by
      obtain ⟨kind, id⟩ := w'
      cases kind with
      | copyLive =>
        rw [TableStore.startOf_copyLive hstaging, hl, if_neg (by simp)]
        rfl
      | commit =>
        rw [TableStore.startOf_commit hstaging, if_neg]
        · rfl
        · show ¬(t.bank b).state = .empty
          simp [hb]
    refine ⟨_, State.startWork_of_running hstart, rfl, ?_, ?_⟩
    · show (t.setBank b { t.bank b with state := filledState (w' :: ws') }).bank b = _
      rw [State.bank_setBank_same, hb]
    · show (t.setBank b { t.bank b with state := filledState (w' :: ws') }).bank l = _
      rw [State.bank_setBank, if_neg hbl]

/-- Settles O25: the bank is filled, the completion reported, and the waiting operation taken up. -/
theorem copyCompletionFillsBank : Obligations.CopyCompletionFillsBank := by
  unfold Obligations.CopyCompletionFillsBank
  intro s w ws b l hw hk hb hl
  have hbl : b ≠ l := by
    rintro rfl
    have hlive := State.liveBank_state hl
    rcases State.workBank_state hb with h | h <;> simp [h] at hlive
  obtain ⟨ps, hcompletes⟩ := State.completes_raise (s := s) (a := (s.filled b l).setWork ws)
    (.completion w.id w.kind (some b) none) (.workDone w.kind b) rfl rfl rfl rfl rfl rfl rfl
  set done := ((s.filled b l).setWork ws).completeOk w b with hdone
  have hfilled (d : BankIx) : done.bank d = (s.filled b l).bank d := by simp [hdone]
  have hlive : done.store.liveBank = some l := by
    rw [← hl]
    refine State.liveBank_congr fun d => ?_
    rw [hfilled, State.filled, State.bank_setBank]
    split
    next h =>
      subst h
      refine iff_of_false nofun ?_
      rcases State.workBank_state hb with h | h <;> simp [h]
    · rfl
  obtain ⟨x, hx, hwork, hxb, hxl⟩ := State.startWork_filled (s := s) hbl
    (by rw [hfilled, State.filled, State.bank_setBank_same]) hlive (ws := ws) (by simp [hdone])
  obtain ⟨hnotices, hupstream, hps, hup, hpool, hport, hresponder, hreceivers, hfree⟩ :=
    State.Completes.withStore (t := done) hcompletes x
  rw [hk] at hnotices hupstream
  have hfirst (k : LatchIx) := s.raise_first (.workDone .copyLive b) k
  rw [← hnotices] at hfirst
  obtain ⟨-, hline, hpacket, hmaster⟩ := s.raise_leaves (.workDone .copyLive b)
  rw [← hnotices] at hline hpacket hmaster
  refine ⟨_, ps, congrArg Host.Outcome.next ((State.copyCompletes_eq hw hk hb hl).trans hx),
    ?_, ?_, hwork, hupstream,
    hps, ?_, fun hclear => ?_, fun k hk14 => ?_, hline, hpacket, hmaster, hnotices, ?_, hpool, hport, hresponder,
    hreceivers, hup, hfree⟩
  · refine hxb.trans ?_
    cases ws <;> rfl
  · refine hxl.trans ?_
    rw [hfilled, State.filled, State.bank_setBank, if_neg hbl]
  · refine (congrArg Option.isSome ((hfirst 14).trans (if_pos rfl))).trans ?_
    cases s.notices.latches[(14 : LatchIx)].first <;> rfl
  · refine ((hfirst 14).trans (if_pos rfl)).trans ?_
    rw [show s.notices.latches[(14 : LatchIx)].first = none from hclear]
    rfl
  · exact (hfirst k).trans (if_neg (Ne.symm hk14))
  · show done.slots = s.slots
    rw [hdone]
    simp [State.filled]

end Sys2Proof.Machine

/-! The completion of a verification: its verdict, and the swap (R147, R148, R151 to R153). -/

namespace Sys2Proof.Machine

open Sys2Proof

/-! ### The verdict (R151) -/

/-- The first index with a property. -/
theorem find?_finRange_of_first {n : Nat} {p : Fin n → Bool} {i : Fin n} (hi : p i = true)
    (hlower : ∀ j < i, p j = false) : (List.finRange n).find? p = some i := by
  rw [List.find?_eq_some_iff_getElem]
  refine ⟨hi, i.val, by simp, by simp, fun j hj => ?_⟩
  rw [List.getElem_finRange, hlower _ (by simpa [Fin.lt_def] using hj)]
  rfl

theorem Bank.dangling_iff (b : Bank) (i : EntryIx) :
    b.dangling i = true ↔ b.fingerings[i].valid = true ∧ b.voicings[b.fingerings[i].voicing].layers = [] := by
  simp [Bank.dangling]

theorem Bank.verdict_of_dangling {b : Bank} {i : EntryIx} (hvalid : b.fingerings[i].valid = true)
    (hempty : b.voicings[b.fingerings[i].voicing].layers = [])
    (hlower : ∀ j : EntryIx, j < i → b.fingerings[j].valid = true →
      b.voicings[b.fingerings[j].voicing].layers ≠ []) : b.verdict = some (.danglingVoicing i) := by
  unfold Bank.verdict
  rw [find?_finRange_of_first ((b.dangling_iff i).mpr ⟨hvalid, hempty⟩) fun j hj => ?_]
  rw [← Bool.not_eq_true, Bank.dangling_iff]
  exact fun h => hlower j hj h.1 h.2

theorem Bank.find_dangling_none {b : Bank}
    (h : ∀ i : EntryIx, b.fingerings[i].valid = true → b.voicings[b.fingerings[i].voicing].layers ≠ []) :
    (List.finRange 256).find? b.dangling = none := by
  rw [List.find?_eq_none]
  intro i _
  rw [Bank.dangling_iff]
  exact fun hd => h i hd.1 hd.2

theorem Bank.verdict_of_empty {b : Bank} (h : ∀ i : EntryIx, b.fingerings[i].valid = false) :
    b.verdict = some .emptyFingering := by
  have hnone : ((List.finRange 256).any fun i => b.fingerings[i].valid) = false := by
    rw [List.any_eq_false]
    exact fun i _ => by rw [h i]; decide
  unfold Bank.verdict
  rw [Bank.find_dangling_none (fun i hi => absurd hi (by rw [h i]; decide)), hnone]
  rfl

theorem Bank.verdict_of_sound {b : Bank} (hsome : ∃ i : EntryIx, b.fingerings[i].valid = true)
    (h : ∀ i : EntryIx, b.fingerings[i].valid = true → b.voicings[b.fingerings[i].voicing].layers ≠ []) :
    b.verdict = none := by
  have hany : ((List.finRange 256).any fun i => b.fingerings[i].valid) = true := by
    obtain ⟨i, hi⟩ := hsome
    exact List.any_eq_true.mpr ⟨i, List.mem_finRange i, hi⟩
  unfold Bank.verdict
  rw [Bank.find_dangling_none h, hany]
  rfl

theorem State.verificationCompletes_eq {s : State} {w : Work} {ws : List Work} {b : BankIx}
    (hw : s.store.work = w :: ws) (hk : w.kind = .commit) (hb : s.store.workBank = some b) :
    s.verificationCompletes =
      match (s.bank b).verdict with
      | some r => State.startWork ws (((s.setWork ws).setBankState b .staged).completeFail w (some b) r)
      | none => State.startWork ws (((s.setWork ws).swap b).completeOk w b) := by
  unfold State.verificationCompletes
  simp only [hw, hb, hk, if_true] <;> cases (s.bank b).verdict <;> rfl

/-! ### A verification that fails (R151) -/

/-- The staging bank is found from which banks are LIVE and which DRAINING (R144). -/
theorem State.stagingBank_congr {s t : State} (hl : ∀ d, (t.bank d).state = .live ↔ (s.bank d).state = .live)
    (hd : ∀ d, (t.bank d).state = .draining ↔ (s.bank d).state = .draining) :
    t.store.stagingBank = s.store.stagingBank := by
  unfold TableStore.stagingBank
  rw [State.liveBank_congr hl]
  congr 2
  funext d
  have h1 := hl d
  have h2 := hd d
  simp only [State.bank] at h1 h2
  rw [Bool.eq_iff_iff]
  simp only [Bool.and_eq_true, bne_iff_ne, ne_eq]
  rw [h1, h2]

/-- A failed completion on a bank that becomes STAGED, with other tables behind it. -/
theorem State.completeFail_withStore (a : State) (x : TableStore) (w : Work) (b : Option BankIx) (r : FailReason) :
    State.completeFail { a with store := x } w b r = { a.completeFail w b r with store := x } :=
  State.raise_withStore (a.push (.completion w.id w.kind b (some r))) x (.workFail w.kind r)

/-- Settles O26: the verdict, the bank's state, and the waiting operation's start on the same bank. -/
theorem failedVerificationStages : Obligations.FailedVerificationStages := by
  unfold Obligations.FailedVerificationStages
  intro s w ws b r hw hk hb hr failed
  have hverdict : (s.bank b).verdict = some r := by
    rcases hr with ⟨i, rfl, hvalid, hempty, hlower⟩ | ⟨rfl, hinvalid⟩
    · exact Bank.verdict_of_dangling hvalid hempty hlower
    · exact Bank.verdict_of_empty hinvalid
  have hexec : exec .verificationCompletion s =
      .next (State.startWork ws (((s.setWork ws).setBankState b .staged).completeFail w (some b) r)) := by
    refine congrArg Host.Outcome.next ((State.verificationCompletes_eq hw hk hb).trans ?_)
    rw [hverdict]
  have hfailed : failed = ((s.setWork []).setBankState b .staged).completeFail w (some b) r := by
    unfold State.completeFail
    rw [hk]
  have hstore : failed.store = ((s.setWork []).setBankState b .staged).store := by simp [hfailed]
  refine ⟨fun hnil => ?_, fun w2 hws hstaging => ?_⟩
  · subst hnil
    rw [hexec, State.startWork_nil (by simp), hfailed]
  subst hws
  have hstaged : ((s.setWork [w2]).setBankState b .staged).completeFail w (some b) r =
      { failed with store := ((s.setWork [w2]).setBankState b .staged).store } := by
    rw [hfailed]
    exact State.completeFail_withStore ((s.setWork []).setBankState b .staged) _ w (some b) r
  have hbanks (d : BankIx) : (((s.setWork [w2]).setBankState b .staged).bank d).state =
      if b = d then .staged else (s.bank d).state := by
    rw [State.bank_setBankState]
    split <;> rfl
  have hwork := State.workBank_state hb
  have hlive (d : BankIx) : (((s.setWork [w2]).setBankState b .staged).bank d).state = .live ↔
      (s.bank d).state = .live := by
    rw [hbanks]
    split
    next h =>
      subst h
      exact iff_of_false nofun (by rcases hwork with h | h <;> simp [h])
    · rfl
  have hdraining (d : BankIx) : (((s.setWork [w2]).setBankState b .staged).bank d).state = .draining ↔
      (s.bank d).state = .draining := by
    rw [hbanks]
    split
    next h =>
      subst h
      exact iff_of_false nofun (by rcases hwork with h | h <;> simp [h])
    · rfl
  have hstaging' : ((s.setWork [w2]).setBankState b .staged).store.stagingBank = some b :=
    (State.stagingBank_congr hlive hdraining).trans hstaging
  have hlive' : ((s.setWork [w2]).setBankState b .staged).store.liveBank = s.store.liveBank :=
    State.liveBank_congr hlive
  have hruns (x : BankState) : ((s.setWork [w2]).setBankState b .staged).store.running [w2] b x =
      { s.store with banks := s.store.banks.set b { s.bank b with state := x }, work := [w2], copied := 0 } := by
    simp [TableStore.running, State.setBankState, State.setBank, State.setWork, State.bank]
  rw [hexec, hstaged]
  refine ⟨fun hk2 => ?_, fun hk2 hl => ?_, fun hk2 hl => ?_⟩
  · rw [State.startWork_of_running (b := b) (x := .verifying), hruns]
    show TableStore.startOf _ w2.kind = _
    rw [hk2, TableStore.startOf_commit hstaging', if_neg]
    show ¬(((s.setWork [w2]).setBankState b .staged).bank b).state = .empty
    simp [hbanks]
  · rw [State.startWork_of_running (b := b) (x := .copying), hruns]
    show TableStore.startOf _ w2.kind = _
    rw [hk2, TableStore.startOf_copyLive hstaging', hlive', if_neg hl]
  · rw [State.startWork_of_fails (b := some b) (r := .noSource)]
    · have hsame : State.setWork { failed with store := ((s.setWork [w2]).setBankState b .staged).store } [] = failed := by
        show ({ failed with store := ((s.setWork []).setBankState b .staged).store } : State) = failed
        rw [← hstore]
      rw [hsame, State.startWork_nil]
      · unfold State.completeFail
        rw [hk2]
      · simp [hstore]
    · show TableStore.startOf _ w2.kind = _
      rw [hk2, TableStore.startOf_copyLive hstaging', hlive', if_pos hl]

/-! ### The swap (R152) -/

theorem State.liveBank_of_only {s : State} {b : BankIx} (hb : (s.bank b).state = .live)
    (hother : ∀ d, d ≠ b → (s.bank d).state ≠ .live) : s.store.liveBank = some b := by
  cases hl : s.store.liveBank with
  | none => exact absurd hb (State.liveBank_eq_none.mp hl b)
  | some l =>
    by_contra hne
    exact hother l (fun h => hne (h ▸ rfl)) (State.liveBank_state hl)

/-- The two banks after steps 1 and 2 of the swap (R152). -/
theorem State.bank_promote {s : State} {b d : BankIx} (hb : (s.bank b).state ≠ .live) (hdb : d ≠ b) :
    (s.promote b).bank b = { s.bank b with state := .live } ∧
      (s.promote b).bank d =
        { s.bank d with state := if s.store.liveBank = some d then .draining else (s.bank d).state } := by
  unfold State.promote
  cases hl : s.store.liveBank with
  | none => simp [State.bank_setBankState, Ne.symm hdb]
  | some l =>
    have hlb : l ≠ b := by
      rintro rfl
      exact hb (State.liveBank_state hl)
    have hld : l = d := by
      rcases bankIx_cases l with rfl | rfl <;> rcases bankIx_cases b with rfl | rfl <;>
        rcases bankIx_cases d with rfl | rfl <;> simp_all
    subst hld
    simp [State.bank_setBankState, Ne.symm hdb, hlb]

theorem State.slot_switchAll (s : State) (i : SlotIx) :
    s.switchAll.slot i = { s.slot i with bank := switchedBank s.store.liveBank (s.slot i) } := by
  simp [State.switchAll, State.slot]

/-- The state of the other bank after a swap (R147, R148, R152). -/
def State.otherState (s : State) (d : BankIx) : BankState :=
  if s.store.liveBank = some d then
    if ∃ i : SlotIx, (s.slot i).phase = .sounding ∧ (s.slot i).bank = some d then .draining else .staged
  else (s.bank d).state

/-- A slot after a swap to bank b (R147). -/
def Slot.afterSwap (b : BankIx) (x : Slot) : Slot :=
  { x with
    bank := match x.phase with
      | .unbound => none
      | .sounding => x.bank
      | _ => some b }

/-- What the swap leaves of banks and slots (R152). -/
theorem State.swap_spec {s : State} {b d : BankIx} (hb : (s.bank b).state ≠ .live) (hdb : d ≠ b)
    (hd : (s.bank d).state ≠ .draining) :
    (s.swap b).bank b = { s.bank b with state := .live } ∧
      (s.swap b).bank d = { s.bank d with state := s.otherState d } ∧ (s.swap b).store.liveBank = some b ∧
      ∀ i : SlotIx, (s.swap b).slot i = (s.slot i).afterSwap b := by
  obtain ⟨hpb, hpd⟩ := State.bank_promote hb hdb
  have honly (x : BankIx) (hx : x ≠ b) : x = d := by
    rcases bankIx_cases x with rfl | rfl <;> rcases bankIx_cases b with rfl | rfl <;>
      rcases bankIx_cases d with rfl | rfl <;> simp_all
  have hlive : (s.promote b).store.liveBank = some b := by
    refine State.liveBank_of_only (by rw [hpb]) fun x hx => ?_
    rw [honly x hx, hpd]
    dsimp only
    split
    · nofun
    next hnot =>
      intro hlive
      cases hl : s.store.liveBank with
      | none => exact State.liveBank_eq_none.mp hl d hlive
      | some l =>
        have hlb : l ≠ b := by
          rintro rfl
          exact hb (State.liveBank_state hl)
        exact hnot (by rw [hl, honly l hlb])
  have hslots (i : SlotIx) : (s.promote b).switchAll.slot i = (s.slot i).afterSwap b := by
    rw [State.slot_switchAll, hlive]
    have hsame : (s.promote b).slot i = s.slot i := by simp
    rw [hsame]
    have hswitched : switchedBank (some b) (s.slot i) = ((s.slot i).afterSwap b).bank := by
      unfold switchedBank Slot.afterSwap
      dsimp only
      cases (s.slot i).phase <;> rfl
    rw [hswitched]
    rfl
  have hused : ((s.promote b).switchAll.bankUsed d = false) ↔
      ¬∃ i : SlotIx, (s.slot i).phase = .sounding ∧ (s.slot i).bank = some d := by
    rw [State.bankUsed_iff]
    simp only [hslots, not_exists, not_and, Slot.afterSwap]
    refine forall_congr' fun i => ?_
    cases (s.slot i).phase <;> simp [Ne.symm hdb]
  unfold State.swap
  refine ⟨?_, ?_, by rw [State.drain_liveBank]; exact hlive, fun i => by simp [hslots]⟩
  · rw [State.bank_drain, if_neg]
    · exact hpb
    · show ¬(((s.promote b).bank b).state = .draining ∧ _)
      simp [hpb]
  · have hbank : (s.promote b).switchAll.bank d = (s.promote b).bank d := rfl
    rw [State.bank_drain]
    unfold State.otherState
    by_cases hl : s.store.liveBank = some d
    · rw [if_pos hl] at hpd ⊢
      by_cases hsounding : ∃ i : SlotIx, (s.slot i).phase = .sounding ∧ (s.slot i).bank = some d
      · rw [if_neg fun h => hused.mp h.2 hsounding, if_pos hsounding]
        exact hpd
      · rw [if_pos ⟨by rw [hbank, hpd], hused.mpr hsounding⟩, if_neg hsounding, hbank, hpd]
    · rw [if_neg hl] at hpd ⊢
      rw [if_neg fun h => hd (by rw [hbank, hpd] at h; exact h.1)]
      exact hpd

theorem State.swap_frame' (s : State) (b : BankIx) :
    (s.swap b).notices = s.notices ∧ (s.swap b).collector = s.collector ∧ (s.swap b).store.work = s.store.work := by
  have hpromote : (s.promote b).notices = s.notices ∧ (s.promote b).collector = s.collector ∧
      (s.promote b).store.work = s.store.work := by
    unfold State.promote
    dsimp only
    split <;> exact ⟨rfl, rfl, rfl⟩
  have hdrain := (s.promote b).switchAll.drain_samePorts
  exact ⟨hdrain.notices.trans hpromote.1, hdrain.collector.trans hpromote.2.1,
    (State.drain_work _).1.trans hpromote.2.2⟩

end Sys2Proof.Machine

/-! A verification that passes: the swap and what it leaves of the waiting operation (R147 to R149, R152, R153). -/

namespace Sys2Proof.Machine

open Sys2Proof

/-- The other bank is not LIVE after a swap (R152). -/
theorem State.otherState_ne_live {s : State} {b d : BankIx} (hb : (s.bank b).state ≠ .live) (hdb : d ≠ b) :
    s.otherState d ≠ .live := by
  unfold State.otherState
  split
  · split <;> nofun
  next hnot =>
    intro hlive
    cases hl : s.store.liveBank with
    | none => exact State.liveBank_eq_none.mp hl d hlive
    | some l =>
      have hlst := State.liveBank_state hl
      have hcases : l = b ∨ l = d := by
        rcases bankIx_cases l with rfl | rfl <;> rcases bankIx_cases b with rfl | rfl <;>
          rcases bankIx_cases d with rfl | rfl <;> simp_all
      rcases hcases with rfl | rfl
      · exact hb hlst
      · exact hnot hl

/-- The state after a passed verification was reported, before a waiting operation starts. -/
structure State.Swapped (s v : State) (w : Work) (ws : List Work) (b d : BankIx) (ps : List Upstream) : Prop where
  completes : s.Completes v (.completion w.id w.kind (some b) none) (.workDone w.kind b) ps
  bank : v.bank b = { s.bank b with state := .live }
  other : v.bank d = { s.bank d with state := s.otherState d }
  live : v.store.liveBank = some b
  work : v.store.work = ws
  slot : ∀ i : SlotIx, v.slot i = (s.slot i).afterSwap b

theorem State.swapped (s : State) (w : Work) (ws : List Work) {b d : BankIx} (hb : (s.bank b).state ≠ .live)
    (hdb : d ≠ b) (hd : (s.bank d).state ≠ .draining) :
    ∃ ps, s.Swapped (((s.setWork ws).swap b).completeOk w b) w ws b d ps := by
  obtain ⟨hbank, hother, hlive, hslot⟩ := State.swap_spec (s := s.setWork ws) hb hdb hd
  obtain ⟨hnotices, hcollector, hwork⟩ := (s.setWork ws).swap_frame' b
  obtain ⟨ps, hcompletes⟩ := State.completes_raise (s := s) (a := (s.setWork ws).swap b)
    (.completion w.id w.kind (some b) none) (.workDone w.kind b) hnotices hcollector (by simp) (by simp) (by simp)
    (by simp) (by simp)
  have hsame : (((s.setWork ws).swap b).completeOk w b).store = ((s.setWork ws).swap b).store := by simp
  exact ⟨ps, hcompletes, (by simp : _ = ((s.setWork ws).swap b).bank b).trans hbank,
    (by simp : _ = ((s.setWork ws).swap b).bank d).trans hother, (congrArg TableStore.liveBank hsame).trans hlive,
    (congrArg TableStore.work hsame).trans hwork, fun i => (by simp : _ = ((s.setWork ws).swap b).slot i).trans (hslot i)⟩

namespace State.Swapped

variable {s v : State} {w : Work} {ws : List Work} {b d : BankIx} {ps : List Upstream}

/-- Which latches hold a capture once WORK_DONE was raised (R175). -/
theorem first (h : s.Swapped v w ws b d ps) (k : LatchIx) :
    v.notices.latches[k].first =
      if 14 = k then s.notices.latches[k].first.or (some (.workDone w.kind b)) else s.notices.latches[k].first := by
  rw [h.completes.notices]
  exact s.raise_first (.workDone w.kind b) k

theorem stagingBank (h : s.Swapped v w ws b d ps) (hb : (s.bank b).state ≠ .live) (hdb : d ≠ b) :
    v.store.stagingBank = if s.otherState d = .draining then none else some d := by
  split
  next hd => exact State.stagingBank_of_draining h.live hdb (by rw [h.other]; exact hd)
  next hd =>
    refine State.stagingBank_of_live h.live hdb ?_ (by rw [h.other]; exact hd)
    rw [h.other]
    exact State.otherState_ne_live hb hdb

/-- A waiting operation fails for want of a staging bank (the table of R152). -/
theorem startOf_fails (h : s.Swapped v w ws b d ps) (hb : (s.bank b).state ≠ .live) (hdb : d ≠ b) {k : WorkKind}
    (hf : s.otherState d = .draining ∨ (k = .commit ∧ s.otherState d = .empty)) :
    v.store.startOf k = .fails none .noStaging := by
  have hstaging := h.stagingBank hb hdb
  by_cases hd : s.otherState d = .draining
  · rw [if_pos hd] at hstaging
    exact TableStore.startOf_none hstaging k
  · obtain ⟨rfl, hempty⟩ := hf.resolve_left hd
    rw [if_neg hd] at hstaging
    rw [TableStore.startOf_commit hstaging, if_pos]
    show (v.bank d).state = .empty
    rw [h.other]
    exact hempty

/-- A waiting operation runs on the other bank (the table of R152). -/
theorem startOf_runs (h : s.Swapped v w ws b d ps) (hb : (s.bank b).state ≠ .live) (hdb : d ≠ b) {w2 : Work}
    (hf : ¬(s.otherState d = .draining ∨ (w2.kind = .commit ∧ s.otherState d = .empty))) :
    v.store.startOf w2.kind = .running d (filledState [w2]) := by
  have hstaging := h.stagingBank hb hdb
  rw [if_neg fun hd => hf (.inl hd)] at hstaging
  obtain ⟨kind, id⟩ := w2
  cases kind with
  | copyLive =>
    rw [TableStore.startOf_copyLive hstaging, h.live, if_neg nofun]
    rfl
  | commit =>
    rw [TableStore.startOf_commit hstaging, if_neg]
    · rfl
    · show ¬(v.bank d).state = .empty
      rw [h.other]
      exact fun hempty => hf (.inr ⟨rfl, hempty⟩)

end State.Swapped

/-- Settles O27: the swap, and the waiting operation by the table of R152. -/
theorem verifiedBankGoesLive : Obligations.VerifiedBankGoesLive := by
  unfold Obligations.VerifiedBankGoesLive
  intro s w ws b d hw hlen hk hb hdb hd hsome hsound other done
  have hnot : (s.bank b).state ≠ .live := by rcases State.workBank_state hb with h | h <;> simp [h]
  have hexec : exec .verificationCompletion s =
      .next (State.startWork ws (((s.setWork ws).swap b).completeOk w b)) := by
    refine congrArg Host.Outcome.next ((State.verificationCompletes_eq hw hk hb).trans ?_)
    rw [Bank.verdict_of_sound hsome hsound]
  obtain ⟨ps, hswapped⟩ := s.swapped w ws hnot hdb hd
  generalize ((s.setWork ws).swap b).completeOk w b = v at hexec hswapped
  obtain ⟨hnotices, hupstream, hps, hup, hpool, hport, hresponder, hreceivers, hfree⟩ := hswapped.completes
  have hfirst := hswapped.first
  rw [hk] at hnotices hupstream hfirst
  obtain ⟨-, hline, hpacket, hmaster⟩ := s.raise_leaves (.workDone .commit b)
  rw [← hnotices] at hline hpacket hmaster
  have hset : v.notices.latches[(14 : LatchIx)].first.isSome = true := by
    rw [hfirst 14, if_pos rfl]
    cases s.notices.latches[(14 : LatchIx)].first <;> rfl
  have hcapture (hclear : s.notices.latches[(14 : LatchIx)].first = none) :
      v.notices.latches[(14 : LatchIx)].first = some (.workDone .commit b) := by
    rw [hfirst 14, if_pos rfl, hclear]
    rfl
  have hothers (k : LatchIx) (hk14 : k ≠ 14) : v.notices.latches[k].first = s.notices.latches[k].first := by
    rw [hfirst k, if_neg (Ne.symm hk14)]
  obtain _ | ⟨w2, _ | ⟨w3, ws⟩⟩ := ws
  · rw [State.startWork_nil hswapped.work] at hexec
    exact ⟨v, ps, hexec, hswapped.bank, hswapped.slot, hps, hset, hcapture, fun k hk14 _ => hothers k hk14, hline, hpacket,
      hmaster, fun _ => ⟨hswapped.other, hswapped.work, hnotices, hupstream⟩, nofun, nofun, hpool, hport, hresponder,
      hreceivers, hup, hfree⟩
  · by_cases hf : s.otherState d = .draining ∨ (w2.kind = .commit ∧ s.otherState d = .empty)
    · rw [State.startWork_of_fails (hswapped.startOf_fails hnot hdb hf), State.startWork_nil (by simp)] at hexec
      have hcompletes2 := State.completes_raise (s := v) (a := v.setWork [])
        (.completion w2.id w2.kind none (some .noStaging)) (.workFail w2.kind .noStaging) rfl rfl rfl rfl rfl rfl rfl
      have hslots2 (i : SlotIx) : ((v.setWork []).completeFail w2 none .noStaging).slot i = v.slot i := by simp
      have hbanks2 (x : BankIx) : ((v.setWork []).completeFail w2 none .noStaging).bank x = v.bank x := by simp
      have hwork2 : ((v.setWork []).completeFail w2 none .noStaging).store.work = [] := by simp
      change ∃ qs, State.Completes v ((v.setWork []).completeFail w2 none .noStaging) _ _ qs at hcompletes2
      generalize (v.setWork []).completeFail w2 none .noStaging = t at *
      obtain ⟨qs, hnotices2, hupstream2, hqs, hup2, hpool2, hport2, hresponder2, hreceivers2, hfree2⟩ := hcompletes2
      have hfirst2 (k : LatchIx) : t.notices.latches[k].first =
          if 15 = k then v.notices.latches[k].first.or (some (.workFail w2.kind .noStaging))
          else v.notices.latches[k].first := by
        rw [hnotices2]
        exact v.raise_first (.workFail w2.kind .noStaging) k
      obtain ⟨-, hline2, hpacket2, hmaster2⟩ := v.raise_leaves (.workFail w2.kind .noStaging)
      rw [← hnotices2] at hline2 hpacket2 hmaster2
      have h14 : t.notices.latches[(14 : LatchIx)].first = v.notices.latches[(14 : LatchIx)].first := by
        rw [hfirst2 14, if_neg (by decide)]
      have h15 : v.notices.latches[(15 : LatchIx)].first = s.notices.latches[(15 : LatchIx)].first :=
        hothers 15 (by decide)
      refine ⟨t, ps, hexec, (hbanks2 b).trans hswapped.bank, fun i => (hslots2 i).trans (hswapped.slot i), hps,
        (congrArg Option.isSome h14).trans hset, fun hclear => h14.trans (hcapture hclear), fun k hk14 hk15 => ?_,
        hline2.trans hline, hpacket2.trans hpacket, hmaster2.trans hmaster, nofun, fun w3 hw3 _ => ?_,
        fun w3 hw3 hnf => ?_, hpool2.trans hpool, hport2.trans hport, hresponder2.trans hresponder,
        hreceivers2.trans hreceivers, hup2.trans hup, hfree2.trans hfree⟩
      · rw [hfirst2 k, if_neg (Ne.symm hk15), hothers k hk14]
      · obtain rfl := (List.cons.inj hw3).1
        refine ⟨(hbanks2 d).trans hswapped.other, hwork2, ?_, fun hclear => ?_, ?_, fun hsup => ⟨qs, hqs, ?_⟩⟩
        · refine (congrArg Option.isSome ((hfirst2 15).trans (if_pos rfl))).trans ?_
          cases v.notices.latches[(15 : LatchIx)].first <;> rfl
        · refine ((hfirst2 15).trans (if_pos rfl)).trans ?_
          rw [h15, show s.notices.latches[(15 : LatchIx)].first = none from hclear]
          rfl
        · rw [hnotices2]
          exact State.raise_notices_congr hnotices (by simp [hresponder]) _
        · rw [hupstream2 (hup.trans hsup), hupstream hsup, List.append_assoc]
          rfl
      · obtain rfl := (List.cons.inj hw3).1
        exact absurd hf hnf
    · rw [State.startWork_of_running (hswapped.startOf_runs hnot hdb hf)] at hexec
      have hrunning (x : BankIx) : (v.store.running [w2] d (filledState [w2])).banks[x] =
          (v.setBank d { v.bank d with state := filledState [w2] }).bank x := rfl
      refine ⟨_, ps, hexec, ?_, hswapped.slot, hps, hset, hcapture, fun k hk14 _ => hothers k hk14, hline, hpacket,
        hmaster, nofun, fun w3 hw3 hf3 => ?_, fun w3 hw3 _ => ?_, hpool, hport, hresponder, hreceivers, hup, hfree⟩
      · refine (hrunning b).trans ?_
        rw [State.bank_setBank, if_neg hdb]
        exact hswapped.bank
      · obtain rfl := (List.cons.inj hw3).1
        exact absurd hf3 hf
      · obtain rfl := (List.cons.inj hw3).1
        refine ⟨(hrunning d).trans ?_, rfl, rfl, hnotices, hupstream⟩
        rw [State.bank_setBank_same, hswapped.other]
        rfl
  · simp at hlen

end Sys2Proof.Machine

/-! The arithmetic of breath and pitch (R1, R40 to R50), and the codec of table entries (R183, R188). -/

namespace Sys2Proof.Machine

open Sys2Proof

/-! ### Breath and pitch -/

theorem clamp_eq {lo hi : Int} (h : lo ≤ hi) (v : Int) : clamp lo hi v = max lo (min hi v) := by
  unfold clamp
  split
  · omega
  · split <;> omega

theorem scaledPressure_eq (st : Settings) (a : Nat) :
    (scaledPressure st a : Int) = min 4095 (max 0 ((a : Int) - st.zero) * st.gain / 256) := by
  have hmax : max 0 ((a : Int) - st.zero) = ((a - st.zero : Nat) : Int) := by omega
  rw [hmax, scaledPressure]
  push_cast
  rfl

/-- The curve stage at the f-th step of the k-th segment (R42). -/
theorem curveValue_segment (pts : Curve) {k f : Nat} (hk : k < 8) (hf : f < 512) :
    (curveValue pts (512 * k + f) : Int) = pts[k] + ((pts[k + 1] : Int) - pts[k]) * f / 512 ∧
      min pts[k] pts[k + 1] ≤ curveValue pts (512 * k + f) ∧
      curveValue pts (512 * k + f) ≤ max pts[k] pts[k + 1] := by
  have hdiv : (512 * k + f) / 512 = k := by omega
  have hmod : (512 * k + f) % 512 = f := by omega
  have hbetween := curveValue_between pts (512 * k + f)
  rw [hdiv, curvePoint_of_lt pts (show k < 9 by omega), curvePoint_of_lt pts (show k + 1 < 9 by omega)] at hbetween
  refine ⟨?_, hbetween⟩
  have hvalue : curveValue pts (512 * k + f) = ((pts[k] : Int) + ((pts[k + 1] : Int) - pts[k]) * f / 512).toNat := by
    simp only [curveValue, hdiv, hmod, curvePoint_of_lt pts (show k < 9 by omega),
      curvePoint_of_lt pts (show k + 1 < 9 by omega)]
  have hlow : -(pts[k] : Int) * 512 ≤ ((pts[k + 1] : Int) - pts[k]) * f := by
    have hup : 0 ≤ (pts[k + 1] : Int) * f := by positivity
    have hdown : (pts[k] : Int) * f ≤ pts[k] * 512 := Int.mul_le_mul_of_nonneg_left (by omega) (by omega)
    rw [Int.sub_mul]
    omega
  rw [hvalue]
  omega

theorem slewed_eq (slew out e : Nat) :
    slewed slew out e =
      if e ≤ out + slew ∧ out ≤ e + slew then e else if out < e then out + slew else out - slew := by
  unfold slewed
  split_ifs <;> omega

theorem onsetVelocityOf_eq (gain q qPrev : Nat) :
    (onsetVelocityOf gain q qPrev : Int) = max 1 (min 127 (((q : Int) - qPrev) * gain / 64)) := by
  rw [onsetVelocityOf, clamp_eq (by decide)]
  omega

/-- Truncation toward zero of a scaled offset, by the sign of the offset. -/
theorem tdiv_offset (x : Int) (r : Nat) :
    Int.tdiv (x * r) 512 =
      if 0 ≤ x then ((x.natAbs * r / 512 : Nat) : Int) else -((x.natAbs * r / 512 : Nat) : Int) := by
  split
  next h =>
    obtain ⟨n, rfl⟩ := Int.eq_ofNat_of_zero_le h
    rw [Int.tdiv_eq_ediv_of_nonneg (by positivity)]
    simp
  next h =>
    obtain ⟨n, hn⟩ := Int.eq_ofNat_of_zero_le (show 0 ≤ -x by omega)
    have hx : x = -(n : Int) := by omega
    subst hx
    rw [Int.neg_mul, Int.neg_tdiv, Int.tdiv_eq_ediv_of_nonneg (by positivity)]
    simp

theorem lipBend_eq (st : Settings) (o : Nat) :
    lipBend st (some o) =
      max (-(st.bendRange : Int)) (min st.bendRange
        (if 0 ≤ (o : Int) - st.lipCenter then (((o : Int) - st.lipCenter).natAbs * st.bendRange / 512 : Nat)
          else -(((o : Int) - st.lipCenter).natAbs * st.bendRange / 512 : Nat))) := by
  rw [lipBend, clamp_eq (by omega), tdiv_offset]

/-- The bend is symmetric about the lip center (R49). -/
theorem lipBend_symm {st : Settings} {d : Nat} (hd : d ≤ st.lipCenter) :
    lipBend st (some (st.lipCenter + d)) = -lipBend st (some (st.lipCenter - d)) := by
  have hup : ((st.lipCenter + d : Nat) : Int) - st.lipCenter = d := by omega
  have hdown : ((st.lipCenter - d : Nat) : Int) - st.lipCenter = -(d : Int) := by omega
  rw [lipBend_eq, lipBend_eq, hup, hdown, if_pos (by omega), Int.natAbs_neg, Int.natAbs_natCast]
  rcases Nat.eq_zero_or_pos d with rfl | hpos
  · simp
  · rw [if_neg (by omega)]
    omega

/-- Settles O51. -/
theorem curveAndBendStayInRange : Obligations.CurveAndBendStayInRange := by
  unfold Obligations.CurveAndBendStayInRange
  refine ⟨fun _ _ v h => clamp_eq h v, scaledPressure_eq, fun pts k f hk hf => ?_,
    fun slew out e trim gain q qPrev => ⟨slewed_eq slew out e, rfl, onsetVelocityOf_eq gain q qPrev⟩,
    fun st o note roller lip cent interval => ⟨Int.mul_comm _ _, rfl, lipBend_eq st o, ?_, fun v => ?_⟩,
    fun st d hd => ⟨lipBend_symm hd, ?_, ?_, rfl⟩⟩
  · obtain ⟨hvalue, hlow, hhigh⟩ := curveValue_segment pts hk hf
    refine ⟨hvalue, hlow, hhigh, fun h0 => ?_⟩
    subst h0
    have : (curveValue pts (512 * k + 0) : Int) = pts[k] := by simpa using hvalue
    exact_mod_cast this
  · unfold pitchValue
    ring
  · rw [pitchCode, clamp_eq (by decide)]
    omega
  · exact (clamp_mem (by omega) _).1
  · exact (clamp_mem (by omega) _).2

/-! ### Bytes read and written back -/

theorem byte1_toNat (b : Byte) : byte1 b.toNat = [b] := byte1_of_toNat_eq rfl

theorem signed1_toInt (b : Byte) : signed1 b.toInt = [b] := by
  rw [signed1, BitVec.ofInt_toInt]

/-- A two-byte value goes most significant byte first (R183). -/
theorem half_toNat (a b : Byte) : (half a b).toNat = 256 * a.toNat + b.toNat := by
  have happend : (half a b).toNat = a.toNat <<< 8 ||| b.toNat := BitVec.toNat_append a b
  rw [happend, Nat.shiftLeft_eq, Nat.mul_comm, ← Nat.two_pow_add_eq_or_of_lt b.isLt]

theorem keySet_toNat (b2 b1 b0 : Byte) :
    (keySet b2 b1 b0).toNat = 65536 * b2.toNat + 256 * b1.toNat + b0.toNat := by
  have happend : (keySet b2 b1 b0).toNat = (half b2 b1).toNat <<< 8 ||| b0.toNat := BitVec.toNat_append _ b0
  rw [happend, Nat.shiftLeft_eq, Nat.mul_comm, ← Nat.two_pow_add_eq_or_of_lt b0.isLt, half_toNat]
  omega

theorem halfBytes_half (a b : Byte) : halfBytes (half a b) = [a, b] := by
  have ha := a.isLt
  have hb := b.isLt
  rw [halfBytes_eq, half_toNat, List.cons.injEq, List.cons.injEq]
  refine ⟨BitVec.eq_of_toNat_eq ?_, BitVec.eq_of_toNat_eq ?_, rfl⟩
  all_goals rw [BitVec.toNat_ofNat]; omega

theorem keySetBytes_keySet (b2 b1 b0 : Byte) : keySetBytes (keySet b2 b1 b0) = [b2, b1, b0] := by
  have h2 := b2.isLt
  have h1 := b1.isLt
  have h0 := b0.isLt
  rw [keySetBytes_eq, keySet_toNat]
  simp only [List.cons_append, List.nil_append, List.cons.injEq, and_true]
  refine ⟨BitVec.eq_of_toNat_eq ?_, BitVec.eq_of_toNat_eq ?_, BitVec.eq_of_toNat_eq ?_⟩
  all_goals rw [BitVec.toNat_ofNat]; omega

/-! ### Table entries, kind by kind (R188) -/

theorem readMapEntry_eq_some {b : Byte} {m : Option (Fin 24)} :
    readMapEntry b = some m ↔ optional1 (m.map (·.val)) = [b] := by
  unfold readMapEntry
  constructor
  · intro h
    split at h
    · cases h
      exact byte1_toNat b
    · split at h
      next hb =>
        cases h
        exact congrArg (fun x => [x]) hb.symm
      · cases h
  · intro h
    cases m with
    | none =>
      have hb : b = 0xFF#8 := (List.cons.inj h).1.symm
      subst hb
      rfl
    | some k =>
      have hb : b = BitVec.ofNat 8 k := (List.cons.inj h).1.symm
      have hk : b.toNat = k := by rw [hb, toNat_byte (by omega)]
      rw [dif_pos (by omega)]
      exact congrArg (fun x => some (some x)) (Fin.ext hk)

theorem mapM_readMapEntry_eq_some {bs : List Byte} {ms : List (Option (Fin 24))} :
    bs.mapM readMapEntry = some ms ↔ bs = ms.flatMap fun m => optional1 (m.map (·.val)) := by
  have hone (m : Option (Fin 24)) : ∃ b, optional1 (m.map (·.val)) = [b] := by cases m <;> exact ⟨_, rfl⟩
  induction bs generalizing ms with
  | nil =>
    cases ms with
    | nil => simp
    | cons m ms =>
      obtain ⟨b, hb⟩ := hone m
      simp [hb]
  | cons b bs ih =>
    simp only [List.mapM_cons, Option.bind_eq_bind, Option.bind_eq_some_iff, Option.pure_def, Option.some.injEq]
    constructor
    · rintro ⟨m, hm, ms', hms, rfl⟩
      rw [List.flatMap_cons, readMapEntry_eq_some.mp hm, ← ih.mp hms]
      rfl
    · intro h
      cases ms with
      | nil => cases h
      | cons m ms =>
        obtain ⟨b', hb'⟩ := hone m
        rw [List.flatMap_cons, hb'] at h
        obtain ⟨rfl, hrest⟩ := List.cons.inj h
        exact ⟨m, readMapEntry_eq_some.mpr hb', ms, ih.mpr hrest, rfl⟩

theorem profileMap_length (p : KeyProfile) :
    (p.map.toList.flatMap fun e => optional1 (e.map (·.val))).length = 24 := by
  rw [List.length_flatMap, List.map_congr_left (g := fun _ => 1) (fun m _ => by cases m <;> rfl)]
  simp

theorem readProfile_eq_some {bs : List Byte} {p : KeyProfile} :
    readProfile bs = some p ↔ bs = (TableEntry.profile p).bytes := by
  unfold readProfile TableEntry.bytes
  constructor
  · intro h
    split at h
    next ms b2 b1 b0 hms htail =>
      split at h
      · cases h
        rw [mapM_readMapEntry_eq_some] at hms
        calc bs = bs.take 24 ++ bs.drop 24 := (List.take_append_drop 24 bs).symm
          _ = _ := by
            rw [htail, ← keySetBytes_keySet, hms]
            rfl
      · cases h
    · cases h
  · intro h
    have hlen := profileMap_length p
    have htake : bs.take 24 = p.map.toList.flatMap fun e => optional1 (e.map (·.val)) := by
      rw [h, List.take_append_of_le_length hlen.ge, List.take_of_length_le hlen.le]
    have hdrop : bs.drop 24 = keySetBytes p.inversion := by
      rw [h, List.drop_append_of_le_length hlen.ge, List.drop_of_length_le hlen.le, List.nil_append]
    rw [mapM_readMapEntry_eq_some.mpr htake, hdrop]
    simp only [keySetBytes, keySet_bytes]
    rw [dif_pos (by simp)]
    rfl

theorem flatMap_halfBytes_halves {n : Nat} {bs : List Byte} (h : bs.length = 2 * n) :
    (halves bs).flatMap halfBytes = bs := by
  induction n generalizing bs with
  | zero =>
    rw [List.eq_nil_of_length_eq_zero h]
    rfl
  | succ n ih =>
    match bs, h with
    | a :: b :: bs, h =>
      rw [halves, List.flatMap_cons, halfBytes_half, ih (by simp only [List.length_cons] at h; omega)]
      rfl

theorem curveBytes_length (pts : Curve) : (TableEntry.curve pts).bytes.length = 18 := by
  have htwo (x : Nat) : (byte2 x).length = 2 := rfl
  simp only [TableEntry.bytes, List.length_flatMap, htwo]
  simp

theorem readCurve_eq_some {bs : List Byte} {pts : Curve} :
    readCurve bs = some pts ↔ bs = (TableEntry.curve pts).bytes ∧ ∀ k : Fin 9, pts[k] ≤ 16383 := by
  constructor
  · intro h
    refine ⟨?_, readCurve_ok h⟩
    unfold readCurve at h
    dsimp only at h
    split at h
    · split at h
      next hr =>
        cases h
        have hbyte (x : Half) : byte2 x.toNat = halfBytes x := by
          rw [byte2, BitVec.ofNat_toNat, BitVec.setWidth_eq]
        show bs = ((halves bs).map BitVec.toNat).flatMap byte2
        rw [List.flatMap_map, List.flatMap_congr (g := halfBytes) fun x _ => hbyte x]
        exact (flatMap_halfBytes_halves (n := 9) hr.1).symm
      · cases h
    · cases h
  · rintro ⟨rfl, hpts⟩
    have hhalves : halves (TableEntry.curve pts).bytes = pts.toList.map (BitVec.ofNat 16) := by
      rw [← halves_halfBytes (pts.toList.map (BitVec.ofNat 16)), List.flatMap_map]
      rfl
    have hbound : ∀ x ∈ pts.toList, x ≤ 16383 := by
      intro x hx
      obtain ⟨k, hk, rfl⟩ := List.getElem_of_mem hx
      exact hpts ⟨k, by simpa using hk⟩
    have hvalues : (halves (TableEntry.curve pts).bytes).map BitVec.toNat = pts.toList := by
      rw [hhalves, List.map_map]
      refine (List.map_congr_left fun x hx => ?_).trans (List.map_id _)
      exact toNat_half ((hbound x hx).trans (by decide))
    have hlen := curveBytes_length pts
    unfold readCurve
    simp only [hvalues]
    rw [dif_pos (by simp), if_pos ⟨hlen, List.all_eq_true.mpr fun x hx => decide_eq_true (hbound x hx)⟩]
    rfl

theorem readFingering_eq_some {bs : List Byte} {f : Fingering} :
    readFingering bs = some f ↔
      ∃ fl : Byte, bs = fl :: (TableEntry.fingering f).bytes.drop 1 ∧ fl.getLsbD 0 = f.valid ∧ f.stored.Ok := by
  constructor
  · intro h
    have hok := readFingering_ok h
    unfold readFingering at h
    split at h
    next fl c2 c1 c0 p2 p1 p0 note cent vc =>
      split at h
      · cases h
        refine ⟨fl, ?_, rfl, hok⟩
        simp only [TableEntry.bytes, keySetBytes_keySet, byte1_toNat, signed1_toInt]
        rfl
      · cases h
    · cases h
  · rintro ⟨fl, rfl, hfl, -, hnote, hlow, hhigh⟩
    have hn : (BitVec.ofNat 8 f.note).toNat = f.note := toNat_byte (hnote.trans (by decide))
    have hc : (BitVec.ofInt 8 f.cent).toInt = f.cent :=
      toInt_byte (le_trans (by decide) hlow) (le_trans hhigh (by decide))
    have hv : (BitVec.ofNat 8 f.voicing.val).toNat = f.voicing.val := toNat_byte (by omega)
    simp only [TableEntry.bytes, keySetBytes, flag1, byte1, signed1, List.cons_append, List.nil_append, List.drop_one,
      List.tail_cons, readFingering, keySet_bytes, hn, hc, hv, hfl]
    rw [dif_pos ⟨hnote, hlow, hhigh, f.voicing.isLt⟩]

/-- The bytes of a layer record (R69, R188). -/
def Layer.bytes (l : Layer) : List Byte :=
  signed1 l.interval ++ byte1 l.program ++ byte1 l.channel ++ byte1 l.trim ++ flag1 l.follow

theorem readLayers_eq_some {n : Nat} {bs : List Byte} {ls : List Layer} {rest : List Byte} :
    readLayers n bs = some (ls, rest) ↔
      ls.length = n ∧ (∀ l ∈ ls, l.Ok) ∧ bs = ls.flatMap Layer.bytes ++ rest := by
  constructor
  · intro h
    obtain ⟨hlen, hok⟩ := readLayers_ok h
    refine ⟨hlen, hok, ?_⟩
    clear hlen hok
    induction n generalizing bs ls rest with
    | zero =>
      cases h
      rfl
    | succ n ih =>
      match bs, h with
      | iv :: pr :: ch :: tr :: fo :: bs, h =>
        unfold readLayers at h
        split at h
        next hr =>
          obtain ⟨⟨ls', rest'⟩, hls, heq⟩ := Option.map_eq_some_iff.mp h
          cases heq
          have hfo : flag1 (fo = 1#8) = [fo] := by
            have hle := hr.2.2.2.2.2
            have hcase : fo = 0#8 ∨ fo = 1#8 := by
              rcases Nat.le_one_iff_eq_zero_or_eq_one.mp hle with h0 | h1
              · exact .inl (BitVec.eq_of_toNat_eq h0)
              · exact .inr (BitVec.eq_of_toNat_eq h1)
            rcases hcase with rfl | rfl <;> rfl
          rw [List.flatMap_cons, Layer.bytes, signed1_toInt, byte1_toNat, byte1_toNat, byte1_toNat, hfo, ih hls]
          rfl
        · cases h
  · rintro ⟨rfl, hok, rfl⟩
    induction ls with
    | nil => rfl
    | cons l ls ih =>
      obtain ⟨⟨hlow, hhigh⟩, hpr, hch, htr⟩ := hok l List.mem_cons_self
      have hiv : (BitVec.ofInt 8 l.interval).toInt = l.interval :=
        toInt_byte (le_trans (by decide) hlow) (le_trans hhigh (by decide))
      have hpr' : (BitVec.ofNat 8 l.program).toNat = l.program := toNat_byte (hpr.trans (by decide))
      have hch' : (BitVec.ofNat 8 l.channel).toNat = l.channel := toNat_byte (hch.trans (by decide))
      have htr' : (BitVec.ofNat 8 l.trim).toNat = l.trim := toNat_byte (htr.trans (by decide))
      have hfo : (if l.follow then 1#8 else 0#8).toNat ≤ 1 ∧
          decide ((if l.follow then 1#8 else 0#8) = 1#8) = l.follow := by
        cases l.follow <;> decide
      rw [List.flatMap_cons, List.length_cons]
      simp only [Layer.bytes, signed1, byte1, flag1, List.cons_append, List.nil_append, readLayers, hiv, hpr', hch',
        htr']
      rw [if_pos ⟨hlow, hhigh, hpr, hch, htr, hfo.1⟩, ih fun m hm => hok m (List.mem_cons_of_mem l hm), hfo.2]
      rfl

theorem readVoicing_eq_some {bs : List Byte} {v : Voicing} {rest : List Byte} :
    readVoicing bs = some (v, rest) ↔ bs = (TableEntry.voicing v).bytes ++ rest ∧ v.Ok := by
  constructor
  · intro h
    refine ⟨?_, readVoicing_ok h⟩
    unfold readVoicing at h
    split at h
    next lc md fv bs =>
      split at h
      next hr =>
        obtain ⟨⟨ls, rest'⟩, hls, heq⟩ := Option.map_eq_some_iff.mp h
        cases heq
        obtain ⟨hlen, -, rfl⟩ := readLayers_eq_some.mp hls
        have hmd : byte1 (if (if md = 0#8 then Mode.legato else .retrigger) = .legato then 0 else 1) = [md] := by
          have hcase : md = 0#8 ∨ md = 1#8 := by
            rcases Nat.le_one_iff_eq_zero_or_eq_one.mp hr.2.1 with h0 | h1
            · exact .inl (BitVec.eq_of_toNat_eq h0)
            · exact .inr (BitVec.eq_of_toNat_eq h1)
          rcases hcase with rfl | rfl <;> rfl
        simp only [TableEntry.bytes, hlen, hmd, byte1_toNat]
        rfl
      · cases h
    · cases h
  · rintro ⟨rfl, ⟨hfv1, hfv2⟩, hlen, hls⟩
    have hlc : (BitVec.ofNat 8 v.layers.length).toNat = v.layers.length := toNat_byte (hlen.trans (by decide))
    have hfv : (BitVec.ofNat 8 v.fixedVelocity).toNat = v.fixedVelocity := toNat_byte (hfv2.trans (by decide))
    have hmd : (BitVec.ofNat 8 (if v.mode = .legato then 0 else 1)).toNat ≤ 1 ∧
        (if BitVec.ofNat 8 (if v.mode = .legato then 0 else 1) = 0#8 then Mode.legato else .retrigger) = v.mode := by
      cases v.mode <;> decide
    have hlayers : readLayers v.layers.length (v.layers.flatMap Layer.bytes ++ rest) = some (v.layers, rest) :=
      readLayers_eq_some.mpr ⟨rfl, hls, rfl⟩
    show readVoicing (BitVec.ofNat 8 v.layers.length :: BitVec.ofNat 8 (if v.mode = .legato then 0 else 1) ::
      BitVec.ofNat 8 v.fixedVelocity :: (v.layers.flatMap Layer.bytes ++ rest)) = _
    simp only [readVoicing, hlc, hfv, hmd.2, hlayers]
    rw [if_pos ⟨hlen, hmd.1, hfv1, hfv2⟩]
    rfl

/-! ### A table entry at the front of the bytes -/

/-- An entry as it is sent, with any flags byte where it is a fingering (R188). -/
def TableEntry.sent (flags : Byte) : TableEntry → List Byte
  | .fingering f => flags :: (TableEntry.fingering f).bytes.drop 1
  | e => e.bytes

/-- A flags byte that tells of a fingering whether it is valid, as bit 0 of it does (R61). -/
def TableEntry.Flagged (flags : Byte) (e : TableEntry) : Prop :=
  ∀ f, e = .fingering f → flags.getLsbD 0 = f.valid

/-- Bytes of a fixed number at the front. -/
theorem take_drop_of_eq_append {n : Nat} {bs xs rest : List Byte} (h : xs.length = n) (hbs : bs = xs ++ rest) :
    bs.take n = xs ∧ bs.drop n = rest := by
  subst hbs
  exact ⟨by rw [List.take_append_of_le_length h.ge, List.take_of_length_le h.le],
    by rw [List.drop_append_of_le_length h.ge, List.drop_of_length_le h.le, List.nil_append]⟩

theorem eq_append_of_take {n : Nat} {bs xs rest : List Byte} (h : bs.take n = xs ∧ bs.drop n = rest) :
    bs = xs ++ rest := by
  rw [← h.1, ← h.2, List.take_append_drop]

theorem readEntry_eq_some {k : TableKind} {bs : List Byte} {e : TableEntry} {rest : List Byte} :
    readEntry k bs = some (e, rest) ↔
      ∃ fl, bs = e.sent fl ++ rest ∧ e.kind = k ∧ e.stored.Storable ∧ e.Flagged fl := by
  constructor
  · intro h
    cases k with
    | profile =>
      obtain ⟨p, hp, heq⟩ := Option.map_eq_some_iff.mp h
      cases heq
      exact ⟨0#8, eq_append_of_take ⟨readProfile_eq_some.mp hp, rfl⟩, rfl, trivial, nofun⟩
    | curve =>
      obtain ⟨pts, hpts, heq⟩ := Option.map_eq_some_iff.mp h
      cases heq
      obtain ⟨htake, hok⟩ := readCurve_eq_some.mp hpts
      exact ⟨0#8, eq_append_of_take ⟨htake, rfl⟩, rfl, hok, nofun⟩
    | fingering =>
      obtain ⟨f, hf, heq⟩ := Option.map_eq_some_iff.mp h
      cases heq
      obtain ⟨fl, htake, hfl, hok⟩ := readFingering_eq_some.mp hf
      exact ⟨fl, eq_append_of_take ⟨htake, rfl⟩, rfl, hok, fun g hg => TableEntry.fingering.inj hg ▸ hfl⟩
    | voicing =>
      obtain ⟨⟨v, rest'⟩, hv, heq⟩ := Option.map_eq_some_iff.mp h
      cases heq
      obtain ⟨hbs, hok⟩ := readVoicing_eq_some.mp hv
      exact ⟨0#8, hbs, rfl, hok, nofun⟩
  · rintro ⟨fl, hbs, rfl, hok, hfl⟩
    cases e with
    | profile p =>
      have hlen : (TableEntry.profile p).bytes.length = 27 := by
        rw [TableEntry.bytes, List.length_append, profileMap_length]
        rfl
      obtain ⟨htake, hdrop⟩ := take_drop_of_eq_append hlen hbs
      show (readProfile (bs.take 27)).map _ = _
      rw [readProfile_eq_some.mpr htake, hdrop]
      rfl
    | curve pts =>
      obtain ⟨htake, hdrop⟩ := take_drop_of_eq_append (curveBytes_length pts) hbs
      show (readCurve (bs.take 18)).map _ = _
      rw [readCurve_eq_some.mpr ⟨htake, hok⟩, hdrop]
      rfl
    | fingering f =>
      have hlen : ((TableEntry.fingering f).sent fl).length = 10 := rfl
      obtain ⟨htake, hdrop⟩ := take_drop_of_eq_append hlen hbs
      show (readFingering (bs.take 10)).map _ = _
      rw [readFingering_eq_some.mpr ⟨fl, htake, hfl f rfl, hok⟩, hdrop]
      rfl
    | voicing v =>
      show (readVoicing bs).map _ = _
      rw [readVoicing_eq_some.mpr ⟨hbs, hok⟩]
      rfl

/-- An entry within its ranges is stored as it is. -/
theorem TableEntry.Storable.stored_eq {e : TableEntry} (h : e.Storable) : e.stored = e := by
  cases e with
  | fingering f => exact congrArg TableEntry.fingering (congrArg (fun p => { f with pattern := p }) h.1)
  | _ => rfl

/-- Settles O55. -/
theorem tableEntriesReadBack : Obligations.TableEntriesReadBack := by
  unfold Obligations.TableEntriesReadBack
  refine ⟨fun e rest he => ?_, fun a b => ⟨half_toNat a b, halfBytes_half a b⟩⟩
  refine readEntry_eq_some.mpr ?_
  cases e with
  | fingering f =>
    refine ⟨if f.valid then 1#8 else 0#8, rfl, rfl, by rwa [he.stored_eq], fun g hg => ?_⟩
    cases hg
    cases f.valid <;> decide
  | _ => exact ⟨0#8, rfl, rfl, he, nofun⟩

end Sys2Proof.Machine

/-! The arguments of WRITE_TABLE, what a write leaves in the bank, and the bank it goes to (R144 to R146, R188). -/

namespace Sys2Proof.Machine

open Sys2Proof

/-! ### Runs of entries (R188) -/

/-- The bytes of a run of entries, each with its flags byte. -/
def sentEntries (efs : List (TableEntry × Byte)) : List Byte := efs.flatMap fun ef => ef.1.sent ef.2

/-- A run of entries of one kind, each within its ranges and with a flags byte that fits it. -/
def EntriesFit (k : TableKind) (efs : List (TableEntry × Byte)) : Prop :=
  ∀ ef ∈ efs, ef.1.kind = k ∧ ef.1.stored.Storable ∧ ef.1.Flagged ef.2

theorem readEntries_eq_some {k : TableKind} {n : Nat} {bs : List Byte} {es : List TableEntry} :
    readEntries k n bs = some es ↔
      es.length = n ∧ ∃ flags : List Byte, flags.length = es.length ∧ bs = sentEntries (es.zip flags) ∧
        EntriesFit k (es.zip flags) := by
  constructor
  · intro h
    induction n generalizing bs es with
    | zero =>
      unfold readEntries at h
      split at h
      next hnil =>
        cases h
        exact ⟨rfl, [], rfl, List.isEmpty_iff.mp hnil, nofun⟩
      · cases h
    | succ n ih =>
      unfold readEntries at h
      split at h
      next e r he =>
        obtain ⟨es', hes, heq⟩ := Option.map_eq_some_iff.mp h
        cases heq
        obtain ⟨fl, rfl, hkind, hok, hfl⟩ := readEntry_eq_some.mp he
        obtain ⟨hlen, flags, hflags, rfl, hfit⟩ := ih hes
        exact ⟨congrArg (· + 1) hlen, fl :: flags, congrArg (· + 1) hflags, rfl,
          List.forall_mem_cons.mpr ⟨⟨hkind, hok, hfl⟩, hfit⟩⟩
      · cases h
  · rintro ⟨rfl, flags, hflags, rfl, hfit⟩
    induction es generalizing flags with
    | nil => rfl
    | cons e es ih =>
      cases flags with
      | nil => cases hflags
      | cons fl flags =>
        obtain ⟨⟨hkind, hok, hfl⟩, hrest⟩ := List.forall_mem_cons.mp hfit
        have he : readEntry k (sentEntries ((e :: es).zip (fl :: flags))) = some (e, sentEntries (es.zip flags)) :=
          readEntry_eq_some.mpr ⟨fl, rfl, hkind, hok, hfl⟩
        rw [List.length_cons, readEntries, he]
        dsimp only
        rw [ih flags (Nat.succ.inj hflags) hrest]
        rfl

/-- The code of a kind of entry (R188). -/
def TableKind.number : TableKind → Nat
  | .profile => 0
  | .curve => 1
  | .fingering => 2
  | .voicing => 3

theorem readKind_eq_some {b : Byte} {k : TableKind} : readKind b = some k ↔ b.toNat = k.number := by
  constructor
  · intro h
    unfold readKind at h
    split at h <;> cases h <;> assumption
  · intro h
    unfold readKind
    cases k <;> simp only [h, TableKind.number]

/-- The arguments that the first check of WRITE_TABLE accepts (R145, R188). -/
theorem readTableWrite_eq_some {args : List Byte} {w : TableWrite} :
    readTableWrite args = some w ↔ ∃ (kb ib nb : Byte) (flags : List Byte),
      args = kb :: ib :: nb :: sentEntries (w.entries.zip flags) ∧ flags.length = w.entries.length ∧
      kb.toNat = w.kind.number ∧ ib.toNat = w.first ∧ nb.toNat = w.entries.length ∧ 1 ≤ w.entries.length ∧
      w.entries.length ≤ 16 ∧ w.first + w.entries.length - 1 ≤ w.kind.lastIndex ∧
      EntriesFit w.kind (w.entries.zip flags) := by
  constructor
  · intro h
    unfold readTableWrite at h
    split at h
    next kb ib nb bs =>
      split at h
      next k hk =>
        split at h
        next hr =>
          obtain ⟨es, hes, heq⟩ := Option.map_eq_some_iff.mp h
          cases heq
          obtain ⟨hlen, flags, hflags, rfl, hfit⟩ := readEntries_eq_some.mp hes
          rw [← hlen] at hr
          exact ⟨kb, ib, nb, flags, rfl, hflags, readKind_eq_some.mp hk, rfl, hlen.symm, hr.1, hr.2.1, hr.2.2, hfit⟩
        · cases h
      · cases h
    · cases h
  · rintro ⟨kb, ib, nb, flags, rfl, hflags, hk, hib, hnb, hone, hmax, hlast, hfit⟩
    have hes := readEntries_eq_some.mpr ⟨rfl, flags, hflags, rfl, hfit⟩
    unfold readTableWrite
    simp only [readKind_eq_some.mpr hk, hib, hnb, hes]
    rw [if_pos ⟨hone, hmax, hlast⟩]
    rfl

/-! ### What a write leaves in the bank (R146) -/

theorem map_setIfInBounds {α β : Type} {n i : Nat} (xs : Vector α n) (x : α) (f : α → β) (hi : i < n) (j : Nat) :
    (xs.setIfInBounds i x)[j]?.map f = if j = i then some (f x) else xs[j]?.map f := by
  rw [Vector.getElem?_setIfInBounds]
  by_cases h : j = i
  · subst h
    simp [hi]
  · rw [if_neg (Ne.symm h), if_neg h]

theorem Bank.readEntry_writeEntry (b : Bank) {i : Nat} {e : TableEntry} (hi : i ≤ e.kind.lastIndex) (k : TableKind)
    (j : Nat) :
    (b.writeEntry i e).readEntry k j = if k = e.kind ∧ j = i then some e.stored else b.readEntry k j := by
  have hlt := Nat.lt_succ_of_le hi
  cases e with
  | profile p =>
    have hset := map_setIfInBounds b.profiles p TableEntry.profile hlt j
    cases k <;> simp [Bank.writeEntry, Bank.readEntry, TableEntry.kind, TableEntry.stored, hset]
  | curve pts =>
    have hset := map_setIfInBounds b.curves pts TableEntry.curve hlt j
    cases k <;> simp [Bank.writeEntry, Bank.readEntry, TableEntry.kind, TableEntry.stored, hset]
  | fingering f =>
    have hset := map_setIfInBounds b.fingerings f.stored TableEntry.fingering hlt j
    cases k <;> simp [Bank.writeEntry, Bank.readEntry, TableEntry.kind, TableEntry.stored, hset]
  | voicing v =>
    have hset := map_setIfInBounds b.voicings v TableEntry.voicing hlt j
    cases k <;> simp [Bank.writeEntry, Bank.readEntry, TableEntry.kind, TableEntry.stored, hset]

theorem Bank.writeEntries_state (b : Bank) (i : Nat) (es : List TableEntry) : (b.writeEntries i es).state = b.state := by
  induction es generalizing b i with
  | nil => rfl
  | cons e es ih =>
    rw [Bank.writeEntries, ih]
    cases e <;> rfl

theorem Bank.readEntry_writeEntries (b : Bank) {i : Nat} {K : TableKind} {es : List TableEntry}
    (hkind : ∀ e ∈ es, e.kind = K) (hlast : i + es.length ≤ K.lastIndex + 1) (k : TableKind) (j : Nat) :
    (b.writeEntries i es).readEntry k j =
      if k = K ∧ i ≤ j ∧ j < i + es.length then (es[j - i]?).map TableEntry.stored else b.readEntry k j := by
  induction es generalizing b i with
  | nil => rw [if_neg (by simp only [List.length_nil]; omega)]; rfl
  | cons e es ih =>
    obtain ⟨he, hes⟩ := List.forall_mem_cons.mp hkind
    rw [List.length_cons] at hlast ⊢
    rw [Bank.writeEntries, ih _ hes (by omega), Bank.readEntry_writeEntry _ (by rw [he]; omega), he]
    by_cases hk : k = K
    · rcases Nat.lt_trichotomy j i with h | rfl | h
      · simp [show ¬i + 1 ≤ j by omega, show ¬j = i by omega, show ¬i ≤ j by omega]
      · simp [hk]
      · have hsub : j - i = j - (i + 1) + 1 := by omega
        by_cases hj : j < i + (es.length + 1)
        · simp [hk, hsub, show i + 1 ≤ j by omega, show i ≤ j by omega, show j < i + 1 + es.length by omega, hj]
        · simp [hj, show ¬j = i by omega, show ¬j < i + 1 + es.length by omega]
    · simp [hk]

/-! ### The staging bank (R144) -/

theorem State.stagingBank_of_none {s : State} (h : ∀ b : BankIx, (s.bank b).state ≠ .live) :
    s.store.stagingBank = some 0 := by
  rw [TableStore.stagingBank, State.liveBank_eq_none.mpr h]
  rfl

theorem State.stagingBank_eq_some {s : State} {d : BankIx} (hd : (s.bank d).state = .live) (b : BankIx) :
    s.store.stagingBank = some b ↔ (s.bank b).state ≠ .live ∧ (s.bank b).state ≠ .draining := by
  have hlive : s.store.liveBank ≠ none := fun h => State.liveBank_eq_none.mp h d hd
  refine ⟨State.stagingBank_state hlive, fun ⟨h1, h2⟩ => ?_⟩
  obtain ⟨l, hl⟩ := Option.ne_none_iff_exists'.mp hlive
  exact State.stagingBank_of_live hl (fun h => h1 (h ▸ State.liveBank_state hl)) h1 h2

theorem State.workBank_eq_none {s : State} :
    s.store.workBank = none ↔ ∀ b : BankIx, (s.bank b).state ≠ .copying ∧ (s.bank b).state ≠ .verifying := by
  unfold TableStore.workBank
  rw [List.find?_eq_none]
  refine ⟨fun h b => ?_, fun h b _ => ?_⟩
  · simpa [State.bank] using h b (List.mem_finRange b)
  · simpa [State.bank] using h b

/-! ### WRITE_TABLE -/

theorem sentEntries_eq (efs : List (TableEntry × Byte)) :
    sentEntries efs = efs.flatMap fun ef =>
      match ef.1 with
      | .fingering f => ef.2 :: (TableEntry.bytes (.fingering f)).drop 1
      | e => e.bytes :=
  congrArg efs.flatMap (funext fun ⟨e, _⟩ => by cases e <;> rfl)

theorem submit_refused_busy {s : State} (h : s.Ready) {r : Request} {st : Status}
    (hr : carryOut r s.busy = s.busy.refuse r st) :
    Host.Outcome.next (φ := Fault) (ρ := Refusal) (s.submit r) = .next (s.answered r.id r.code st []) := by
  rw [submit_busy h, hr]
  exact congrArg _ (State.refuse_ready h r st)

/-- A write carried out: the entries of one kind go where they were named, and the rest stays (R146). -/
theorem State.writeBank_eq (s : State) (b : BankIx) {i : Nat} {k : TableKind} {es : List TableEntry}
    (hkind : ∀ e ∈ es, e.kind = k) (hlast : i + es.length ≤ k.lastIndex + 1) :
    ∃ x : Bank, s.writeBank b i es = s.setBank b x ∧
      x.state = (if (s.bank b).state = .empty then .staged else (s.bank b).state) ∧
      (∀ j < es.length, x.readEntry k (i + j) = (es[j]?).map TableEntry.stored) ∧
      ∀ k' j, k' ≠ k ∨ j < i ∨ i + es.length ≤ j → x.readEntry k' j = (s.bank b).readEntry k' j := by
  have hstate := (s.bank b).writeEntries_state i es
  have hread (k' : TableKind) (j : Nat) := (s.bank b).readEntry_writeEntries hkind hlast k' j
  refine ⟨_, rfl, by rw [hstate], fun j hj => ?_, fun k' j hout => ?_⟩
  · refine (hread k (i + j)).trans ?_
    rw [if_pos ⟨rfl, by omega, by omega⟩, Nat.add_sub_cancel_left]
  · exact (hread k' j).trans (if_neg (by rintro ⟨rfl, h1, h2⟩; simp at hout; omega))

/-- WRITE_TABLE with arguments that pass its first check (R145). -/
theorem cmdWriteTable_of_read {r : Request} {w : TableWrite} (hw : readTableWrite r.args = some w) (s : State) :
    cmdWriteTable r s =
      match s.store.stagingBank with
      | none => s.refuse r .bankBusy
      | some b =>
        if s.store.work.isEmpty then (s.writeBank b w.first w.entries).reply r .ok [] else s.refuse r .busy := by
  unfold cmdWriteTable
  rw [hw] <;> rfl

theorem EntriesFit.kinds {k : TableKind} {es : List TableEntry} {flags : List Byte} (hlen : flags.length = es.length)
    (h : EntriesFit k (es.zip flags)) : ∀ e ∈ es, e.kind = k := by
  intro e he
  have hmap : e ∈ (es.zip flags).map Prod.fst := by rwa [List.map_fst_zip hlen.ge]
  obtain ⟨ef, hef, rfl⟩ := List.mem_map.mp hmap
  exact (h ef hef).1

/-- Settles O23: a write is refused by the first check that fails, or writes its entries in the staging bank. -/
theorem writeTableWritesStagingBank : Obligations.WriteTableWritesStagingBank := by
  unfold Obligations.WriteTableWritesStagingBank
  refine ⟨fun id args s h => ⟨fun hargs => submit_refused h fun t => ?_, fun w hw => ⟨fun hb => ?_, fun hb hwork => ?_,
    fun b hb hwork => ?_⟩⟩, fun args w => ?_, fun s => ⟨State.stagingBank_of_none, fun ⟨d, hd⟩ => State.stagingBank_eq_some hd,
    State.liveBank_eq_none, State.workBank_eq_none, fun b => ⟨State.liveBank_state, State.workBank_state⟩⟩⟩
  · show cmdWriteTable ⟨id, 0x20#8, args⟩ t = _
    unfold cmdWriteTable
    rw [hargs]
  · refine submit_refused_busy h (r := ⟨id, 0x20#8, args⟩) ((cmdWriteTable_of_read hw s.busy).trans ?_)
    rw [show s.busy.store.stagingBank = none from hb]
  · obtain ⟨b, hb⟩ := Option.ne_none_iff_exists'.mp hb
    refine submit_refused_busy h (r := ⟨id, 0x20#8, args⟩) ((cmdWriteTable_of_read hw s.busy).trans ?_)
    rw [show s.busy.store.stagingBank = some b from hb]
    exact if_neg (by rw [List.isEmpty_iff]; exact hwork)
  · obtain ⟨kb, ib, nb, flags, -, hflags, -, -, -, hone, -, hlast, hfit⟩ := readTableWrite_eq_some.mp hw
    obtain ⟨x, hx, hstate, hnew, hold⟩ := s.writeBank_eq b (hfit.kinds hflags) (i := w.first) (by omega)
    refine ⟨x, submit_answers h (r := ⟨id, 0x20#8, args⟩) rfl ((cmdWriteTable_of_read hw s.busy).trans ?_), hstate,
      hnew, hold⟩
    rw [show s.busy.store.stagingBank = some b from hb]
    have hbusy : s.busy.writeBank b w.first w.entries = (s.setBank b x).busy := by
      rw [← hx]
      rfl
    dsimp only
    rw [if_pos (by rw [List.isEmpty_iff]; exact hwork), hbusy]
  · rw [readTableWrite_eq_some]
    refine exists_congr fun kb => exists_congr fun ib => exists_congr fun nb => exists_congr fun flags => ?_
    rw [sentEntries_eq]
    exact Iff.rfl

end Sys2Proof.Machine

/-! Timers and the voice link's packets (R17, R116, R118, R119, R130, R133, R135, R178). -/

namespace Sys2Proof.Machine

open Sys2Proof

/-! ### The loss timer (R17) -/

theorem Slot.lostController_eq (x : Slot) (live : Option BankIx) :
    { x.lostController with bank := switchedBank live x.lostController } =
      { x with
        phase := .absent, absentCause := some .timeout, expectedSeq := none, lossTimer := none
        settings := x.applyPending.settings, pendingSettings := none, rearm := false
        layers := [], bank := live.or x.bank } := by
  unfold Slot.lostController
  rw [Slot.applyPending_eq]
  unfold switchedBank Slot.applyPending
  cases x.pendingSettings <;> rfl

theorem State.lossExpiry_of_running {s : State} {i : SlotIx} (h : (s.slot i).lossTimer ≠ none) :
    s.lossExpiry i =
      State.raise
        (State.drain ((State.releaseLayers .lost (s.slot i).layers s).setSlot i
          { s.slot i with
            phase := .absent, absentCause := some .timeout, expectedSeq := none, lossTimer := none
            settings := (s.slot i).applyPending.settings, pendingSettings := none, rearm := false
            layers := [], bank := s.store.liveBank.or (s.slot i).bank }))
        (.lost i (s.slot i).phase) := by
  unfold State.lossExpiry State.modSlot
  rw [if_neg (by simpa using h)]
  dsimp only
  rw [State.switchBank_setSlot, Slot.lostController_eq]
  simp

/-- Settles O31: what each timer does when it expires. -/
theorem runningTimersExpire : Obligations.RunningTimersExpire := by
  unfold Obligations.RunningTimersExpire
  intro s i v
  refine ⟨fun h => congrArg Host.Outcome.next (State.lossExpiry_of_running h), fun h => ?_, fun h => ?_, fun h howed => ?_,
    fun h howed => ⟨s.notices.setLatches, s.notices.newCaptures, ?_, fun l => ?_, fun c => ?_⟩⟩
  · refine congrArg Host.Outcome.next ?_
    unfold State.releaseExpiry
    rw [if_neg (by simpa using h)]
    rfl
  · refine congrArg Host.Outcome.next ?_
    unfold State.stallExpiry
    rw [if_neg (by simpa using h)]
  · refine congrArg Host.Outcome.next ?_
    unfold State.noticeInterval
    rw [if_neg (by simpa using h), if_neg (by simp [howed])]
  · refine congrArg Host.Outcome.next ?_
    unfold State.noticeInterval
    rw [if_neg (by simpa using h), if_pos howed, NoticeUnit.report_eq]
    rfl
  · rw [NoticeUnit.getLsbD_setLatches, Latch.isSet]
  · unfold NoticeUnit.newCaptures
    simp [List.mem_filterMap, Option.ite_none_right_eq_some]

/-! ### GRANT (R133) -/

theorem exec_of_received {s : State} (h : s.receives .voice = true) (t : State) :
    (Host.Outcome.next (if s.receives .voice then t else s) : Host.Outcome State Fault Refusal) = .next t :=
  congrArg Host.Outcome.next (if_pos h)

theorem exec_of_not_received {s : State} (h : s.receives .voice = false) (t : State) :
    (Host.Outcome.next (if s.receives .voice then t else s) : Host.Outcome State Fault Refusal) = .next s :=
  congrArg Host.Outcome.next (if_neg (by simp [h]))

/-- A port that does not stall has its stall timer stopped (R135). -/
theorem State.settleStall_of_not_stalled {s : State} (h : s.port.stalled = false) :
    s.settleStall = { s with port := { s.port with stallTimer := none } } := by
  unfold State.settleStall
  rw [h]
  rfl

/-- Credit that is added stops the stall timer (R135). -/
theorem State.addCredit_eq (s : State) {n : Nat} (hn : 1 ≤ n) :
    s.addCredit n =
      { s with port := { s.port with credit := min 255 (s.port.credit + n), stallTimer := none } } := by
  unfold State.addCredit
  refine State.settleStall_of_not_stalled ?_
  unfold VoicePort.stalled
  have hcredit : ¬min 255 (s.port.credit + n) = 0 := by omega
  simp [hcredit]

/-- Settles O34. -/
theorem grantAddsCredit : Obligations.GrantAddsCredit := by
  unfold Obligations.GrantAddsCredit
  refine fun s n fields => ⟨fun h h1 h64 => (exec_of_received h _).trans ?_, fun h hn => (exec_of_received h _).trans ?_,
    fun h hlen => (exec_of_received h _).trans ?_, fun h => exec_of_not_received h _⟩
  · rw [State.deliverGrant, if_pos ⟨h1, h64⟩, State.addCredit_eq s h1]
  · rw [State.deliverGrant, if_neg (by omega)]
  · unfold State.deliverGrant
    split
    · exact absurd rfl hlen
    · rfl

/-! ### FREED (R119) -/

/-- Settles O35. -/
theorem freedReportEndsTail : Obligations.FreedReportEndsTail := by
  unfold Obligations.FreedReportEndsTail
  refine fun s a g fields => ⟨fun h v hv => ?report, fun h ha => (exec_of_received h _).trans ?_,
    fun h hlen => (exec_of_received h _).trans ?_, fun h => exec_of_not_received h _⟩
  case report =>
    have hlt : a.toNat < 32 := hv ▸ v.isLt
    have hvoice : (⟨a.toNat, hlt⟩ : VoiceIx) = v := Fin.ext hv
    have hexec : exec (.freed [a, g]) s = .next (s.freedReport v g) := by
      refine (exec_of_received h _).trans ?_
      rw [State.deliverFreed, dif_pos hlt, hvoice]
    have hmatch : (s.voice v).freedMatches g = true ↔ (s.voice v).dn = .tail ∧ (s.voice v).dnGeneration = g := by
      simp [Voice.freedMatches]
    rw [hexec]
    unfold State.freedReport
    refine ⟨fun hdn hg hp hgen => ?_, fun hdn hg hp => ?_, fun hno => ?_⟩
    · rw [if_pos (hmatch.mpr ⟨hdn, hg⟩), if_pos ⟨hp, hgen⟩]
    · rw [if_pos (hmatch.mpr ⟨hdn, hg⟩), if_neg (by tauto)]
    · rw [if_neg (by rw [hmatch]; tauto)]
  · rw [State.deliverFreed, dif_neg (by omega)]
  · unfold State.deliverFreed
    split
    · exact absurd rfl hlen
    · rfl

/-! ### TRANSMISSION (R118, R130) -/

/-- What the report of a transmitted record makes of a voice (R118). -/
def Voice.reported (x : Voice) (v : VoiceIx) (r : VoiceRecord) : Voice :=
  { x with
    dn := match r with
      | .start w g .. => if w = v ∧ x.dn = .pending ∧ x.dnGeneration = g then .opened else x.dn
      | .stop w g k => if w = v ∧ k ≠ .cut ∧ x.dn = .opened ∧ x.dnGeneration = g then .tail else x.dn
      | _ => x.dn }

theorem State.transmitted_eq (s : State) (r : VoiceRecord) :
    s.transmitted r = { s with pool := (s.transmitted r).pool } ∧
      (s.transmitted r).pool.ageList = s.pool.ageList ∧ (s.transmitted r).pool.releaseList = s.pool.releaseList ∧
      (s.transmitted r).pool.rotation = s.pool.rotation ∧
      ∀ v, (s.transmitted r).voice v = (s.voice v).reported v r := by
  cases r with
  | start w g c p pc vel l =>
    refine ⟨rfl, rfl, rfl, rfl, fun v => (State.voice_modVoice ..).trans ?_⟩
    unfold Voice.reported
    by_cases hw : w = v
    · subst hw
      by_cases hdn : (s.voice w).dn = .pending ∧ (s.voice w).dnGeneration = g <;> simp [hdn]
    · simp [hw]
  | stop w g k =>
    by_cases hk : k = .cut
    · subst hk
      refine ⟨rfl, rfl, rfl, rfl, fun v => ?_⟩
      simp [State.transmitted, Voice.reported]
    · have ht : s.transmitted (.stop w g k) =
          s.modVoice w fun x => if x.dn = .opened ∧ x.dnGeneration = g then { x with dn := .tail } else x := if_neg hk
      rw [ht]
      refine ⟨rfl, rfl, rfl, rfl, fun v => (State.voice_modVoice ..).trans ?_⟩
      unfold Voice.reported
      by_cases hw : w = v
      · subst hw
        by_cases hdn : (s.voice w).dn = .opened ∧ (s.voice w).dnGeneration = g <;> simp [hdn, hk]
      · simp [hw]
  | _ => exact ⟨rfl, rfl, rfl, rfl, fun v => rfl⟩

/-- The port after its head record was sent. -/
def VoicePort.sent (p : VoicePort) (r : VoiceRecord) (q : List VoiceRecord) : VoicePort :=
  { p with queue := q, credit := p.credit - 1, sending := some r }

theorem State.transmit_of_head {s : State} {r : VoiceRecord} {q : List VoiceRecord} (hatt : s.port.attached = true)
    (hcredit : 1 ≤ s.port.credit) (hq : s.port.queue = r :: q) :
    s.transmit = (State.transmitted { s with port := s.port.sent r q } r).settleStall := by
  have hsend : s.port.canSend = true := by simp [VoicePort.canSend, hatt, hcredit, hq]
  unfold State.transmit
  rw [hsend, hq]
  rfl

theorem State.transmit_of_none {s : State} (h : s.port.attached = false ∨ s.port.credit = 0 ∨ s.port.queue = []) :
    s.transmit = { s with port := { s.port with sending := none } } := by
  have hsend : s.port.canSend = false := by
    rcases h with h | h | h <;> simp [VoicePort.canSend, h]
  unfold State.transmit
  rw [hsend]

/-- The bytes of a VOICE packet (R186, R187). -/
theorem VoiceRecord.wire_eq (r : VoiceRecord) :
    r.wire = ([0x41#8] ++ [BitVec.ofNat 8 r.fields.length] ++ r.fields) ++
      [BitVec.ofNat 8 ((crc16 ([0x41#8] ++ [BitVec.ofNat 8 r.fields.length] ++ r.fields)).toNat / 256),
        BitVec.ofNat 8 (crc16 ([0x41#8] ++ [BitVec.ofNat 8 r.fields.length] ++ r.fields)).toNat] :=
  envelope_eq _ _

/-- Settles O33: the head record is sent and reported to the pool, and its bytes are R187's. -/
theorem transmissionSendsHead : Obligations.TransmissionSendsHead := by
  unfold Obligations.TransmissionSendsHead
  refine ⟨fun s r q => ⟨fun hatt hcredit hq => ?_, fun hno => congrArg Host.Outcome.next (State.transmit_of_none hno)⟩,
    fun r => ?_⟩
  · obtain ⟨hframe, hage, hrelease, hrotation, hvoice⟩ :=
      State.transmitted_eq { s with port := s.port.sent r q } r
    refine ⟨_, congrArg Host.Outcome.next (State.transmit_of_head hatt hcredit hq), ?_⟩
    generalize hu : State.transmitted { s with port := s.port.sent r q } r = u at hframe hage hrelease hrotation hvoice
    rw [hframe]
    refine ⟨rfl, rfl, rfl, hatt, rfl, ?stall, rfl, fun v => ?_, hage, hrelease, hrotation, rfl, rfl, rfl, rfl, rfl, rfl⟩
    case stall =>
      have hone : s.port.credit - 1 = 0 ↔ s.port.credit = 1 := by omega
      rw [← Option.isSome_iff_ne_none, State.settleStall_law { s with port := s.port.sent r q, pool := u.pool }]
      simp [VoicePort.stalled, VoicePort.sent, hatt, hone]
    · exact hvoice v
  · intro one two fields covered
    have hfields : r.fields = fields := by
      cases r with
      | stop v g k => cases k <;> rfl
      | _ => simp only [VoiceRecord.fields, byte2_eq]; rfl
    rw [VoiceRecord.wire_eq, hfields]

end Sys2Proof.Machine

/-! The receivers and what a reading does to their links (R162, R184): the collector link and discarded packets. -/

namespace Sys2Proof.Machine

open Sys2Proof

/-! ### One reading (R184) -/

theorem Receiver.elapsed_eq (r : Receiver) (x : Reading) :
    r.elapsed x =
      if decide (x.alignment = r.alignment) then 10 else (x.alignment.val + 10 - r.alignment.val) % 10 := by
  unfold Receiver.elapsed
  by_cases h : x.alignment = r.alignment
  · simp [h]
  · rw [if_neg h, if_neg (by simpa using h), Fin.sub_def]
    show (10 - r.alignment.val + x.alignment.val) % 10 = _
    have := r.alignment.isLt
    omega

theorem Receiver.run_eq (r : Receiver) (x : Reading) [Decidable (x.group = none)] :
    r.run x =
      if x.group = none then 0
      else if decide (x.alignment = r.alignment) then min 16 (r.validGroups + 1) else 1 := by
  unfold Receiver.run
  by_cases hg : x.group = none
  · simp [hg]
  · by_cases ha : x.alignment = r.alignment <;> simp [hg, ha, Option.isNone_iff_eq_none]

/-- For how many symbol times lock has been absent once a group is read. -/
def Receiver.absent (r : Receiver) (x : Reading) : Nat := r.lockless + r.elapsed x

/-- A receiver that goes on without lock. -/
def Receiver.waits (r : Receiver) (x : Reading) : Receiver :=
  { locked := false, alignment := x.alignment, validGroups := r.run x, lockless := min 256 (r.absent x)
    packet := r.packet }

/-- A receiver that has gained lock, with no packet. -/
def Receiver.gained (x : Reading) : Receiver :=
  { locked := true, alignment := x.alignment, validGroups := 16, lockless := 0, packet := .none }

theorem Receiver.read_loses {r : Receiver} {x : Reading} (hl : r.locked = true)
    (hk : x.group = none ∨ x.alignment ≠ r.alignment) [Decidable (x.group = none)] :
    r.read x =
      { locked := false, alignment := x.alignment, validGroups := if x.group = none then 0 else 1, lockless := 0
        packet := if r.packet = .inside then .cut else r.packet } := by
  have hkeeps : r.keepsLock x = false := by
    rcases hk with h | h <;> simp [Receiver.keepsLock, h]
  have hrun : r.run x = if x.group = none then 0 else 1 := by
    rw [Receiver.run_eq]
    by_cases hg : x.group = none
    · simp [hg]
    · simp [hg, hk.resolve_left hg]
  unfold Receiver.read
  rw [if_pos hl, if_neg (by simp [hkeeps]), hrun]

theorem Receiver.keepsLock_of {r : Receiver} {x : Reading} (hg : x.group ≠ none) (ha : x.alignment = r.alignment) :
    r.keepsLock x = true := by
  simp [Receiver.keepsLock, ha, Option.isSome_iff_ne_none, hg]

theorem Receiver.read_waits {r : Receiver} {x : Reading} (hl : r.locked = false) (hr : r.run x < 16) :
    r.read x = r.waits x := by
  have hfew : ¬lockGroups ≤ r.run x := Nat.not_le.mpr hr
  simp only [Receiver.read, hl, Bool.false_eq_true, if_false, hfew, decide_false]
  rfl

theorem Receiver.read_gains {r : Receiver} {x : Reading} (hl : r.locked = false) (hr : r.run x = 16) :
    r.read x = { Receiver.gained x with packet := r.packet } := by
  simp only [Receiver.read, hl, Bool.false_eq_true, if_false, hr]
  rfl

/-! ### Receivers in the state -/

theorem State.setReceiver_setReceiver (s : State) (l : Link) (r q : Receiver) :
    (s.setReceiver l r).setReceiver l q = s.setReceiver l q := by
  cases l <;> rfl

theorem State.setReceiver_self (s : State) (l : Link) : s.setReceiver l (s.receiver l) = s := by
  cases l <;> rfl

theorem State.endPacket_setReceiver (s : State) (l : Link) (r : Receiver) :
    (s.setReceiver l r).endPacket l = s.setReceiver l { r with packet := .none } := by
  unfold State.endPacket
  rw [State.receiver_setReceiver_same, State.setReceiver_setReceiver]

theorem State.endPacket_of_none {s : State} {l : Link} (h : (s.receiver l).packet = .none) : s.endPacket l = s := by
  have hr : { s.receiver l with packet := .none } = s.receiver l := by rw [← h]
  unfold State.endPacket
  rw [hr, State.setReceiver_self]

/-! ### One reading of a link (R184) -/

/-- The link goes down (R137, R162). -/
def State.down (s : State) : Link → State
  | .collector => s.collectorDown
  | .voice => s.detach

/-- The link comes up (R136, R184). -/
def State.up (s : State) : Link → State
  | .collector => s.collectorUp
  | .voice => s.attach

section
variable {s : State} {l : Link} {x : Reading}

theorem State.lineDown_of_up (h : s.linkUp l = true) : s.lineDown l = (s.endPacket l).down l := by
  unfold State.lineDown
  rw [if_pos h]
  cases l <;> rfl

theorem State.lineDown_of_down (h : s.linkUp l = false) : s.lineDown l = s := by
  unfold State.lineDown
  rw [if_neg (by simp [h])]

theorem State.lineUp_of_up (h : s.linkUp l = true) :
    s.lineUp l = (s.endPacket l).raiseIf (decide ((s.receiver l).packet = .cut)) (.corrupt .length l) := by
  unfold State.lineUp
  rw [if_pos h]

theorem State.lineUp_of_down (h : s.linkUp l = false) : s.lineUp l = (s.endPacket l).up l := by
  unfold State.lineUp
  rw [if_neg (by simp [h])]
  cases l <;> rfl

/-- A reading without lock. -/
theorem State.hear_open (hl : (s.receiver l).locked = false) :
    State.hear l s x =
      (let t := s.setReceiver l ((s.receiver l).read x)
      let u := if 256 ≤ (s.receiver l).absent x then t.lineDown l else t
      if ((s.receiver l).read x).locked then u.lineUp l else u) := by
  unfold State.hear
  simp only [hl, Bool.false_eq_true, if_false]
  rfl

/-- The loss of lock moves the receiver alone. -/
theorem State.hear_loses (hl : (s.receiver l).locked = true)
    (hk : x.group = none ∨ x.alignment ≠ (s.receiver l).alignment) [Decidable (x.group = none)] :
    State.hear l s x = s.setReceiver l
      { locked := false, alignment := x.alignment, validGroups := if x.group = none then 0 else 1, lockless := 0
        packet := if (s.receiver l).packet = .inside then .cut else (s.receiver l).packet } := by
  rw [State.hear_losesLock hl, Receiver.read_loses hl hk]

/-- A reading that leaves the link as it is moves the receiver alone. -/
theorem State.hear_stays (hl : (s.receiver l).locked = false) (hr : (s.receiver l).run x < 16)
    (ha : (s.receiver l).absent x < 256 ∨ s.linkUp l = false) :
    State.hear l s x = s.setReceiver l ((s.receiver l).waits x) := by
  rw [State.hear_open hl, Receiver.read_waits hl hr]
  refine (if_neg (by simp [Receiver.waits])).trans ?_
  rcases ha with ha | hdown
  · exact if_neg (Nat.not_le.mpr ha)
  · rw [State.lineDown_of_down (by simpa using hdown), ite_self]

/-- Lock that was absent for too long brings the link down. -/
theorem State.hear_goesDown (hl : (s.receiver l).locked = false) (hr : (s.receiver l).run x < 16)
    (ha : 256 ≤ (s.receiver l).absent x) (hup : s.linkUp l = true) :
    State.hear l s x = (s.setReceiver l { (s.receiver l).waits x with packet := .none }).down l := by
  rw [State.hear_open hl, Receiver.read_waits hl hr]
  refine (if_neg (by simp [Receiver.waits])).trans ((if_pos ha).trans ?_)
  rw [State.lineDown_of_up (by simpa using hup), State.endPacket_setReceiver]

/-- Lock that is gained brings up a link that is down. -/
theorem State.hear_comesUp (hl : (s.receiver l).locked = false) (hr : (s.receiver l).run x = 16)
    (hdown : s.linkUp l = false) : State.hear l s x = (s.setReceiver l (Receiver.gained x)).up l := by
  rw [State.hear_open hl, Receiver.read_gains hl hr]
  refine (if_pos (by rfl)).trans ?_
  rw [State.lineDown_of_down (by simpa using hdown), ite_self, State.lineUp_of_down (by simpa using hdown),
    State.endPacket_setReceiver]
  rfl

/-- Lock that is regained in time raises at most CORRUPT for a packet that was cut. -/
theorem State.hear_regains (hl : (s.receiver l).locked = false) (hr : (s.receiver l).run x = 16)
    (ha : (s.receiver l).absent x < 256) (hup : s.linkUp l = true) :
    State.hear l s x =
      (s.setReceiver l (Receiver.gained x)).raiseIf (decide ((s.receiver l).packet = .cut)) (.corrupt .length l) := by
  rw [State.hear_open hl, Receiver.read_gains hl hr]
  refine (if_pos (by rfl)).trans ?_
  rw [if_neg (Nat.not_le.mpr ha), State.lineUp_of_up (by simpa using hup), State.endPacket_setReceiver,
    State.receiver_setReceiver_same]
  rfl

/-- Lock that is regained too late finds the link down, and brings it up anew. -/
theorem State.hear_returns (hl : (s.receiver l).locked = false) (hr : (s.receiver l).run x = 16)
    (ha : 256 ≤ (s.receiver l).absent x) (hup : s.linkUp l = true) :
    State.hear l s x = ((s.setReceiver l (Receiver.gained x)).down l).up l := by
  rw [State.hear_open hl, Receiver.read_gains hl hr]
  refine (if_pos (by rfl)).trans ?_
  dsimp only
  rw [if_pos ha]
  obtain ⟨hoff, hreceiver⟩ :=
    State.lineDown_link (s.setReceiver l { Receiver.gained x with packet := (s.receiver l).packet }) l l
  rw [State.lineUp_of_down (by simpa using hoff),
    State.endPacket_of_none (by rw [hreceiver]; simp [hup]), State.lineDown_of_up (by simpa using hup),
    State.endPacket_setReceiver]
  rfl

end

/-- A receiver stands as another but for the packet it is at. -/
def Receiver.Alike (q r : Receiver) : Prop := ∃ p, q = { r with packet := p }

theorem State.alike_line {s : State} {l : Link} {r : Receiver} (h : (s.receiver l).Alike r) :
    ((s.lineDown l).receiver l).Alike r ∧ ((s.lineUp l).receiver l).Alike r := by
  obtain ⟨p, hp⟩ := h
  rw [(State.lineDown_link s l l).2, (State.lineUp_link s l l).2, hp]
  refine ⟨?_, .none, if_pos rfl⟩
  split
  · exact ⟨.none, rfl⟩
  · exact ⟨p, rfl⟩

/-- What a reading makes of its receiver, but for the packet (R184). -/
theorem State.hear_receiver (s : State) (l : Link) (x : Reading) :
    ((State.hear l s x).receiver l).Alike ((s.receiver l).read x) := by
  have hset : ((s.setReceiver l ((s.receiver l).read x)).receiver l).Alike ((s.receiver l).read x) :=
    ⟨((s.receiver l).read x).packet, State.receiver_setReceiver_same ..⟩
  unfold State.hear
  dsimp only
  split
  · exact hset
  · have hdown : ((if lossSymbols ≤ (s.receiver l).lockless + (s.receiver l).elapsed x then
        (s.setReceiver l ((s.receiver l).read x)).lineDown l
        else s.setReceiver l ((s.receiver l).read x)).receiver l).Alike ((s.receiver l).read x) := by
      split
      · exact (State.alike_line hset).1
      · exact hset
    split
    · exact (State.alike_line hdown).2
    · exact hdown

/-! ### Runs of readings (R184) -/

/-- What readings count up to, one by one. -/
theorem State.hearAll_counts {P : Nat → Receiver → Prop} {Q : Reading → Prop} (l : Link)
    (hread : ∀ k r x, Q x → P k r → P (k + 1) (r.read x)) (halike : ∀ k q r, q.Alike r → P k r → P k q)
    {xs : List Reading} (hxs : ∀ x ∈ xs, Q x) {s : State} {k : Nat} (h : P k (s.receiver l)) :
    P (k + xs.length) ((s.hearAll l xs).receiver l) := by
  induction xs generalizing s k with
  | nil => exact h
  | cons x xs ih =>
    obtain ⟨hx, hrest⟩ := List.forall_mem_cons.mp hxs
    have hone : P (k + 1) ((State.hear l s x).receiver l) :=
      halike _ _ _ (s.hear_receiver l x) (hread k _ x hx h)
    have := ih hrest hone
    rwa [Nat.add_right_comm] at this

/-- A receiver that has read k valid groups at alignment a. -/
def Receiver.ReadValid (a : Fin 10) (k : Nat) (r : Receiver) : Prop :=
  k = 0 ∨ r.alignment = a ∧ (r.locked = true ∨ min k 16 ≤ r.validGroups)

/-- A receiver that has read k invalid groups at alignment a. -/
def Receiver.ReadInvalid (a : Fin 10) (k : Nat) (r : Receiver) : Prop :=
  k = 0 ∨ r.alignment = a ∧ r.locked = false ∧ min 256 (10 * (k - 1)) ≤ r.lockless

theorem Receiver.ReadValid.read {a : Fin 10} {k : Nat} {r : Receiver} {x : Reading}
    (hx : x.alignment = a ∧ x.group ≠ none) (h : r.ReadValid a k) : (r.read x).ReadValid a (k + 1) := by
  obtain ⟨ha, hg⟩ := hx
  refine .inr ?_
  cases hl : r.locked with
  | true =>
    by_cases hsame : x.alignment = r.alignment
    · rw [show r.read x = r by rw [Receiver.read, if_pos hl, if_pos (Receiver.keepsLock_of hg hsame)]]
      exact ⟨hsame ▸ ha, .inl hl⟩
    · have hk : k = 0 := by
        rcases h with h | ⟨h, -⟩
        · exact h
        · exact absurd (ha.trans h.symm) hsame
      rw [Receiver.read_loses hl (.inr hsame)]
      subst hk
      exact ⟨ha, .inr (by simp [hg])⟩
  | false =>
    have hrun : min (k + 1) 16 ≤ r.run x := by
      rw [Receiver.run_eq, if_neg hg]
      rcases h with rfl | ⟨h, hl' | hv⟩
      · split <;> omega
      · rw [hl] at hl'
        cases hl'
      · rw [if_pos (by simp [ha, h])]
        omega
    rcases Nat.lt_or_ge (r.run x) 16 with hfew | hmany
    · rw [Receiver.read_waits hl hfew]
      exact ⟨ha, .inr hrun⟩
    · rw [Receiver.read_gains hl (Nat.le_antisymm (r.run_le x) hmany)]
      exact ⟨ha, .inl rfl⟩

theorem Receiver.ReadInvalid.read {a : Fin 10} {k : Nat} {r : Receiver} {x : Reading}
    (hx : x.alignment = a ∧ x.group = none) (h : r.ReadInvalid a k) : (r.read x).ReadInvalid a (k + 1) := by
  obtain ⟨ha, hg⟩ := hx
  refine .inr ?_
  cases hl : r.locked with
  | true =>
    have hk : k = 0 := by
      rcases h with h | ⟨-, h, -⟩
      · exact h
      · rw [hl] at h
        cases h
    rw [Receiver.read_loses hl (.inl hg)]
    subst hk
    exact ⟨ha, rfl, by simp⟩
  | false =>
    have hrun : r.run x = 0 := by rw [Receiver.run_eq, if_pos hg]
    rw [Receiver.read_waits hl (by omega)]
    refine ⟨ha, rfl, ?_⟩
    show min 256 (10 * (k + 1 - 1)) ≤ min 256 (r.lockless + r.elapsed x)
    rcases h with rfl | ⟨h, -, hcount⟩
    · omega
    · have helapsed : r.elapsed x = 10 := by rw [Receiver.elapsed_eq, if_pos (by simp [ha, h])]
      omega

/-- Sixteen valid groups at one alignment bring the link up, in lock (R184). -/
theorem State.hearAll_valid {s : State} (h : s.ReceiverLaws) (l : Link) {a : Fin 10} {xs : List Reading}
    (hlen : 16 ≤ xs.length) (hxs : ∀ y ∈ xs, y.alignment = a ∧ y.group ≠ none) :
    ((s.hearAll l xs).receiver l).locked = true ∧ ((s.hearAll l xs).receiver l).alignment = a ∧
      (s.hearAll l xs).linkUp l = true := by
  have hcount := State.hearAll_counts (P := Receiver.ReadValid a) l (fun k r x => Receiver.ReadValid.read)
    (by rintro k q r ⟨p, rfl⟩ h; exact h) hxs (s := s) (k := 0) (.inl rfl)
  have hlawful := ((State.receiverLaws_iff _).mp h).1.hearAll l xs l
  rcases hcount with hzero | ⟨ha, hlocked⟩
  · omega
  · have hl : ((s.hearAll l xs).receiver l).locked = true := by
      rcases hlocked with hl | hv
      · exact hl
      · have := hlawful.groups
        exact hlawful.lock.mpr (by omega)
    exact ⟨hl, ha, (hlawful.locked hl).1⟩

/-- Twenty-seven invalid groups bring the link down (R184). -/
theorem State.hearAll_invalid {s : State} (h : s.ReceiverLaws) (l : Link) {a : Fin 10} {xs : List Reading}
    (hlen : 27 ≤ xs.length) (hxs : ∀ y ∈ xs, y.alignment = a ∧ y.group = none) :
    ((s.hearAll l xs).receiver l).locked = false ∧ (s.hearAll l xs).linkUp l = false := by
  have hcount := State.hearAll_counts (P := Receiver.ReadInvalid a) l (fun k r x => Receiver.ReadInvalid.read)
    (by rintro k q r ⟨p, rfl⟩ h; exact h) hxs (s := s) (k := 0) (.inl rfl)
  have hlawful := ((State.receiverLaws_iff _).mp h).1.hearAll l xs l
  rcases hcount with hzero | ⟨ha, hlocked, hlockless⟩
  · omega
  · refine ⟨hlocked, Bool.eq_false_iff.mpr fun hup => ?_⟩
    have := hlawful.lasts hup
    omega

theorem State.hearAll_append (s : State) (l : Link) (xs ys : List Reading) :
    s.hearAll l (xs ++ ys) = (s.hearAll l xs).hearAll l ys := by
  unfold State.hearAll
  rw [List.foldl_append]

theorem State.hearAll_singleton (s : State) (l : Link) (x : Reading) : s.hearAll l [x] = State.hear l s x := rfl

/-! ### The collector link (R162, R184) -/

/-- Settles O37: one reading at a time, then the runs of readings that bring the link up and down. -/
theorem collectorLinkChanges : Obligations.CollectorLinkChanges := by
  unfold Obligations.CollectorLinkChanges
  intro s x xs ys r same absent run waits gains
  have hrun : r.run x = run := r.run_eq x
  have habsent : r.absent x = absent := congrArg (r.lockless + ·) (r.elapsed_eq x)
  have hwaits : r.waits x = waits := by
    unfold Receiver.waits
    rw [hrun, habsent]
  have hr : s.receiver .collector = r := rfl
  have hsame : same = false ↔ x.alignment ≠ r.alignment := by simp [same]
  have hread {t : State} (h : State.hear .collector s x = t) : exec (.collectorLinkUp [x]) s = .next t :=
    congrArg Host.Outcome.next h
  refine ⟨rfl, rfl, fun t ht => ?_, fun hl hg hs => ?_, fun hl hk => ?_, fun hl hfew ha => ?_, fun hl hfew ha hup => ?_,
    fun hl hmany hdown => ?_, fun hl hmany hup ha hcut => ?_, fun hl hmany hup ha => ?_, fun a h hlen hxs => ?_,
    fun a h hlen hxs => ?_⟩
  · cases ht
    exact congrArg Host.Outcome.next (s.hearAll_append .collector xs ys)
  · exact hread (State.hear_inLock (l := .collector) (s := s) hl (Receiver.keepsLock_of hg (of_decide_eq_true hs)))
  · exact hread (State.hear_loses (l := .collector) (s := s) hl (hk.imp_right hsame.mp))
  · exact hread ((State.hear_stays (l := .collector) (s := s) hl (hrun ▸ hfew) (ha.imp_left (habsent ▸ ·))).trans (by rw [hr, hwaits]; rfl))
  · exact hread ((State.hear_goesDown (l := .collector) (s := s) hl (hrun ▸ hfew) (habsent ▸ ha) hup).trans (by rw [hr, hwaits]; rfl))
  · exact hread (State.hear_comesUp (l := .collector) (s := s) hl (hrun.trans hmany) hdown)
  · refine hread ((State.hear_regains (l := .collector) (s := s) hl (hrun.trans hmany) (habsent ▸ ha) hup).trans ?_)
    rw [hr, decide_eq_false hcut]
    rfl
  · exact hread (State.hear_returns (l := .collector) (s := s) hl (hrun.trans hmany) (habsent ▸ ha) hup)
  · exact ⟨_, rfl, State.hearAll_valid h .collector hlen hxs⟩
  · exact ⟨_, rfl, State.hearAll_invalid h .collector hlen hxs⟩

/-! ### Packets that are discarded (R183 to R185) -/

/-- The CRC register after one bit of input (R183). -/
def crcTaken (register : Half) (bit : Bool) : Half :=
  if register.msb != bit then (register <<< 1) ^^^ 0x1021#16 else register <<< 1

/-- Input that was added to the register is taken up as the register shifts. -/
theorem crcBit_xor (register y : Half) : crcBit (register ^^^ y) = crcTaken register y.msb ^^^ (y <<< 1) := by
  have hshift : (register ^^^ y) <<< 1 = (register <<< 1) ^^^ (y <<< 1) := BitVec.shiftLeft_xor_distrib ..
  have hmsb : (register ^^^ y).msb = (register.msb != y.msb) := by simp [BitVec.msb_xor]
  unfold crcBit crcTaken
  rw [hmsb, hshift]
  split
  · rw [BitVec.xor_assoc, BitVec.xor_assoc, BitVec.xor_comm (y <<< 1)]
  · rfl

/-- So many shifts take up so many bits of the input. -/
theorem crcBit_iterate (register y : Half) (n : Nat) :
    crcBit^[n] (register ^^^ y) =
      ((List.range n).map fun k => (y <<< k).msb).foldl crcTaken register ^^^ (y <<< n) := by
  induction n with
  | zero => simp
  | succ n ih =>
    rw [Function.iterate_succ_apply', ih, crcBit_xor, List.range_succ, List.map_append, List.foldl_append,
      BitVec.shiftLeft_add]
    rfl

/-- A byte goes into the register bit by bit, most significant first (R183). -/
theorem crcByte_eq (crc : Half) (b : Byte) :
    crcByte crc b = ((List.range 8).map fun k => b.getLsbD (7 - k)).foldl crcTaken crc := by
  have hbits : ((List.range 8).map fun k => (b.setWidth 16 <<< 8 <<< k).msb) =
      (List.range 8).map fun k => b.getLsbD (7 - k) := by
    refine List.map_congr_left fun k hk => ?_
    have hk : k < 8 := List.mem_range.mp hk
    rw [← BitVec.shiftLeft_add, BitVec.msb_eq_getLsbD_last, BitVec.getLsbD_shiftLeft, BitVec.getLsbD_setWidth]
    have h1 : ¬16 - 1 < 8 + k := by omega
    have h2 : 16 - 1 - (8 + k) = 7 - k := by omega
    have h3 : 7 - k < 16 := by omega
    simp [h1, h2, h3]
  have hout : b.setWidth 16 <<< 8 <<< 8 = 0#16 := by
    rw [← BitVec.shiftLeft_add]
    exact BitVec.shiftLeft_eq_zero (by decide)
  have hrun := crcBit_iterate crc (b.setWidth 16 <<< 8) 8
  rw [hbits, hout, BitVec.xor_zero] at hrun
  exact hrun

/-- The check takes in the bits of all bytes, one after the other (R183). -/
theorem crc16_eq (bytes : List Byte) :
    crc16 bytes =
      (bytes.flatMap fun b => (List.range 8).map fun k => b.getLsbD (7 - k)).foldl crcTaken 0xFFFF#16 := by
  unfold crc16
  generalize 0xFFFF#16 = crc
  induction bytes generalizing crc with
  | nil => rfl
  | cons b bytes ih => rw [List.foldl_cons, ih, crcByte_eq, List.flatMap_cons, List.foldl_append]

/-- What a discarded packet raises (R185). -/
theorem State.receive_of_fault {s : State} {l : Link} {bytes : List Byte} {reason : CorruptReason}
    (h : s.receives l = true) (hfault : envelopeFault l bytes = some reason) :
    exec (.envelopeDiscard l bytes) s = .next (s.raise (.corrupt reason l)) := by
  refine congrArg Host.Outcome.next ((if_pos h).trans ?_)
  unfold State.receive
  rw [hfault]

theorem exec_attachment (xs : List Reading) (s : State) : exec (.attachment xs) s = .next (s.hearAll .voice xs) := rfl

theorem exec_collectorLinkUp (xs : List Reading) (s : State) :
    exec (.collectorLinkUp xs) s = .next (s.hearAll .collector xs) := rfl

theorem exec_packetCut (l : Link) (xs : List Reading) (s : State) :
    exec (.packetCut l xs) s = .next (((s.openPacket l).hearAll l xs).closePacket l) := rfl

theorem State.closePacket_of_ne {s : State} {l : Link} (h : (s.receiver l).packet ≠ .inside) : s.closePacket l = s :=
  if_neg h

theorem State.openPacket_of_receives {s : State} {l : Link} (h : s.receives l = true) :
    s.openPacket l = s.setReceiver l { s.receiver l with packet := .inside } := if_pos h

/-- Settles O36: the checks in order, the packet that is cut, and the check itself. -/
theorem discardedPacketsRaiseCorrupt : Obligations.DiscardedPacketsRaiseCorrupt := by
  unfold Obligations.DiscardedPacketsRaiseCorrupt
  refine ⟨fun s link bytes x xs => ?_, crc16_eq⟩
  intro r hear
  have hhear (ys : List Reading) (t : State) : hear ys t = .next (t.hearAll link ys) := by cases link <;> rfl
  refine ⟨fun h hlen => State.receive_of_fault h (if_pos hlen), fun h h4 hlen hcheck => ?_, fun h h4 hlen hcheck hclass => ?_,
    fun h hg ha => ?_, fun h hk => ?_, fun hup hl hcut hg ha hv hlate => ?_, fun h hnone => ?_, fun h => ⟨?_, fun hp => ?_⟩⟩
  · refine State.receive_of_fault h ?_
    unfold envelopeFault
    rw [if_neg (by omega), if_pos hcheck]
  · refine State.receive_of_fault h ?_
    have hno : classAccepted link (bytes.getD 0 0) = false := by
      cases link <;> simpa [classAccepted] using hclass
    unfold envelopeFault
    rw [if_neg (by omega), if_neg (not_not_intro hcheck), if_neg (by rw [hno]; decide)]
  · have hl : (s.receiver link).locked = true := by
      simp only [State.receives, Bool.and_eq_true] at h
      exact h.2
    rw [exec_packetCut, exec_packetCut, State.hearAll_cons, State.openPacket_of_receives h, State.hear_inLock]
    · simpa using hl
    · rw [State.receiver_setReceiver_same]
      exact Receiver.keepsLock_of hg ha
  · intro cut
    have hl : (s.receiver link).locked = true := by
      simp only [State.receives, Bool.and_eq_true] at h
      exact h.2
    have hone : State.hear link (s.openPacket link) x = cut := by
      rw [State.openPacket_of_receives h, State.hear_loses (by simpa using hl) (by simpa using hk),
        State.setReceiver_setReceiver]
      simp [cut]
    have hcut (ys : List Reading) : ((cut.hearAll link ys).receiver link).packet ≠ .inside :=
      State.hearAll_packet_ne_inside _ _ _ (by simp [cut])
    rw [exec_packetCut, exec_packetCut, State.hearAll_cons, State.hearAll_cons, hone, hhear,
      State.closePacket_of_ne (hcut xs), State.closePacket_of_ne (hcut [])]
    exact ⟨rfl, rfl⟩
  · have hv : 15 ≤ (s.receiver link).validGroups := hv
    have hrun : (s.receiver link).run x = 16 := by
      rw [Receiver.run_eq, if_neg hg, if_pos (decide_eq_true ha)]
      omega
    have habsent : (s.receiver link).absent x < 256 := by
      rw [Receiver.absent, Receiver.elapsed_eq, if_pos (decide_eq_true ha)]
      exact hlate
    rw [hhear, State.hearAll_singleton, State.hear_regains hl hrun habsent hup, decide_eq_true hcut, Receiver.gained, ha]
    rfl
  · rw [exec_packetCut, State.openPacket_of_receives h]
    have hclose : (s.setReceiver link { s.receiver link with packet := .inside }).closePacket link =
        s.setReceiver link { s.receiver link with packet := .none } := by
      unfold State.closePacket
      rw [if_pos (by simp), State.endPacket_setReceiver]
    have hr : { s.receiver link with packet := .none } = s.receiver link := by rw [← hnone]
    refine congrArg Host.Outcome.next (hclose.trans ?_)
    rw [hr, State.setReceiver_self]
  · exact congrArg Host.Outcome.next (if_neg (by simp [h]))
  · have hopen : s.openPacket link = s := if_neg (by simp [h])
    rw [exec_packetCut, hopen, hhear, State.closePacket_of_ne (s.hearAll_packet_ne_inside link xs hp)]

end Sys2Proof.Machine

/-! The voice link comes up and goes down (R136 to R138, R184). -/

namespace Sys2Proof.Machine

open Sys2Proof

/-! ### Detachment (R137) -/

/-- The port right after its link went down (R137). -/
def State.unplugged (s : State) : State :=
  { s with port := { s.port with attached := false, credit := 0, stallTimer := none, sending := none } }

theorem State.detach_of_attached {s : State} (h : s.port.attached = true) :
    s.detach = (s.unplugged.voiceFlush false).raise (.detach s.port.queue.length s.pool.countFlushed) := by
  unfold State.detach
  rw [if_pos h]
  rfl

theorem State.detach_of_detached {s : State} (h : s.port.attached = false) : s.detach = s := by
  unfold State.detach
  rw [if_neg (by simp [h])]

theorem VoicePort.ext_fields {p : VoicePort} {q : List VoiceRecord} {n : Nat} {a o : Bool} {t : Option Nat}
    {r : Option VoiceRecord} (hq : p.queue = q) (hn : p.credit = n) (ha : p.attached = a) (ho : p.allStopOwed = o)
    (ht : p.stallTimer = t) (hr : p.sending = r) :
    p = { queue := q, credit := n, attached := a, allStopOwed := o, stallTimer := t, sending := r } := by
  subst hq hn ha ho ht hr
  rfl

/-- What detachment makes of an ATTACHED port and of what hangs on it (R94, R121, R137). -/
structure State.Detaches (s t : State) : Prop where
  receivers : t.receivers = s.receivers
  port : t.port =
    { queue := [], credit := 0, attached := false, allStopOwed := true, stallTimer := none, sending := none }
  voice : ∀ v : VoiceIx, t.voice v =
    { s.voice v with
      phase := .free, owner := none, generation := (s.voice v).generation + 1, dn := .none
      pitchOwed := false, levelOwed := false, releaseTimer := none }
  ageList : t.pool.ageList = []
  releaseList : t.pool.releaseList = []
  rotation : t.pool.rotation = s.pool.rotation
  slot : ∀ i, t.slot i = (s.slot i).afterFlush s.store.liveBank
  first : ∀ l : LatchIx, t.notices.latches[l].first =
    if l = 10 then
      s.notices.latches[l].first.or (some (.detach s.port.queue.length
        ((List.finRange 32).countP fun v => decide ((s.voice v).phase ≠ .free ∨ (s.voice v).dn ≠ .none))))
    else s.notices.latches[l].first
  bank : ∀ b : BankIx, (s.bank b).state ≠ .draining → t.bank b = s.bank b
  drained : s.BankLaws → ∀ b : BankIx, (s.bank b).state = .draining → t.bank b = { s.bank b with state := .staged }
  work : t.store.work = s.store.work
  responder : t.responder = s.responder

theorem Pool.countFlushed_eq (s : State) :
    s.pool.countFlushed =
      (List.finRange 32).countP fun v => decide ((s.voice v).phase ≠ .free ∨ (s.voice v).dn ≠ .none) := by
  unfold Pool.countFlushed
  congr 1
  funext v
  show (s.voice v).counted = _
  rw [Bool.eq_iff_iff]
  simp [Voice.counted]

theorem State.detach_spec {s : State} (h : s.port.attached = true) : s.Detaches s.detach := by
  rw [State.detach_of_attached h]
  obtain ⟨⟨hnotices, hcollector, hport, hresponder, hreceivers⟩, hpool, hwork, -, -, -, -⟩ :=
    s.unplugged.voiceFlush_sweeps false
  have hflush : s.unplugged.FlushedTo (s.unplugged.voiceFlush false) false := .of_flushPool hpool hport rfl rfl rfl
  have hslot (i : SlotIx) := s.unplugged.slot_voiceFlush false i
  have hother (b : BankIx) (hb : (s.bank b).state ≠ .draining) :=
    State.bank_voiceFlush_of_ne (s := s.unplugged) hb false
  have hdraining (hlaws : s.BankLaws) (b : BankIx) (hb : (s.bank b).state = .draining) :=
    State.BankLaws.bank_voiceFlush (s := s.unplugged) hlaws hb false
  generalize s.unplugged.voiceFlush false = u at *
  obtain ⟨hvoice, hage, hrelease, hrotation, hqueue, howed, hcredit, hattached, hsending, hstall, htimer⟩ := hflush
  have huport : u.port =
      { queue := [], credit := 0, attached := false, allStopOwed := true, stallTimer := none, sending := none } :=
    VoicePort.ext_fields hqueue hcredit hattached howed (htimer.trans rfl) hsending
  obtain ⟨-, hpool', hport', hstore', hresponder', -, hreceivers', -, -⟩ :=
    State.raise_frame u (.detach s.port.queue.length s.pool.countFlushed)
  obtain ⟨hslot', hvoice', hbank'⟩ := State.raise_reads u (.detach s.port.queue.length s.pool.countFlushed)
  refine ⟨hreceivers'.trans hreceivers, hport'.trans huport, fun v => (hvoice' v).trans (hvoice v),
    (congrArg _ hpool').trans hage, (congrArg _ hpool').trans hrelease, (congrArg _ hpool').trans hrotation,
    fun i => (hslot' i).trans (hslot i), fun l => ?_, fun b hb => (hbank' b).trans (hother b hb),
    fun hlaws b hb => (hbank' b).trans (hdraining hlaws b hb), (congrArg _ hstore').trans hwork,
    hresponder'.trans hresponder⟩
  rw [State.raise_first, hnotices, Pool.countFlushed_eq]
  exact if_congr eq_comm rfl rfl

theorem Slot.afterFlush_sounding {x : Slot} (live : Option BankIx) (hp : x.phase = .sounding) :
    x.afterFlush live =
      { x.applyPending with phase := .quiet, rearm := true, layers := [], bank := live.or x.bank } := by
  simp only [Slot.afterFlush, hp]

theorem Slot.afterFlush_stalled {x : Slot} (live : Option BankIx) (hp : x.phase = .stalled) :
    x.afterFlush live = { x with phase := .quiet, rearm := true, bank := live.or x.bank } := by
  simp only [Slot.afterFlush, hp]

theorem Slot.afterFlush_other {x : Slot} (live : Option BankIx) (hs : x.phase ≠ .sounding) (hq : x.phase ≠ .stalled) :
    x.afterFlush live = x := by
  unfold Slot.afterFlush
  split
  next hp => exact absurd hp hs
  next hp => exact absurd hp hq
  · rfl

/-- Settles O39: readings without lock, and what the 256th symbol time without it brings. -/
theorem detachmentFlushes : Obligations.DetachmentFlushes := by
  unfold Obligations.DetachmentFlushes
  intro s x xs r same absent run waits
  have hrun : r.run x = run := r.run_eq x
  have habsent : r.absent x = absent := congrArg (r.lockless + ·) (r.elapsed_eq x)
  have hwaits : r.waits x = waits := by
    unfold Receiver.waits
    rw [hrun, habsent]
  have hr : s.receiver .voice = r := rfl
  have hsame : same = false ↔ x.alignment ≠ r.alignment := by simp [same]
  have hread {t : State} (h : State.hear .voice s x = t) : exec (.detachment [x]) s = .next t :=
    congrArg Host.Outcome.next h
  refine ⟨rfl, fun hl hk => ?_, fun hl hfew ha => ?_, fun a h hlen hxs => ?_, fun hl hfew ha hup => ?_⟩
  · exact hread (State.hear_loses (l := .voice) (s := s) hl (hk.imp_right hsame.mp))
  · exact hread ((State.hear_stays (l := .voice) (s := s) hl (hrun ▸ hfew) (ha.imp_left (habsent ▸ ·))).trans
      (by rw [hr, hwaits]; rfl))
  · exact ⟨_, rfl, State.hearAll_invalid h .voice hlen hxs⟩
  · have hdown := State.hear_goesDown (l := .voice) (s := s) hl (hrun ▸ hfew) (habsent ▸ ha) hup
    rw [hr, hwaits] at hdown
    obtain ⟨hreceivers, hport, hvoice, hage, hrelease, hrotation, hslot, hfirst, hother, hdrained, hwork, hresponder⟩ :=
      State.detach_spec (s := s.setReceiver .voice { waits with packet := .none }) hup
    refine ⟨_, hread hdown, hreceivers, hport, hvoice, hage, hrelease, hrotation, fun i => ⟨fun hp => ?_, fun hp => ?_,
      fun hs hq => ?_⟩, fun hclear => ?_, fun l hl10 => ?_, hother, hdrained, hwork, hresponder⟩
    · exact (hslot i).trans (Slot.afterFlush_sounding _ hp)
    · exact (hslot i).trans (Slot.afterFlush_stalled _ hp)
    · exact (hslot i).trans (Slot.afterFlush_other _ hs hq)
    · refine ((hfirst 10).trans (if_pos rfl)).trans ?_
      rw [show (s.setReceiver .voice { waits with packet := .none }).notices.latches[(10 : LatchIx)].first = none
        from hclear]
      rfl
    · exact (hfirst l).trans (if_neg hl10)

/-! ### Attachment (R136) -/

/-- An owed ALL_STOP where the queue has room (R136). -/
theorem State.placeAllStop_of_room {s : State} (h : s.port.queue.length < 64) :
    s.placeAllStop =
      { s with port := { s.port with queue := .allStop :: s.port.queue, allStopOwed := false } } := by
  have hroom : s.makeRoom = s := if_pos h
  have hhead : s.enqueueHead .allStop = s.setQueue (.allStop :: s.port.queue) := by
    unfold State.enqueueHead
    rw [hroom]
    exact if_pos h
  unfold State.placeAllStop
  rw [hhead]
  rfl

theorem State.connectedPlaced_of_owed {s : State} (h : s.port.allStopOwed = true) :
    s.connectedPlaced = s.connected.placeAllStop := if_pos h

theorem State.connectedPlaced_of_not_owed {s : State} (h : s.port.allStopOwed = false) :
    s.connectedPlaced = s.connected := if_neg (by simp [h])

/-- The same state with no ALL_STOP owed. -/
def State.paid (s : State) : State := { s with port := { s.port with allStopOwed := false } }

theorem State.paid_reads (s : State) :
    s.paid.notices = s.notices ∧ s.paid.collector = s.collector ∧ s.paid.responder = s.responder ∧
      s.paid.port.queue = s.port.queue := ⟨rfl, rfl, rfl, rfl⟩

theorem State.paid_raise (s : State) (c : Capture) : s.paid.raise c = (s.raise c).paid := by
  unfold State.raise
  simp only [State.paid_reads]
  (repeat' split) <;> rfl

theorem State.paid_makeRoom (s : State) : s.paid.makeRoom = s.makeRoom.paid := by
  have hnote (t : State) (r : VoiceRecord) : t.paid.noteEviction r = (t.noteEviction r).paid := by
    have howe : t.paid.oweRefresh r = (t.oweRefresh r).paid := by cases r <;> rfl
    unfold State.noteEviction
    split
    · rw [howe, State.paid_raise]
    · rfl
  unfold State.makeRoom
  simp only [State.paid_reads]
  split
  · rfl
  · split
    next r q _ => exact hnote (s.setQueue q) r
    · rfl

theorem State.paid_enqueueHead (s : State) (r : VoiceRecord) : s.paid.enqueueHead r = (s.enqueueHead r).paid := by
  simp only [State.enqueueHead, State.paid_makeRoom]
  generalize s.makeRoom = u
  by_cases hroom : u.port.queue.length < queueCapacity
  · rw [if_pos hroom]
    exact if_pos hroom
  · rw [if_neg hroom]
    exact if_neg hroom

theorem State.attach_of_owed {s : State} (h : s.port.attached = false) (howed : s.port.allStopOwed = true) :
    s.attach =
      ((s.connected.paid.enqueueHead .allStop).raise
        (.attach (s.connected.paid.enqueueHead .allStop).port.queue.length true)).settleStall := by
  rw [State.attach_of_detached h, State.connectedPlaced_of_owed howed, howed, State.paid_enqueueHead]
  rfl

theorem State.attach_of_owed_room {s : State} (h : s.port.attached = false) (howed : s.port.allStopOwed = true)
    (hroom : s.port.queue.length < 64) :
    s.attach =
      (State.raise { s.connected with
        port := { s.connected.port with allStopOwed := false, queue := .allStop :: s.port.queue } }
        (.attach (s.port.queue.length + 1) true)).settleStall := by
  rw [State.attach_of_detached h, State.connectedPlaced_of_owed howed, howed,
    State.placeAllStop_of_room (s := s.connected) hroom]
  rfl

theorem State.attach_of_not_owed {s : State} (h : s.port.attached = false) (howed : s.port.allStopOwed = false) :
    s.attach = (s.connected.raise (.attach s.port.queue.length false)).settleStall := by
  rw [State.attach_of_detached h, State.connectedPlaced_of_not_owed howed, howed]
  rfl

/-- A port whose link comes up right after it went down (R136, R137). -/
theorem State.attach_detach {s : State} (h : s.port.attached = true) :
    s.detach.attach.receivers = s.receivers ∧
      s.detach.attach.port =
        { queue := [.allStop], credit := 0, attached := true, allStopOwed := false
          stallTimer := some s.responder.engine.stallTime, sending := none } ∧
      s.detach.attach.notices.latches[(10 : LatchIx)].first.isSome = true ∧
      s.detach.attach.notices.latches[(11 : LatchIx)].first.isSome = true := by
  obtain ⟨hreceivers, hport, -, -, -, -, -, hfirst, -, -, -, hresponder⟩ := State.detach_spec h
  have hten : s.detach.notices.latches[(10 : LatchIx)].first.isSome = true := by
    rw [hfirst 10, if_pos rfl]
    cases s.notices.latches[(10 : LatchIx)].first <;> rfl
  generalize s.detach = u at *
  have hdown : u.port.attached = false := by rw [hport]
  have howed : u.port.allStopOwed = true := by rw [hport]
  have hroom : u.port.queue.length < 64 := by
    rw [hport]
    decide
  rw [State.attach_of_owed_room hdown howed hroom]
  generalize hw : State.raise { u.connected with
    port := { u.connected.port with allStopOwed := false, queue := .allStop :: u.port.queue } }
    (.attach (u.port.queue.length + 1) true) = w
  obtain ⟨-, -, hwport, -, hwresponder, -, hwreceivers, -, -⟩ := State.raise_frame { u.connected with
    port := { u.connected.port with allStopOwed := false, queue := .allStop :: u.port.queue } }
    (.attach (u.port.queue.length + 1) true)
  have hwfirst (l : LatchIx) := State.raise_first { u.connected with
    port := { u.connected.port with allStopOwed := false, queue := .allStop :: u.port.queue } }
    (.attach (u.port.queue.length + 1) true) l
  rw [hw] at hwport hwresponder hwreceivers
  simp only [hw] at hwfirst
  refine ⟨hwreceivers.trans hreceivers, ?_, ?_, ?_⟩
  · unfold State.settleStall
    simp only [hwport, State.connected, hport, hwresponder, hresponder]
    rfl
  · exact (congrArg Option.isSome ((hwfirst 10).trans (if_neg (fun h => absurd h (by simp [Capture.latch]))))).trans hten
  · refine (congrArg Option.isSome ((hwfirst 11).trans (if_pos rfl))).trans ?_
    cases u.connected.notices.latches[(11 : LatchIx)].first <;> rfl

/-- Settles O38. -/
theorem attachmentPlacesOwedAllStop : Obligations.AttachmentPlacesOwedAllStop := by
  unfold Obligations.AttachmentPlacesOwedAllStop
  refine ⟨?_, fun s => ?_⟩
  · intro s x xs ys r same absent run gains
    have hrun : r.run x = run := r.run_eq x
    have habsent : r.absent x = absent := congrArg (r.lockless + ·) (r.elapsed_eq x)
    have hread {t : State} (h : State.hear .voice s x = t) : exec (.attachment [x]) s = .next t :=
      congrArg Host.Outcome.next h
    have hsame : same = false ↔ x.alignment ≠ r.alignment := by simp [same]
    have hcomes (hl : r.locked = false) (hmany : run = 16) (hdown : s.port.attached = false) :
        exec (.attachment [x]) s = .next (s.setReceiver .voice (Receiver.gained x)).attach :=
      hread (State.hear_comesUp (l := .voice) (s := s) hl (hrun.trans hmany) hdown)
    refine ⟨rfl, fun t ht => ?_, fun hl hg hs => ?_, fun hl hmany hdown howed hroom => ?_, fun hl hmany hdown howed => ?_,
      fun hl hmany hdown howed => ?_, fun hl hmany hup ha hcut => ?_, fun hl hmany hup ha => ?_,
      fun a h hlen hxs => ⟨_, rfl, State.hearAll_valid h .voice hlen hxs⟩⟩
    · cases ht
      exact congrArg Host.Outcome.next (s.hearAll_append .voice xs ys)
    · exact hread (State.hear_inLock (l := .voice) (s := s) hl (Receiver.keepsLock_of hg (of_decide_eq_true hs)))
    · exact (hcomes hl hmany hdown).trans (congrArg _ (State.attach_of_owed_room hdown howed hroom))
    · exact (hcomes hl hmany hdown).trans (congrArg _ (State.attach_of_owed hdown howed))
    · exact (hcomes hl hmany hdown).trans (congrArg _ (State.attach_of_not_owed hdown howed))
    · refine hread ((State.hear_regains (l := .voice) (s := s) hl (hrun.trans hmany) (habsent ▸ ha) hup).trans ?_)
      rw [show s.receiver .voice = r from rfl, decide_eq_false hcut]
      rfl
    · obtain ⟨h1, h2, h3, h4⟩ := State.attach_detach (s := s.setReceiver .voice (Receiver.gained x)) hup
      exact ⟨_, hread (State.hear_returns (l := .voice) (s := s) hl (hrun.trans hmany) (habsent ▸ ha) hup), h1, h2, h3, h4⟩
  · intro started
    have hcond : s.port.stalled = true ↔ s.port.attached = true ∧ s.port.queue ≠ [] ∧ s.port.credit = 0 := by
      simp [VoicePort.stalled, and_assoc]
    unfold State.settleStall
    simp only [hcond]
    rfl

end Sys2Proof.Machine

/-! The emission queue (R125 to R129), the release of voices (R114, R115), and the routing of packets (R3, R14). -/

namespace Sys2Proof.Machine

open Sys2Proof

/-! ### Routing (R3) -/

theorem State.route_eq_none {s : State} {t : Half} :
    s.route t = none ↔ ∀ i : SlotIx, (s.slot i).phase ≠ .unbound → (s.slot i).tag ≠ some t := by
  simp [State.route, List.find?_eq_none]

theorem State.route_bound {s : State} {t : Half} {i : SlotIx} (h : s.route t = some i) :
    (s.slot i).phase ≠ .unbound ∧ (s.slot i).tag = some t := by
  simpa using List.find?_some h

/-- A packet goes to the one bound slot that holds its tag (R3). -/
theorem State.route_eq_some {s : State} (h : s.TagsDistinct) {t : Half} {i : SlotIx} :
    s.route t = some i ↔ (s.slot i).phase ≠ .unbound ∧ (s.slot i).tag = some t := by
  refine ⟨State.route_bound, fun ⟨hbound, htag⟩ => ?_⟩
  cases hr : s.route t with
  | none => exact absurd htag (State.route_eq_none.mp hr i hbound)
  | some j =>
    have hj := (State.route_bound hr).2
    exact congrArg some (h j i (hj.trans htag.symm) (by simp [hj]))

theorem exec_sense_of_received {s : State} {fields : List Byte} {p : Sense} (h : s.receives .collector = true)
    (hread : readSense fields = some p) :
    exec (.sense fields) s = .next
      (match s.route p.tag with
        | none => s.raise (.stray p.tag)
        | some i => s.takePacket i p) := by
  refine congrArg Host.Outcome.next ((if_pos h).trans ?_)
  unfold State.deliverSense
  rw [hread] <;> rfl

theorem State.takePacket_of_stale {s : State} {i : SlotIx} {p : Sense} {e : Byte} (habsent : (s.slot i).phase ≠ .absent)
    (he : (s.slot i).expectedSeq = some e) (hstale : 128 ≤ (p.sequence - e).toNat) :
    s.takePacket i p = s.raise (.stale i e p.sequence) := by
  have hd : distance8 e p.sequence = (p.sequence - e).toNat := rfl
  unfold State.takePacket
  simp only [he, Option.getD_some, hd]
  rw [if_neg habsent, if_neg (by omega), if_neg (by omega)]

/-- Settles O41. -/
theorem strayAndStalePacketsAreDiscarded : Obligations.StrayAndStalePacketsAreDiscarded := by
  unfold Obligations.StrayAndStalePacketsAreDiscarded
  intro s fields p hread
  refine ⟨fun h hstray => ?_, fun i e h htags hheard htag he hstale => ?_, fun htags i => State.route_eq_some htags,
    fun h => congrArg Host.Outcome.next (if_neg (by simp [h]))⟩
  · rw [exec_sense_of_received h hread, State.route_eq_none.mpr hstray]
  · have hbound : (s.slot i).phase ≠ .unbound := by rcases hheard with hp | hp | hp <;> simp [hp]
    have habsent : (s.slot i).phase ≠ .absent := by rcases hheard with hp | hp | hp <;> simp [hp]
    rw [exec_sense_of_received h hread, (State.route_eq_some htags).mpr ⟨hbound, htag⟩]
    exact congrArg _ (State.takePacket_of_stale habsent he hstale)

/-! ### Merging (R126) -/

/-- A map that changes one record alone. -/
theorem map_at {f : VoiceRecord → VoiceRecord} {a c : List VoiceRecord} (x : VoiceRecord)
    (h : ∀ y ∈ a ++ c, f y = y) : (a ++ x :: c).map f = a ++ f x :: c := by
  have hid (l : List VoiceRecord) (hl : ∀ y ∈ l, f y = y) : l.map f = l :=
    (List.map_congr_left hl).trans l.map_id
  rw [List.map_append, List.map_cons, hid a fun y hy => h y (List.mem_append_left c hy),
    hid c fun y hy => h y (List.mem_append_right a hy)]

section
variable {v : VoiceIx} {g : Byte} {n ch pg pc vel lv : Nat} {a c q : List VoiceRecord}

theorem isFor_iff (r : VoiceRecord) : r.isFor v g = true ↔ r.key = some (v, g) := by simp [VoiceRecord.isFor]

/-- No record but the one at its place has a property. -/
theorem any_at {p : VoiceRecord → Bool} {x : VoiceRecord} (h : ∀ y ∈ a ++ c, p y = false) :
    (a ++ x :: c).any p = p x := by
  have ha : a.any p = false := List.any_eq_false.mpr fun y hy => by simp [h y (List.mem_append_left c hy)]
  have hc : c.any p = false := List.any_eq_false.mpr fun y hy => by simp [h y (List.mem_append_right a hy)]
  rw [List.any_append, List.any_cons, ha, hc]
  simp

theorem mergeLevel_start (h : ∀ y ∈ a ++ c, (y.isStart && y.isFor v g) = false) :
    mergeLevel v g n (a ++ .start v g ch pg pc vel lv :: c) = some (a ++ .start v g ch pg pc vel n :: c) := by
  unfold mergeLevel
  rw [if_pos (by rw [any_at h]; simp [VoiceRecord.isStart, VoiceRecord.isFor, VoiceRecord.key])]
  rw [map_at]
  · simp
  · intro y hy
    have := h y hy
    cases y <;> simp_all [VoiceRecord.isStart, VoiceRecord.isFor, VoiceRecord.key]

theorem mergeRetune_start (h : ∀ y ∈ a ++ c, (y.isStart && y.isFor v g) = false) :
    mergeRetune v g n (a ++ .start v g ch pg pc vel lv :: c) = some (a ++ .start v g ch pg n vel lv :: c) := by
  unfold mergeRetune
  rw [if_pos (by rw [any_at h]; simp [VoiceRecord.isStart, VoiceRecord.isFor, VoiceRecord.key])]
  rw [map_at]
  · simp
  · intro y hy
    have := h y hy
    cases y <;> simp_all [VoiceRecord.isStart, VoiceRecord.isFor, VoiceRecord.key]

/-- A record that is neither of two kinds for a voice. -/
theorem neither_iff {x y z : Bool} : ((x || y) && z) = false ↔ (x && z) = false ∧ (y && z) = false := by
  rw [Bool.and_or_distrib_right, Bool.or_eq_false_iff]

theorem mergeLevel_level (h : ∀ y ∈ a ++ c, ((y.isStart || y.isLevel) && y.isFor v g) = false) :
    mergeLevel v g n (a ++ .level v g lv :: c) = some (a ++ .level v g n :: c) := by
  have hlevel : ∀ y ∈ a ++ c, (y.isLevel && y.isFor v g) = false := fun y hy => (neither_iff.mp (h y hy)).2
  unfold mergeLevel
  rw [if_neg (by rw [any_at fun y hy => (neither_iff.mp (h y hy)).1]; simp [VoiceRecord.isStart]),
    if_pos (by rw [any_at hlevel]; simp [VoiceRecord.isLevel, VoiceRecord.isFor, VoiceRecord.key]), map_at]
  · simp [VoiceRecord.isLevel, VoiceRecord.isFor, VoiceRecord.key]
  · exact fun y hy => if_neg (by simp [hlevel y hy])

theorem mergeRetune_retune (h : ∀ y ∈ a ++ c, ((y.isStart || y.isRetune) && y.isFor v g) = false) :
    mergeRetune v g n (a ++ .retune v g pc :: c) = some (a ++ .retune v g n :: c) := by
  have hretune : ∀ y ∈ a ++ c, (y.isRetune && y.isFor v g) = false := fun y hy => (neither_iff.mp (h y hy)).2
  unfold mergeRetune
  rw [if_neg (by rw [any_at fun y hy => (neither_iff.mp (h y hy)).1]; simp [VoiceRecord.isStart]),
    if_pos (by rw [any_at hretune]; simp [VoiceRecord.isRetune, VoiceRecord.isFor, VoiceRecord.key]), map_at]
  · simp [VoiceRecord.isRetune, VoiceRecord.isFor, VoiceRecord.key]
  · exact fun y hy => if_neg (by simp [hretune y hy])

theorem any_eq_false_iff {p : VoiceRecord → Bool} : q.any p = false ↔ ∀ y ∈ q, p y = false := by
  simp [List.any_eq_false]

/-- A LEVEL joins the tail exactly when its voice has neither a START nor a LEVEL of its generation queued. -/
theorem mergeLevel_eq_none :
    mergeLevel v g n q = none ↔ ∀ y ∈ q, ((y.isStart || y.isLevel) && y.isFor v g) = false := by
  have hboth : (∀ y ∈ q, ((y.isStart || y.isLevel) && y.isFor v g) = false) ↔
      (q.any fun r => r.isStart && r.isFor v g) = false ∧ (q.any fun r => r.isLevel && r.isFor v g) = false := by
    rw [any_eq_false_iff, any_eq_false_iff]
    exact ⟨fun h => ⟨fun y hy => (neither_iff.mp (h y hy)).1, fun y hy => (neither_iff.mp (h y hy)).2⟩,
      fun h y hy => neither_iff.mpr ⟨h.1 y hy, h.2 y hy⟩⟩
  rw [hboth]
  unfold mergeLevel
  split
  next hs => simp [hs]
  next hs =>
    split
    next hl => simp [hl]
    next hl => simp [hs, hl]

/-- A RETUNE joins the tail exactly when its voice has neither a START nor a RETUNE of its generation queued. -/
theorem mergeRetune_eq_none :
    mergeRetune v g n q = none ↔ ∀ y ∈ q, ((y.isStart || y.isRetune) && y.isFor v g) = false := by
  have hboth : (∀ y ∈ q, ((y.isStart || y.isRetune) && y.isFor v g) = false) ↔
      (q.any fun r => r.isStart && r.isFor v g) = false ∧ (q.any fun r => r.isRetune && r.isFor v g) = false := by
    rw [any_eq_false_iff, any_eq_false_iff]
    exact ⟨fun h => ⟨fun y hy => (neither_iff.mp (h y hy)).1, fun y hy => (neither_iff.mp (h y hy)).2⟩,
      fun h y hy => neither_iff.mpr ⟨h.1 y hy, h.2 y hy⟩⟩
  rw [hboth]
  unfold mergeRetune
  split
  next hs => simp [hs]
  next hs =>
    split
    next hl => simp [hl]
    next hl => simp [hs, hl]

end

/-! ### Offered records (R126) -/

section
variable {s : State} {v : VoiceIx} {n : Nat} {q : List VoiceRecord}

theorem State.offerLevel_of_merge (h : mergeLevel v (s.voice v).generation n s.port.queue = some q) :
    s.offerLevel v n = ((s.setQueue q).setVoice v { s.voice v with lastLevel := n }).settleStall := by
  unfold State.offerLevel
  dsimp only
  rw [h] <;> rfl

theorem State.offerRetune_of_merge (h : mergeRetune v (s.voice v).generation n s.port.queue = some q) :
    s.offerRetune v n = ((s.setQueue q).setVoice v { s.voice v with lastPitch := n }).settleStall := by
  unfold State.offerRetune
  dsimp only
  rw [h] <;> rfl

theorem State.offerLevel_of_none (h : mergeLevel v (s.voice v).generation n s.port.queue = none) :
    s.offerLevel v n =
      ((s.enqueue (.level v (s.voice v).generation n)).setVoice v
        { (s.enqueue (.level v (s.voice v).generation n)).voice v with lastLevel := n }).settleStall := by
  unfold State.offerLevel
  dsimp only
  rw [h] <;> rfl

theorem State.offerRetune_of_none (h : mergeRetune v (s.voice v).generation n s.port.queue = none) :
    s.offerRetune v n =
      ((s.enqueue (.retune v (s.voice v).generation n)).setVoice v
        { (s.enqueue (.retune v (s.voice v).generation n)).voice v with lastPitch := n }).settleStall := by
  unfold State.offerRetune
  dsimp only
  rw [h] <;> rfl

/-- Where no eviction is needed an offered LEVEL moves the queue, the voice's last level and the stall timer alone. -/
theorem State.offerLevel_of_room
    (h : s.port.queue.length < 64 ∨
      ∃ y ∈ s.port.queue, ((y.isStart || y.isLevel) && y.isFor v (s.voice v).generation) = true) :
    s.offerLevel v n =
      ((s.setQueue (s.offerLevel v n).port.queue).setVoice v { s.voice v with lastLevel := n }).settleStall := by
  cases hm : mergeLevel v (s.voice v).generation n s.port.queue with
  | some q =>
    rw [State.offerLevel_of_merge hm]
    rfl
  | none =>
    have hroom : s.port.queue.length < 64 := h.resolve_right fun ⟨y, hy, hyes⟩ => by
      rw [mergeLevel_eq_none.mp hm y hy] at hyes
      cases hyes
    rw [State.offerLevel_of_none hm, State.enqueue_of_room _ _ hroom]
    rfl

theorem State.offerRetune_of_room
    (h : s.port.queue.length < 64 ∨
      ∃ y ∈ s.port.queue, ((y.isStart || y.isRetune) && y.isFor v (s.voice v).generation) = true) :
    s.offerRetune v n =
      ((s.setQueue (s.offerRetune v n).port.queue).setVoice v { s.voice v with lastPitch := n }).settleStall := by
  cases hm : mergeRetune v (s.voice v).generation n s.port.queue with
  | some q =>
    rw [State.offerRetune_of_merge hm]
    rfl
  | none =>
    have hroom : s.port.queue.length < 64 := h.resolve_right fun ⟨y, hy, hyes⟩ => by
      rw [mergeRetune_eq_none.mp hm y hy] at hyes
      cases hyes
    rw [State.offerRetune_of_none hm, State.enqueue_of_room _ _ hroom]
    rfl

end

/-! ### Room for one more (R129) -/

/-- A queue in which an append finds room once an eviction has been made. -/
theorem State.enqueue_of_madeRoom {s : State} {r : VoiceRecord} (h : s.makeRoom.port.queue.length < 64) :
    s.enqueue r = s.makeRoom.setQueue (s.makeRoom.port.queue ++ [r]) ∧
      s.enqueueHead r = s.makeRoom.setQueue (r :: s.makeRoom.port.queue) := ⟨if_pos h, if_pos h⟩

theorem State.makeRoom_of_evicted {s : State} (hfull : 64 ≤ s.port.queue.length) {r : VoiceRecord}
    {q : List VoiceRecord} (h : evictFrom s.port.queue = some (r, q)) : s.makeRoom = (s.setQueue q).noteEviction r := by
  unfold State.makeRoom
  refine (if_neg (Nat.not_lt.mpr hfull)).trans ?_
  rw [h]

/-- A full queue of records that are never evicted (R128, log 12). -/
theorem State.makeRoom_of_stuck {s : State} {r : VoiceRecord} (hfull : 64 ≤ s.port.queue.length)
    (h : ∀ y ∈ s.port.queue, y.isUpdate = false) : s.makeRoom = s ∧ s.enqueue r = s ∧ s.enqueueHead r = s := by
  have hroom : s.makeRoom = s := by
    unfold State.makeRoom
    refine (if_neg (Nat.not_lt.mpr hfull)).trans ?_
    rw [evictFrom_eq_none.mpr h]
  have hno : ¬s.makeRoom.port.queue.length < queueCapacity := by
    rw [hroom]
    exact Nat.not_lt.mpr hfull
  exact ⟨hroom, (if_neg hno).trans hroom, (if_neg hno).trans hroom⟩

/-- What an append to a full queue leaves, once it has evicted a record for a voice. -/
theorem State.enqueue_of_evicted {s : State} {r : VoiceRecord} {q : List VoiceRecord} {v : VoiceIx} {x : Voice}
    {kind : Bool} (hroom : s.makeRoom = ((s.setQueue q).setVoice v x).raise (.evict v kind)) (hq : q.length < 64) :
    (s.enqueue r).port.queue = q ++ [r] ∧ (s.enqueue r).voice v = x ∧
      (s.enqueue r).notices.latches[(8 : LatchIx)].first.isSome = true ∧
      (s.notices.latches[(8 : LatchIx)].first = none →
        (s.enqueue r).notices.latches[(8 : LatchIx)].first = some (.evict v kind)) ∧
      (s.enqueue r).notices = (s.raise (.evict v kind)).notices := by
  have hqueue : s.makeRoom.port.queue = q := by rw [hroom]; simp
  have hnotices : (s.enqueue r).notices = (s.raise (.evict v kind)).notices := by
    rw [(State.enqueue_of_madeRoom (by rw [hqueue]; exact hq)).1, hroom]
    exact State.raise_notices_congr (s := s) (t := (s.setQueue q).setVoice v x) rfl rfl _
  have hfirst : (s.enqueue r).notices.latches[(8 : LatchIx)].first =
      s.notices.latches[(8 : LatchIx)].first.or (some (.evict v kind)) := by
    rw [hnotices]
    exact (s.raise_first (.evict v kind) 8).trans (if_pos rfl)
  refine ⟨?_, ?_, ?_, fun hclear => ?_, hnotices⟩
  · rw [(State.enqueue_of_madeRoom (by rw [hqueue]; exact hq)).1, hqueue]
    rfl
  · rw [(State.enqueue_of_madeRoom (by rw [hqueue]; exact hq)).1, hroom]
    simp
  · rw [hfirst]
    cases s.notices.latches[(8 : LatchIx)].first <;> rfl
  · rw [hfirst, hclear]
    rfl

/-- Settles O54. -/
theorem queueTakesRecords : Obligations.QueueTakesRecords := by
  unfold Obligations.QueueTakesRecords
  intro s v a c n ch pg pc vel lv r g
  refine ⟨fun hq hother => ⟨?_, ?_⟩, fun hq hother => ?_, fun hq hother => ?_, fun hother hroom => ?_,
    fun hother hroom => ?_, ?_, ?_, fun h => State.offerLevel_of_room h, fun h => State.offerRetune_of_room h,
    fun hother => State.offerLevel_of_none (mergeLevel_eq_none.mpr hother),
    fun hother => State.offerRetune_of_none (mergeRetune_eq_none.mpr hother), fun hroom => if_pos hroom,
    fun hroom => State.enqueue_of_madeRoom hroom, fun hfull h => State.makeRoom_of_stuck hfull h,
    fun h hq hfull hnone => ?_, fun h hq hfull hnone hfirst => ?_⟩
  · rw [State.offerLevel_of_merge (by rw [hq]; exact mergeLevel_start hother)]
    rfl
  · rw [State.offerRetune_of_merge (by rw [hq]; exact mergeRetune_start hother)]
    rfl
  · rw [State.offerLevel_of_merge (by rw [hq]; exact mergeLevel_level hother)]
    rfl
  · rw [State.offerRetune_of_merge (by rw [hq]; exact mergeRetune_retune hother)]
    rfl
  · rw [State.offerLevel_of_none (mergeLevel_eq_none.mpr hother), State.enqueue_of_room _ _ hroom]
    rfl
  · rw [State.offerRetune_of_none (mergeRetune_eq_none.mpr hother), State.enqueue_of_room _ _ hroom]
    rfl
  · unfold State.offerLevel
    simp
  · unfold State.offerRetune
    simp
  · have hevict : evictFrom s.port.queue = some (.level v h lv, a ++ c) := by
      unfold evictFrom
      rw [takeFirst_eq_some.mpr ⟨a, c, hq, rfl, rfl, hnone⟩]
      rfl
    have hroom : s.makeRoom =
        ((s.setQueue (a ++ c)).setVoice v { s.voice v with levelOwed := true }).raise (.evict v false) :=
      State.makeRoom_of_evicted hfull.ge hevict
    have hlen : (a ++ c).length < 64 := by
      rw [hq] at hfull
      simp at hfull ⊢
      omega
    exact ⟨hroom, State.enqueue_of_evicted hroom hlen⟩
  · have hevict : evictFrom s.port.queue = some (.retune v h pc, a ++ c) := by
      have hlevels : takeFirst VoiceRecord.isLevel s.port.queue = none := takeFirst_eq_none.mpr fun y hy => by
        rw [hq] at hy
        rcases List.mem_append.mp hy with hy | hy
        · exact hnone y (List.mem_append_left c hy)
        · rcases List.mem_cons.mp hy with rfl | hy
          · rfl
          · exact hnone y (List.mem_append_right a hy)
      unfold evictFrom
      rw [hlevels, takeFirst_eq_some.mpr ⟨a, c, hq, rfl, rfl, hfirst⟩]
      rfl
    have hroom : s.makeRoom =
        ((s.setQueue (a ++ c)).setVoice v { s.voice v with pitchOwed := true }).raise (.evict v true) :=
      State.makeRoom_of_evicted hfull.ge hevict
    have hlen : (a ++ c).length < 64 := by
      rw [hq] at hfull
      simp at hfull ⊢
      omega
    exact ⟨hroom, State.enqueue_of_evicted hroom hlen⟩

end Sys2Proof.Machine

/-! Releases and allocations (R108 to R115). -/

namespace Sys2Proof.Machine

open Sys2Proof

/-! ### What an append leaves of the pool and the port (R125, R129) -/

/-- A voice stands as another but for the refreshes it owes. -/
def Voice.OwesAlike (x y : Voice) : Prop := ∃ p l, x = { y with pitchOwed := p, levelOwed := l }

theorem Voice.OwesAlike.refl (x : Voice) : x.OwesAlike x := ⟨_, _, rfl⟩

theorem Voice.OwesAlike.trans {x y z : Voice} (h : x.OwesAlike y) (k : y.OwesAlike z) : x.OwesAlike z := by
  obtain ⟨p, l, rfl⟩ := h
  obtain ⟨p', l', rfl⟩ := k
  exact ⟨p, l, rfl⟩

/-- From s to t nothing of the pool moves but the refreshes owed, and nothing of the port but the queue. -/
structure State.Requeues (s t : State) : Prop where
  voice : ∀ v : VoiceIx, (t.voice v).OwesAlike (s.voice v)
  ageList : t.pool.ageList = s.pool.ageList
  releaseList : t.pool.releaseList = s.pool.releaseList
  rotation : t.pool.rotation = s.pool.rotation
  port : t.port = { s.port with queue := t.port.queue }

namespace State.Requeues

variable {s t u : State}

theorem ports (h : s.Requeues t) :
    t.port.credit = s.port.credit ∧ t.port.attached = s.port.attached ∧ t.port.allStopOwed = s.port.allStopOwed ∧
      t.port.sending = s.port.sending := by
  rw [h.port]
  exact ⟨rfl, rfl, rfl, rfl⟩

theorem refl (s : State) : s.Requeues s := ⟨fun _ => .refl _, rfl, rfl, rfl, rfl⟩

theorem trans (h : s.Requeues t) (k : t.Requeues u) : s.Requeues u :=
  ⟨fun v => (k.voice v).trans (h.voice v), k.ageList.trans h.ageList, k.releaseList.trans h.releaseList,
    k.rotation.trans h.rotation, by rw [k.port, h.port]⟩

theorem of_same (hpool : t.pool = s.pool) (hport : t.port = s.port) : s.Requeues t :=
  ⟨fun v => ⟨(s.voice v).pitchOwed, (s.voice v).levelOwed, by unfold State.voice; rw [hpool]⟩, by rw [hpool], by rw [hpool],
    by rw [hpool], by rw [hport]⟩

theorem setQueue (s : State) (q : List VoiceRecord) : s.Requeues (s.setQueue q) :=
  ⟨fun _ => .refl _, rfl, rfl, rfl, rfl⟩

theorem oweRefresh (s : State) (r : VoiceRecord) : s.Requeues (s.oweRefresh r) := by
  have hone (v : VoiceIx) (f : Voice → Voice) (hf : ∀ x, (f x).OwesAlike x) : s.Requeues (s.modVoice v f) := by
    refine ⟨fun w => ?_, rfl, rfl, rfl, rfl⟩
    rw [State.voice_modVoice]
    split
    next h => subst h; exact hf _
    · exact .refl _
  cases r with
  | level v g l => exact hone v _ fun x => ⟨x.pitchOwed, true, rfl⟩
  | retune v g p => exact hone v _ fun x => ⟨true, x.levelOwed, rfl⟩
  | _ => exact .refl s

theorem noteEviction (s : State) (r : VoiceRecord) : s.Requeues (s.noteEviction r) := by
  unfold State.noteEviction
  split
  · exact (oweRefresh s r).trans (of_same (by simp) (by simp))
  · exact .refl s

theorem makeRoom (s : State) : s.Requeues s.makeRoom := by
  rcases s.makeRoom_cases with ⟨-, h⟩ | ⟨-, ⟨-, h⟩ | ⟨r, q, -, h⟩⟩ <;> rw [h]
  · exact .refl s
  · exact .refl s
  · exact (setQueue s q).trans (noteEviction _ r)

theorem enqueue (s : State) (r : VoiceRecord) : s.Requeues (s.enqueue r) := by
  unfold State.enqueue
  dsimp only
  split
  · exact (makeRoom s).trans (setQueue _ _)
  · exact makeRoom s

end State.Requeues

/-! ### Releases (R114, R115) -/

section
variable {s : State} {v : VoiceIx} {k : StopKind}

/-- A voice that is FREE with nothing downstream. -/
def Voice.cancelled (x : Voice) : Voice :=
  { x with phase := .free, owner := none, dn := .none, pitchOwed := false, levelOwed := false }

/-- A voice that is RELEASING under a release timeout. -/
def Voice.stopped (x : Voice) (timeout : Nat) : Voice :=
  { x with
    phase := .releasing, owner := none, pitchOwed := false, levelOwed := false, releaseTimer := some timeout }

theorem State.releaseVoice_of_pending (h : (s.voice v).dn = .pending) :
    s.releaseVoice v k =
      (((s.setQueue (cancelStart v (s.voice v).generation s.port.queue)).setAgeList
        (s.pool.ageList.erase v)).setVoice v (s.voice v).cancelled).settleStall := by
  rcases s.releaseVoice_cases v k with ⟨-, h⟩ | ⟨hdn, -⟩ | ⟨hno, -, -⟩
  · exact h
  · rw [h] at hdn
    cases hdn
  · exact absurd h hno

/-- A voice is written over whatever refreshes it owed. -/
theorem Voice.OwesAlike.stopped {x y : Voice} (h : x.OwesAlike y) (n : Nat) : x.stopped n = y.stopped n := by
  obtain ⟨p, l, rfl⟩ := h
  rfl

theorem State.releaseVoice_of_opened (h : (s.voice v).dn = .opened) :
    s.releaseVoice v k =
      (((((s.setQueue (removeUpdates v (s.voice v).generation s.port.queue)).enqueue
        (.stop v (s.voice v).generation k)).setAgeList (s.pool.ageList.erase v)).setReleaseList
          (s.pool.releaseList ++ [v])).setVoice v
            ((s.voice v).stopped s.responder.engine.releaseTimeout)).settleStall := by
  have hrelease : s.releaseVoice v k = s.stopVoice v k := by
    rcases s.releaseVoice_cases v k with ⟨hdn, -⟩ | ⟨-, h⟩ | ⟨-, hno, -⟩
    · rw [h] at hdn
      cases hdn
    · exact h
    · exact absurd h hno
  rw [hrelease]
  unfold State.stopVoice
  dsimp only
  have hq := (State.Requeues.setQueue s (removeUpdates v (s.voice v).generation s.port.queue)).trans
    (.enqueue _ (.stop v (s.voice v).generation k))
  generalize (s.setQueue (removeUpdates v (s.voice v).generation s.port.queue)).enqueue
    (.stop v (s.voice v).generation k) = u at hq ⊢
  rw [hq.ageList, ← (hq.voice v).stopped]
  show State.settleStall (State.modVoice (State.setReleaseList _ (u.pool.releaseList ++ [v])) v _) = _
  rw [hq.releaseList]
  rfl

theorem State.releaseVoice_of_other (hp : (s.voice v).dn ≠ .pending) (ho : (s.voice v).dn ≠ .opened) :
    s.releaseVoice v k = s := by
  rcases s.releaseVoice_cases v k with ⟨h, -⟩ | ⟨h, -⟩ | ⟨-, -, h⟩
  · exact absurd h hp
  · exact absurd h ho
  · exact h

/-- Where a STOP finds room, by the updates it removes or without them. -/
theorem removeUpdates_length {q : List VoiceRecord} {g : Byte}
    (h : q.length < 64 ∨ ∃ r ∈ q, r.isUpdate = true ∧ r.key = some (v, g)) (hle : q.length ≤ 64) :
    (removeUpdates v g q).length < 64 := by
  rcases h with h | ⟨r, hr, hup, hkey⟩
  · exact (removals_sublist v g q).2.1.length_le.trans_lt h
  · refine lt_of_lt_of_le (List.length_filter_lt_length_iff_exists.mpr ⟨r, hr, ?_⟩) hle
    simp [hup, VoiceRecord.isFor, hkey]

/-- What a release leaves as it was. -/
theorem State.releaseVoice_ports :
    (s.releaseVoice v k).pool.rotation = s.pool.rotation ∧ (s.releaseVoice v k).port.credit = s.port.credit ∧
      (s.releaseVoice v k).port.attached = s.port.attached ∧
      (s.releaseVoice v k).port.allStopOwed = s.port.allStopOwed ∧
      (s.releaseVoice v k).port.sending = s.port.sending := by
  by_cases hp : (s.voice v).dn = .pending
  · rw [State.releaseVoice_of_pending hp]
    exact ⟨rfl, rfl, rfl, rfl, rfl⟩
  · by_cases ho : (s.voice v).dn = .opened
    · have hq := (State.Requeues.setQueue s (removeUpdates v (s.voice v).generation s.port.queue)).trans
        (.enqueue _ (.stop v (s.voice v).generation k))
      rw [State.releaseVoice_of_opened ho]
      generalize (s.setQueue (removeUpdates v (s.voice v).generation s.port.queue)).enqueue
        (.stop v (s.voice v).generation k) = u at hq ⊢
      exact ⟨hq.rotation, hq.ports⟩
    · rw [State.releaseVoice_of_other hp ho]
      exact ⟨rfl, rfl, rfl, rfl, rfl⟩

end

/-- Settles O53. -/
theorem releaseTakesItsCourse : Obligations.ReleaseTakesItsCourse := by
  unfold Obligations.ReleaseTakesItsCourse
  refine ⟨fun s v k => ?_, fun s v k es => ⟨rfl, rfl, rfl⟩⟩
  intro x t
  have ht : t = s.releaseVoice v k := rfl
  obtain ⟨hslots, hstore, hresponder, hfree, hreceivers, -, -⟩ := s.releaseVoice_frame v k
  obtain ⟨hrotation, hcredit, hattached, howed, hsending⟩ := State.releaseVoice_ports (s := s) (v := v) (k := k)
  refine ⟨fun hp => ?_, fun ho => State.releaseVoice_of_opened ho, fun ho hroom hle => ?_, hslots, hstore, hresponder,
    hreceivers, hrotation, hcredit, hattached, howed, hsending, hfree⟩
  · rw [ht, State.releaseVoice_of_pending hp]
    refine ⟨rfl, rfl, ?_, rfl, rfl, fun w hw => ?_, rfl⟩
    · simp [Voice.cancelled, x]
    · simp [State.voice_setVoice, hw.symm]
  · rw [ht, State.releaseVoice_of_opened ho, State.enqueue_of_room _ _ (by exact removeUpdates_length hroom hle)]
    refine ⟨rfl, ?_, rfl, rfl, fun w hw => ?_, rfl⟩
    · simp [Voice.stopped, x]
    · simp [State.voice_setVoice, hw.symm]

/-! ### Taking a voice from its former use (R112) -/

/-- A voice is cut: its records of the dn generation leave the queue and a CUT is appended (R112). -/
theorem State.cutFormer_eq {s t : State} {v : VoiceIx} {x : Voice} (hx : (t.voice v).dnGeneration = x.dnGeneration)
    (hq : t.port.queue = s.port.queue) :
    t.cutFormer v =
      (t.setQueue (s.port.queue.filter fun r => !(r.key == some (v, x.dnGeneration)))).enqueue
        (.stop v x.dnGeneration .cut) := by
  unfold State.cutFormer
  dsimp only
  rw [hx, hq]
  rfl

/-- A voice that was stolen from its slot (R93, R112). -/
def State.robbed (s : State) (v : VoiceIx) (o : Owner) : State :=
  ((s.setAgeList (s.pool.ageList.erase v)).setSlot o.slot (dropVoice v (s.slot o.slot))).setVoice v
    { s.voice v with owner := none }

/-- What a stolen voice's note comes to (R112): cancelled while PENDING, cut while OPEN. -/
def State.silenced (s : State) (v : VoiceIx) (o : Owner) : State :=
  if (s.voice v).dn = .opened then (s.robbed v o).cutFormer v
  else if (s.voice v).dn = .pending then
    (s.robbed v o).setQueue (cancelStart v (s.voice v).generation s.port.queue)
  else s.robbed v o

theorem State.steal_of_owner {s : State} {v : VoiceIx} {i : SlotIx} {o : Owner} (h : (s.voice v).owner = some o) :
    s.steal v i =
      if s.responder.engine.stealMode = .rotating then
        ((s.silenced v o).raise (.steal v o.slot i)).setRotation o.slot
      else (s.silenced v o).raise (.steal v o.slot i) := by
  have hrobbed : ((s.setAgeList (s.pool.ageList.erase v)).modSlot o.slot (dropVoice v)).modVoice v
      (fun x => { x with owner := none }) = s.robbed v o := rfl
  unfold State.steal State.silenced
  rw [h]
  dsimp only
  rw [hrobbed]
  cases (s.voice v).dn <;> rfl

end Sys2Proof.Machine

/-! The search of an allocation, class by class (R108, R109). -/

namespace Sys2Proof.Machine

open Sys2Proof

/-! ### First elements -/

theorem find?_finRange_iff {n : Nat} {p : Fin n → Bool} {v : Fin n} :
    (List.finRange n).find? p = some v ↔ p v = true ∧ ∀ w, w < v → p w = false := by
  constructor
  · intro h
    refine ⟨List.find?_some h, fun w hw => ?_⟩
    obtain ⟨-, a, c, hsplit, ha⟩ := List.find?_eq_some_iff_append.mp h
    have hsorted : (a ++ v :: c).Pairwise (· < ·) := hsplit ▸ List.pairwise_lt_finRange n
    have hmem : w ∈ a ++ v :: c := hsplit ▸ List.mem_finRange w
    rcases List.mem_append.mp hmem with hwa | hwc
    · simpa using ha w hwa
    · rcases List.mem_cons.mp hwc with rfl | hwc
      · exact absurd hw (lt_irrefl w)
      · have hvw := (List.pairwise_cons.mp (List.pairwise_append.mp hsorted).2.1).1 w hwc
        exact absurd (hw.trans hvw) (lt_irrefl w)
  · exact fun ⟨hv, hfirst⟩ => find?_finRange_of_first hv hfirst

/-- What the head of a filtered list stands ahead of. -/
theorem not_mem_filter_of_ahead {p : VoiceIx → Bool} {l a c : List VoiceIx} {v : VoiceIx} (hnodup : l.Nodup)
    (hl : l = a ++ v :: c) (h : (l.filter p).head? = some v) : ∀ w ∈ a, w ∉ l.filter p := by
  subst hl
  intro w hw hmem
  rw [List.head?_filter, List.find?_append] at h
  cases ha : a.find? p with
  | none => exact List.find?_eq_none.mp ha w hw (List.mem_filter.mp hmem).2
  | some x =>
    rw [ha] at h
    have hx : x = v := Option.some.inj h
    have hmem : v ∈ a := hx ▸ List.mem_of_find?_eq_some ha
    exact absurd rfl ((List.nodup_append.mp hnodup).2.2 v hmem v List.mem_cons_self)

/-! ### Voices a request may steal (R109) -/

section
variable {s : State} {π : Fin 4}

theorem State.PoolLaws.sounding_of_owner (h : s.PoolLaws) {v : VoiceIx} {o : Owner} (ho : (s.voice v).owner = some o) :
    (s.voice v).phase = .sounding := by
  obtain ⟨-, -, -, -, hok⟩ := h
  exact (hok v).1.mp (by rw [ho]; rfl)

theorem isClass4_iff (h : s.PoolLaws) {v : VoiceIx} :
    (s.voice v).isClass4 π = true ↔ ∃ o, (s.voice v).owner = some o ∧ o.priority < π := by
  unfold Voice.isClass4
  constructor
  · intro hv
    simp only [Bool.and_eq_true, Option.any_eq_true, decide_eq_true_iff] at hv
    exact hv.2
  · rintro ⟨o, ho, hπ⟩
    simp [h.sounding_of_owner ho, ho, hπ]

theorem State.PoolLaws.mem_considered (h : s.PoolLaws) {v : VoiceIx} :
    v ∈ s.pool.considered π ↔ ∃ o, (s.voice v).owner = some o ∧ o.priority < π := by
  unfold Pool.considered
  rw [List.mem_filter, ← isClass4_iff h]
  refine ⟨fun hv => hv.2, fun hv => ⟨?_, hv⟩⟩
  obtain ⟨o, ho, -⟩ := (isClass4_iff h).mp hv
  obtain ⟨-, -, hage, -, -⟩ := id h
  exact (hage v).mpr (h.sounding_of_owner ho)

/-- A voice of the lowest priority present, below the request's (R109). -/
def State.Lowest (s : State) (π : Fin 4) (v : VoiceIx) : Prop :=
  ∃ o, (s.voice v).owner = some o ∧ o.priority < π ∧
    ∀ w o', (s.voice w).owner = some o' → o.priority ≤ o'.priority

theorem State.PoolLaws.mem_lowest (h : s.PoolLaws) {v : VoiceIx} : v ∈ s.pool.lowest π ↔ s.Lowest π v := by
  unfold Pool.lowest
  rw [List.mem_filter, h.mem_considered, List.all_eq_true]
  have hpriority (w : VoiceIx) : s.pool.ownerPriority w = (s.voice w).owner.map (·.priority) := rfl
  constructor
  · rintro ⟨⟨o, ho, hπ⟩, hall⟩
    refine ⟨o, ho, hπ, fun w o' ho' => ?_⟩
    by_cases hw : o'.priority < π
    · have := hall w (h.mem_considered.mpr ⟨o', ho', hw⟩)
      simpa [hpriority, ho, ho'] using this
    · exact le_of_lt (lt_of_lt_of_le hπ (not_lt.mp hw))
  · rintro ⟨o, ho, hπ, hlow⟩
    refine ⟨⟨o, ho, hπ⟩, fun w hw => ?_⟩
    obtain ⟨o', ho', -⟩ := h.mem_considered.mp hw
    simpa [hpriority, ho, ho'] using hlow w o' ho'

theorem State.exists_lowest {v : VoiceIx} {o : Owner} (ho : (s.voice v).owner = some o)
    (hπ : o.priority < π) : ∃ w, s.Lowest π w := by
  obtain ⟨m, ⟨w, o', ho', rfl⟩, hmin⟩ := wellFounded_lt.has_min
    {p : Fin 4 | ∃ w o, (s.voice w).owner = some o ∧ o.priority = p} ⟨_, v, o, ho, rfl⟩
  exact ⟨w, o', ho', lt_of_le_of_lt (not_lt.mp (hmin _ ⟨v, o, ho, rfl⟩)) hπ,
    fun y o'' ho'' => not_lt.mp (hmin _ ⟨y, o'', ho'', rfl⟩)⟩

/-! ### The victim (R109) -/

/-- How many slots stand ahead of a slot on the way round from the rotation pointer. -/
def State.turn (s : State) (i : SlotIx) : Nat := (i - s.pool.rotation - 1).val

theorem rotationOrder_first {r i : SlotIx} {p : SlotIx → Bool} (h : (rotationOrder r).find? p = some i) :
    p i = true ∧ ∀ j, p j = true → (i - r - 1).val ≤ (j - r - 1).val := by
  unfold rotationOrder at h
  rw [List.find?_map] at h
  obtain ⟨k, hk, rfl⟩ := Option.map_eq_some_iff.mp h
  obtain ⟨hp, hfirst⟩ := find?_finRange_iff.mp hk
  refine ⟨hp, fun j hj => ?_⟩
  have hback (x : SlotIx) : r + 1 + (x - r - 1) = x := by abel
  have hturn : r + 1 + k - r - 1 = k := by abel
  rw [hturn]
  by_contra hlt
  have hearly := hfirst (j - r - 1) (Fin.lt_def.mpr (not_le.mp hlt))
  simp only [Function.comp, hback] at hearly
  rw [hj] at hearly
  cases hearly

theorem rotationOrder_finds {r i : SlotIx} {p : SlotIx → Bool} (hi : p i = true) :
    ∃ j, (rotationOrder r).find? p = some j := by
  refine Option.isSome_iff_exists.mp (List.find?_isSome.mpr ⟨i, ?_, hi⟩)
  unfold rotationOrder
  refine List.mem_map.mpr ⟨i - r - 1, List.mem_finRange _, ?_⟩
  abel

theorem Pool.ownerSlot_eq {v : VoiceIx} {o : Owner} (ho : (s.voice v).owner = some o) :
    s.pool.ownerSlot v = some o.slot := by
  show (s.voice v).owner.map (·.slot) = _
  rw [ho]
  rfl

theorem State.PoolLaws.victim_eq_none (h : s.PoolLaws) (mode : StealMode) :
    s.pool.victim mode π = none ↔ ∀ w o, (s.voice w).owner = some o → ¬o.priority < π := by
  constructor
  · intro hnone v o ho hπ
    obtain ⟨w, hw⟩ := State.exists_lowest ho hπ
    have hmem := h.mem_lowest.mpr hw
    cases mode with
    | fixed =>
      have : s.pool.lowest π = [] := List.head?_eq_none_iff.mp hnone
      rw [this] at hmem
      cases hmem
    | rotating =>
      obtain ⟨o', ho', hπ', -⟩ := hw
      have howns : (s.pool.lowest π).any (fun v => s.pool.ownerSlot v == some o'.slot) = true :=
        List.any_eq_true.mpr ⟨w, hmem, by rw [Pool.ownerSlot_eq ho', beq_self_eq_true]⟩
      obtain ⟨i, hi⟩ := rotationOrder_finds (r := s.pool.rotation)
        (p := fun i => (s.pool.lowest π).any fun v => s.pool.ownerSlot v == some i) howns
      obtain ⟨y, hy, hyi⟩ := List.any_eq_true.mp (rotationOrder_first hi).1
      have hvictim : s.pool.victim .rotating π =
          (s.pool.considered π).find? fun v => s.pool.ownerSlot v == some i := by
        unfold Pool.victim Pool.victimSlot
        rw [hi]
      rw [hvictim, List.find?_eq_none] at hnone
      exact hnone y (List.mem_filter.mp hy).1 hyi
  · intro hno
    cases hv : s.pool.victim mode π with
    | none => rfl
    | some v =>
      obtain ⟨o, ho, hπ⟩ := (isClass4_iff h).mp (Pool.victim_isClass4 hv).2
      exact absurd hπ (hno v o ho)

/-- The FIXED victim is the oldest voice of the lowest priority (R109). -/
theorem State.PoolLaws.victim_fixed (h : s.PoolLaws) {v : VoiceIx} {a c : List VoiceIx}
    (hv : s.pool.victim .fixed π = some v) (hage : s.pool.ageList = a ++ v :: c) :
    s.Lowest π v ∧ ∀ w ∈ a, ¬s.Lowest π w := by
  obtain ⟨hnodup, -, -, -, -⟩ := id h
  have hhead : (s.pool.lowest π).head? = some v := hv
  refine ⟨h.mem_lowest.mp (List.mem_of_mem_head? hhead), fun w hw hlow => ?_⟩
  have hmem := h.mem_lowest.mpr hlow
  unfold Pool.lowest Pool.considered at hhead hmem
  rw [List.filter_filter] at hhead hmem
  exact not_mem_filter_of_ahead hnodup hage hhead w hw hmem

/-- The slot of the ROTATING victim is the first on the way round that owns a voice of the lowest priority (R109). -/
theorem State.PoolLaws.victimSlot_first (h : s.PoolLaws) {i : SlotIx} (hi : s.pool.victimSlot π = some i) :
    (∃ w o, (s.voice w).owner = some o ∧ o.slot = i ∧ s.Lowest π w) ∧
      ∀ y o, (s.voice y).owner = some o → s.Lowest π y → s.turn i ≤ s.turn o.slot := by
  obtain ⟨howns, hfirst⟩ := rotationOrder_first hi
  refine ⟨?_, fun y o ho hlow => hfirst o.slot ?_⟩
  · obtain ⟨w, hw, hwi⟩ := List.any_eq_true.mp howns
    have hlow := h.mem_lowest.mp hw
    obtain ⟨o, ho, -, -⟩ := id hlow
    rw [Pool.ownerSlot_eq ho, beq_iff_eq] at hwi
    exact ⟨w, o, ho, Option.some.inj hwi, hlow⟩
  · exact List.any_eq_true.mpr ⟨y, h.mem_lowest.mpr hlow, by rw [Pool.ownerSlot_eq ho, beq_self_eq_true]⟩

/-- The ROTATING victim is the oldest of its slot's voices among those considered (R109, log 24). -/
theorem State.PoolLaws.victim_rotating (h : s.PoolLaws) {v : VoiceIx} {a c : List VoiceIx} {o : Owner}
    (hv : s.pool.victim .rotating π = some v) (hage : s.pool.ageList = a ++ v :: c) (ho : (s.voice v).owner = some o) :
    s.pool.victimSlot π = some o.slot ∧
      ∀ w ∈ a, ∀ o', (s.voice w).owner = some o' → o'.slot = o.slot → π ≤ o'.priority := by
  obtain ⟨hnodup, -, -, -, -⟩ := id h
  unfold Pool.victim at hv
  dsimp only at hv
  split at hv
  next i hi =>
    have hslot := List.find?_some hv
    rw [Pool.ownerSlot_eq ho, beq_iff_eq] at hslot
    cases hslot
    refine ⟨hi, fun w hw o' ho' hsame => not_lt.mp fun hπ => ?_⟩
    have hmem : w ∈ (s.pool.considered π).filter fun v => s.pool.ownerSlot v == some o.slot :=
      List.mem_filter.mpr ⟨h.mem_considered.mpr ⟨o', ho', hπ⟩, by rw [Pool.ownerSlot_eq ho', hsame, beq_self_eq_true]⟩
    rw [← List.head?_filter] at hv
    unfold Pool.considered at hv hmem
    rw [List.filter_filter] at hv hmem
    exact not_mem_filter_of_ahead hnodup hage hv w hw hmem
  · cases hv

end

/-! ### The search (R108) -/

section
variable {s : State} {π : Fin 4} {mode : StealMode} {v : VoiceIx}

theorem isClass1_iff {x : Voice} : x.isClass1 = true ↔ x.phase = .free ∧ x.dn = .none := by simp [Voice.isClass1]

theorem isClass2_iff {x : Voice} : x.isClass2 = true ↔ x.phase = .free ∧ (x.dn = .opened ∨ x.dn = .tail) := by
  simp [Voice.isClass2]

/-- What the search finds, class by class (R108). -/
def State.Finds (s : State) (mode : StealMode) (π : Fin 4) : Option (AllocClass × VoiceIx) → Prop
  | some (.class1, v) => (s.voice v).isClass1 = true ∧ ∀ w, w < v → (s.voice w).isClass1 = false
  | some (.class2, v) =>
    (∀ w, (s.voice w).isClass1 = false) ∧ (s.voice v).isClass2 = true ∧ ∀ w, w < v → (s.voice w).isClass2 = false
  | some (.class3, v) =>
    (∀ w, (s.voice w).isClass1 = false) ∧ (∀ w, (s.voice w).isClass2 = false) ∧ s.pool.releaseList.head? = some v
  | some (.class4, v) =>
    (∀ w, (s.voice w).isClass1 = false) ∧ (∀ w, (s.voice w).isClass2 = false) ∧ s.pool.releaseList = [] ∧
      s.pool.victim mode π = some v
  | none =>
    (∀ w, (s.voice w).isClass1 = false) ∧ (∀ w, (s.voice w).isClass2 = false) ∧ s.pool.releaseList = [] ∧
      s.pool.victim mode π = none

theorem Pool.finds_candidate : s.Finds mode π (s.pool.candidate mode π) := by
  rcases s.pool.candidate_cases mode π with ⟨v, hv, h⟩ | ⟨h1, ⟨v, hv, h⟩ | ⟨h2, ⟨v, hv, h⟩ | ⟨hrelease, h⟩⟩⟩ <;> rw [h]
  · exact find?_finRange_iff.mp hv
  · exact ⟨h1, find?_finRange_iff.mp hv⟩
  · exact ⟨h1, h2, hv⟩
  · cases hv : s.pool.victim mode π with
    | none => exact ⟨h1, h2, hrelease, hv⟩
    | some v => exact ⟨h1, h2, hrelease, hv⟩

theorem Pool.candidate_of_finds {x : Option (AllocClass × VoiceIx)} (h : s.Finds mode π x) :
    s.pool.candidate mode π = x := by
  have hnone {p : VoiceIx → Bool} (hp : ∀ w, p w = false) : (List.finRange 32).find? p = none :=
    List.find?_eq_none.mpr fun w _ => by simp [hp w]
  have none1 (h : ∀ w, (s.voice w).isClass1 = false) :
      (List.finRange 32).find? (fun v => s.pool.voices[v].isClass1) = none := hnone h
  have none2 (h : ∀ w, (s.voice w).isClass2 = false) :
      (List.finRange 32).find? (fun v => s.pool.voices[v].isClass2) = none := hnone h
  unfold Pool.candidate
  match x, h with
  | some (.class1, v), h =>
    have first : (List.finRange 32).find? (fun v => s.pool.voices[v].isClass1) = some v :=
      find?_finRange_iff (p := fun v => (s.voice v).isClass1) |>.mpr h
    rw [first]
  | some (.class2, v), ⟨h1, h2⟩ =>
    have first : (List.finRange 32).find? (fun v => s.pool.voices[v].isClass2) = some v :=
      find?_finRange_iff (p := fun v => (s.voice v).isClass2) |>.mpr h2
    rw [none1 h1, first]
  | some (.class3, v), ⟨h1, h2, h3⟩ =>
    rw [none1 h1, none2 h2, h3]
  | some (.class4, v), ⟨h1, h2, h3, h4⟩ =>
    rw [none1 h1, none2 h2, h3, h4]
    rfl
  | none, ⟨h1, h2, h3, h4⟩ =>
    rw [none1 h1, none2 h2, h3, h4]
    rfl

/-- The search answers what it finds, and nothing else. -/
theorem Pool.candidate_iff {x : Option (AllocClass × VoiceIx)} : s.pool.candidate mode π = x ↔ s.Finds mode π x :=
  ⟨fun h => h ▸ Pool.finds_candidate, Pool.candidate_of_finds⟩

end

/-- Settles O52. -/
theorem allocationSearchesClasses : Obligations.AllocationSearchesClasses := by
  unfold Obligations.AllocationSearchesClasses
  refine ⟨fun s mode π h => ?search, fun s v requester => ?take⟩
  case search =>
    intro free1 free2 below
    have hfree1 (w : VoiceIx) : (s.voice w).isClass1 = false ↔ ¬free1 w := by
      rw [← Bool.not_eq_true, isClass1_iff]
    have hfree2 (w : VoiceIx) : (s.voice w).isClass2 = false ↔ ¬free2 w := by
      rw [← Bool.not_eq_true, isClass2_iff]
    have hbelow (w : VoiceIx) : (∃ o, (s.voice w).owner = some o ∧ o.priority < π) ↔ below w :=
      ⟨fun ⟨o, ho, hπ⟩ => ⟨o, h.sounding_of_owner ho, ho, hπ⟩, fun ⟨o, _, ho, hπ⟩ => ⟨o, ho, hπ⟩⟩
    refine ⟨fun v => ?_, fun v => ?_, fun v => ?_, fun v hv => ?_, ?_, fun v a c o hv hage ho => ?_,
      fun v a c o hv hage ho => ?_⟩
    · simp only [Pool.candidate_iff, State.Finds, isClass1_iff, hfree1]
      exact Iff.rfl
    · simp only [Pool.candidate_iff, State.Finds, isClass2_iff, hfree1, hfree2]
      exact Iff.rfl
    · simp only [Pool.candidate_iff, State.Finds, hfree1, hfree2]
    · obtain ⟨h1, h2, hrelease, hvictim⟩ := Pool.candidate_iff.mp hv
      exact ⟨fun w => (hfree1 w).mp (h1 w), fun w => (hfree2 w).mp (h2 w), hrelease,
        (hbelow v).mp ((isClass4_iff h).mp (Pool.victim_isClass4 hvictim).2)⟩
    · simp only [Pool.candidate_iff, State.Finds, hfree1, hfree2, h.victim_eq_none]
      simp only [← hbelow, not_exists, not_and]
    · obtain ⟨-, -, -, hvictim⟩ := Pool.candidate_iff.mp hv
      obtain ⟨⟨o1, ho1, hπ, hlow⟩, hahead⟩ := h.victim_fixed hvictim hage
      cases ho.symm.trans ho1
      refine ⟨hlow, fun w hw o' ho' => lt_of_not_ge fun hle => hahead w hw ⟨o', ho', lt_of_le_of_lt hle hπ, fun y o'' ho'' =>
        hle.trans (hlow y o'' ho'')⟩⟩
    · intro turn
      obtain ⟨-, -, -, hvictim⟩ := Pool.candidate_iff.mp hv
      obtain ⟨hslot, hahead⟩ := h.victim_rotating hvictim hage ho
      obtain ⟨⟨w, o', ho', hsame, hlow⟩, hturn⟩ := h.victimSlot_first hslot
      obtain ⟨o1, ho1, hπ, hleast⟩ := id hlow
      cases ho'.symm.trans ho1
      refine ⟨⟨w, o', ho', hsame, fun y o'' ho'' => ?_⟩, hahead⟩
      rcases lt_or_eq_of_le (hleast y o'' ho'') with hlt | heq
      · exact .inl hlt
      · exact .inr ⟨heq, hturn y o'' ho'' ⟨o'', ho'', heq ▸ hπ, heq ▸ hleast⟩⟩
  case take =>
    intro x kept cut
    refine ⟨fun hroom t => ?_, rfl, ?_, ?_, fun o ho => ?_⟩
    · exact State.enqueue_of_room _ _ hroom
    · exact State.cutFormer_eq rfl rfl
    · exact State.cutFormer_eq (by simp [x]) rfl
    · intro taken silenced stolen
      have hsilenced : s.silenced v o = silenced := by
        have hcut : (s.robbed v o).cutFormer v = cut taken := State.cutFormer_eq (by simp [State.robbed, x]) rfl
        unfold State.silenced
        rw [hcut]
        rfl
      show s.steal v requester = _
      rw [State.steal_of_owner ho, hsilenced]
      cases s.responder.engine.stealMode <;> rfl

end Sys2Proof.Machine

/-! How a slot takes a SENSE packet, stage by stage (R4, R13, R14, R30 to R36, R78, R147). -/

namespace Sys2Proof.Machine

open Sys2Proof

/-! ### What commutes with a change of one slot -/

theorem State.bankUsed_setSlot {s : State} {i : SlotIx} {x : Slot} (h : x.bank = (s.slot i).bank) (b : BankIx) :
    (s.setSlot i x).bankUsed b = s.bankUsed b := by
  unfold State.bankUsed
  congr 1
  funext j
  rw [State.slot_setSlot]
  split
  · next hij => rw [h, hij]
  · rfl

/-- The drain test looks at a slot's bank in use alone (R148). -/
theorem State.drain_setSlot {s : State} {i : SlotIx} {x : Slot} (h : x.bank = (s.slot i).bank) :
    s.drain.setSlot i x = (s.setSlot i x).drain := by
  have one (t : State) (b : BankIx) (ht : x.bank = (t.slot i).bank) :
      (t.drainBank b).setSlot i x = (t.setSlot i x).drainBank b := by
    unfold State.drainBank
    rw [State.bankUsed_setSlot ht, State.setSlot_bank]
    split <;> rfl
  unfold State.drain
  rw [one _ _ (by simpa using h), one _ _ h]

theorem State.raise_setSlot (s : State) (i : SlotIx) (x : Slot) (c : Capture) :
    (s.raise c).setSlot i x = (s.setSlot i x).raise c := by
  have howes : (s.setSlot i x).notices.owes c = s.notices.owes c := rfl
  unfold State.raise
  dsimp only
  rw [howes]
  split
  · have htimer : ((s.setSlot i x).notices.strike c).timer = (s.notices.strike c).timer := rfl
    rw [htimer]
    split <;> rfl
  · rfl

theorem State.setSlot_slot (s : State) (i : SlotIx) : s.setSlot i (s.slot i) = s := by
  simp [State.setSlot, State.slot]

theorem State.modSlot_eq (s : State) (i : SlotIx) (f : Slot → Slot) : s.modSlot i f = s.setSlot i (f (s.slot i)) := rfl

theorem State.modSlot_setSlot (s : State) (i : SlotIx) (x : Slot) (f : Slot → Slot) :
    (s.setSlot i x).modSlot i f = s.setSlot i (f x) := by
  rw [State.modSlot_eq, State.slot_setSlot_same, State.setSlot_setSlot]

theorem State.raise_modSlot (s : State) (i : SlotIx) (f : Slot → Slot) (c : Capture) :
    (s.raise c).modSlot i f = (s.modSlot i f).raise c := by
  rw [State.modSlot_eq, State.raise_setSlot, (s.raise_reads c).1]
  rfl

theorem State.drain_modSlot (s : State) (i : SlotIx) (x : Slot) (f : Slot → Slot) (h : (f x).bank = x.bank) :
    (s.setSlot i x).drain.modSlot i f = (s.setSlot i (f x)).drain := by
  rw [State.modSlot_eq, State.drain_setSlot (by simpa using h)]
  simp only [State.drain_reads, State.slot_setSlot_same, State.setSlot_setSlot]

/-! ### Resolution (R36) -/

/-- What a lookup gives depends on the tables alone. -/
theorem State.foundIn_congr {s t : State} (h : ∀ b, (t.bank b).fingerings = (s.bank b).fingerings)
    (bank : Option BankIx) (ks : KeySet) : t.foundIn bank ks = s.foundIn bank ks := by
  unfold State.foundIn
  cases bank with
  | none => rfl
  | some b => simp only [h]

theorem State.foundIn_setSlot (s : State) (i : SlotIx) (x : Slot) : (s.setSlot i x).foundIn = s.foundIn := rfl

theorem State.foundIn_drain (s : State) : s.drain.foundIn = s.foundIn := by
  funext bank ks
  refine State.foundIn_congr (fun b => ?_) bank ks
  rw [State.bank_drain]
  split <;> rfl

theorem State.resolve_eq (s : State) (i : SlotIx) : s.resolve i = s.foundIn (s.slot i).bank (s.slot i).confirmed := by
  unfold State.resolve State.foundIn
  cases (s.slot i).bank <;> rfl

theorem State.refreshResolution_setSlot (s : State) (i : SlotIx) (y : Slot) :
    (s.setSlot i y).refreshResolution i = s.setSlot i { y with resolution := s.foundIn y.bank y.confirmed } := by
  unfold State.refreshResolution
  rw [State.modSlot_setSlot, State.resolve_eq, State.slot_setSlot_same]
  rfl

/-! ### Expression -/

theorem Packet.expression_eq (pk : Packet) (a : Nat) :
    expression pk.curve (scaledPressure pk.settings a) = pk.expressionOf a := by
  unfold Packet.expressionOf expression
  cases pk.curve <;> rfl

theorem State.expressionOf_packetOf (u : State) (i : SlotIx) (p : Sense) (a : Nat) :
    (u.packetOf i p).expressionOf a = u.expressionIn (u.slot i) (u.slot i).bank a := by
  unfold Packet.expressionOf State.expressionIn State.packetOf
  dsimp only
  cases (u.slot i).bank <;> rfl

theorem Settings.velocity_eq (st : Settings) (q qPrev : Nat) :
    onsetVelocityOf st.velocityGain q qPrev = st.velocity q qPrev := rfl

/-! ### One sample (R78) -/

section
variable {s : State} {i : SlotIx} {pk : Packet} {a : Nat}

theorem State.sample_eq (s : State) (i : SlotIx) (pk : Packet) (a : Nat) :
    State.sample i pk s a =
      (s.testSample i pk (scaledPressure pk.settings a) (pk.expressionOf a)).modSlot i fun x =>
        { x with qPrev := scaledPressure pk.settings a } := by
  unfold State.sample
  dsimp only
  rw [Packet.expression_eq]

/-- A sample whose test does nothing becomes q_prev alone (R44, R78). -/
theorem State.sample_of_idle (h : s.testSample i pk (scaledPressure pk.settings a) (pk.expressionOf a) = s) :
    State.sample i pk s a = s.setSlot i { s.slot i with qPrev := scaledPressure pk.settings a } := by
  rw [State.sample_eq, h]
  rfl

theorem State.sample_rearming (hp : (s.slot i).phase = .quiet) (hr : (s.slot i).rearm = true) :
    State.sample i pk s a = s.setSlot i
      { s.slot i with
        rearm := decide (pk.settings.offThreshold ≤ scaledPressure pk.settings a)
        qPrev := scaledPressure pk.settings a } := by
  by_cases hq : scaledPressure pk.settings a < pk.settings.offThreshold
  · have htest : s.testSample i pk (scaledPressure pk.settings a) (pk.expressionOf a) =
        s.modSlot i fun x => { x with rearm := false } := by
      unfold State.testSample
      simp only [hp, hr, if_true, if_pos hq]
    rw [State.sample_eq, htest, State.modSlot_eq s, State.modSlot_setSlot, decide_eq_false (Nat.not_le.mpr hq)]
  · rw [State.sample_of_idle (by unfold State.testSample; simp only [hp, hr, if_true, if_neg hq]),
      decide_eq_true (Nat.not_lt.mp hq), ← hr]

theorem State.sample_low (hp : (s.slot i).phase = .quiet) (hr : (s.slot i).rearm = false)
    (hq : scaledPressure pk.settings a < pk.settings.onThreshold) :
    State.sample i pk s a = s.setSlot i { s.slot i with qPrev := scaledPressure pk.settings a } := by
  refine State.sample_of_idle ?_
  unfold State.testSample
  simp only [hp, hr, Bool.false_eq_true, if_false]
  rw [if_neg (Nat.not_le.mpr hq)]

theorem State.sample_held (hp : (s.slot i).phase = .stalled ∨ (s.slot i).phase = .sounding)
    (hq : pk.settings.offThreshold ≤ scaledPressure pk.settings a) :
    State.sample i pk s a = s.setSlot i { s.slot i with qPrev := scaledPressure pk.settings a } := by
  refine State.sample_of_idle ?_
  unfold State.testSample
  rcases hp with hp | hp <;> simp only [hp] <;> exact if_neg (Nat.not_lt.mpr hq)

theorem State.sample_unheard (hp : (s.slot i).phase = .unbound ∨ (s.slot i).phase = .absent) :
    State.sample i pk s a = s.setSlot i { s.slot i with qPrev := scaledPressure pk.settings a } := by
  refine State.sample_of_idle ?_
  unfold State.testSample
  rcases hp with hp | hp <;> simp only [hp]

/-- A sample that makes an onset tests it (R80). -/
theorem State.testSample_onset {q e : Nat} (hp : (s.slot i).phase = .quiet) (hr : (s.slot i).rearm = false)
    (hq : pk.settings.onThreshold ≤ q) : s.testSample i pk q e = s.onset i pk q e := by
  unfold State.testSample
  simp only [hp, hr, Bool.false_eq_true, if_false]
  exact if_pos hq

theorem State.onset_of_resolved {q e : Nat} {r : Resolution} (h : (s.slot i).resolution = some r) :
    s.onset i pk q e = State.startNote (s.setSlot i
      { s.slot i with onsetVelocity := pk.settings.velocity q (s.slot i).qPrev, outLevel := e }) i pk r := by
  have hmod : (s.modSlot i fun x => { x with onsetVelocity := pk.settings.velocity q x.qPrev }).modSlot i
      (fun x => { x with outLevel := e }) =
      s.setSlot i { s.slot i with onsetVelocity := pk.settings.velocity q (s.slot i).qPrev, outLevel := e } := by
    rw [State.modSlot_eq s, State.modSlot_setSlot]
  unfold State.onset
  rw [h, ← hmod]
  rfl

theorem State.onset_of_unresolved {q e : Nat} (h : (s.slot i).resolution = none) :
    s.onset i pk q e = State.raise
      (State.drain (s.setSlot i
        { s.slot i with
          phase := .stalled, bank := s.store.liveBank.or (s.slot i).bank
          onsetVelocity := pk.settings.velocity q (s.slot i).qPrev }))
      (.unmapped i (s.slot i).confirmed) := by
  have hmod : ((s.modSlot i fun x => { x with onsetVelocity := pk.settings.velocity q x.qPrev }).modSlot i
      fun x => { x with phase := .stalled }).switchBank i =
      State.drain (s.setSlot i
        { s.slot i with
          phase := .stalled, bank := s.store.liveBank.or (s.slot i).bank
          onsetVelocity := pk.settings.velocity q (s.slot i).qPrev }) := by
    rw [State.modSlot_eq s, State.modSlot_setSlot, State.switchBank_setSlot]
    rfl
  unfold State.onset
  rw [h, ← hmod]
  rfl

/-- An onset with a resolution starts the note (R81). -/
theorem State.sample_starts {r : Resolution} (hp : (s.slot i).phase = .quiet) (hr : (s.slot i).rearm = false)
    (hq : pk.settings.onThreshold ≤ scaledPressure pk.settings a) (hres : (s.slot i).resolution = some r) :
    State.sample i pk s a = State.modSlot
      (State.startNote (s.setSlot i
        { s.slot i with
          onsetVelocity := pk.settings.velocity (scaledPressure pk.settings a) (s.slot i).qPrev
          outLevel := pk.expressionOf a }) i pk r) i
      fun y => { y with qPrev := scaledPressure pk.settings a } := by
  rw [State.sample_eq, State.testSample_onset hp hr hq, State.onset_of_resolved hres]

/-- An onset without a resolution stalls the slot (R82). -/
theorem State.sample_stalls (hp : (s.slot i).phase = .quiet) (hr : (s.slot i).rearm = false)
    (hq : pk.settings.onThreshold ≤ scaledPressure pk.settings a) (hres : (s.slot i).resolution = none) :
    State.sample i pk s a = State.raise
      (State.drain (s.setSlot i
        { s.slot i with
          phase := .stalled, bank := s.store.liveBank.or (s.slot i).bank
          onsetVelocity := pk.settings.velocity (scaledPressure pk.settings a) (s.slot i).qPrev
          qPrev := scaledPressure pk.settings a }))
      (.unmapped i (s.slot i).confirmed) := by
  rw [State.sample_eq, State.testSample_onset hp hr hq, State.onset_of_unresolved hres, State.raise_modSlot,
    State.drain_modSlot _ _ _ _ rfl]

/-- A sample below the off threshold abandons a stalled onset (R84). -/
theorem State.sample_abandons (hp : (s.slot i).phase = .stalled)
    (hq : scaledPressure pk.settings a < pk.settings.offThreshold) :
    State.sample i pk s a = State.drain (s.setSlot i
      { s.slot i with
        phase := .quiet, bank := s.store.liveBank.or (s.slot i).bank, qPrev := scaledPressure pk.settings a }) := by
  rw [State.sample_eq]
  unfold State.testSample
  simp only [hp, if_pos hq]
  unfold State.abandonOnset
  rw [State.modSlot_eq s, State.switchBank_setSlot, State.drain_modSlot _ _ _ _ rfl]
  rfl

/-- A slot context whose note has been released, in the bank that the switching rule gives (R86, R147). -/
def Slot.released (x : Slot) (live : Option BankIx) (found : Option Resolution) : Slot :=
  { x with
    phase := .quiet, settings := x.applyPending.settings, pendingSettings := none, bank := live.or x.bank, layers := []
    resolution := found }

theorem Slot.applyPending_of_silent (x : Slot) :
    Slot.applyPending { x with layers := [], phase := .quiet } =
      { x with phase := .quiet, settings := x.applyPending.settings, pendingSettings := none, layers := [] } := by
  unfold Slot.applyPending
  dsimp only
  cases hp : x.pendingSettings with
  | none => simp only [← hp]
  | some p => rfl

theorem State.releaseNote_eq (s : State) (i : SlotIx) :
    s.releaseNote i = State.drain ((State.releaseLayers .release (s.slot i).layers s).setSlot i
      ((s.slot i).released s.store.liveBank
        (s.foundIn (s.store.liveBank.or (s.slot i).bank) (s.slot i).confirmed))) := by
  unfold State.releaseNote
  dsimp only
  generalize hu : State.releaseLayers .release (s.slot i).layers s = u
  obtain ⟨-, hstore, -⟩ : u.slots = s.slots ∧ u.store = s.store ∧ _ := hu ▸ s.releaseLayers_frame _ _
  have hslot : u.slot i = s.slot i := hu ▸ (s.releaseLayers_reads _ _).1 i
  have hfound : u.foundIn = s.foundIn :=
    funext fun bank => funext (State.foundIn_congr (fun b => congrArg _ (hu ▸ (s.releaseLayers_reads _ _).2 b)) bank)
  rw [State.modSlot_eq u, hslot, Slot.applyPending_of_silent, State.switchBank_setSlot, hstore]
  unfold State.refreshResolution
  rw [State.drain_modSlot, State.resolve_eq, State.foundIn_drain, State.foundIn_setSlot, hfound]
  · simp only [State.drain_reads, State.slot_setSlot_same]
    rfl
  · rfl

/-- A sample below the off threshold releases the note (R85, R86). -/
theorem State.sample_releases (hp : (s.slot i).phase = .sounding)
    (hq : scaledPressure pk.settings a < pk.settings.offThreshold) :
    State.sample i pk s a = State.drain ((State.releaseLayers .release (s.slot i).layers s).setSlot i
      { (s.slot i).released s.store.liveBank
          (s.foundIn (s.store.liveBank.or (s.slot i).bank) (s.slot i).confirmed) with
        qPrev := scaledPressure pk.settings a }) := by
  rw [State.sample_eq]
  unfold State.testSample
  simp only [hp, if_pos hq]
  rw [State.releaseNote_eq, State.drain_modSlot _ _ _ _ rfl]

end

end Sys2Proof.Machine

/-! Runs of samples (R78) and what they make of a note that sounds (R85 to R88). -/

namespace Sys2Proof.Machine

open Sys2Proof

/-! ### A release beside a change of a slot -/

theorem State.makeRoom_setSlot (s : State) (i : SlotIx) (x : Slot) :
    s.makeRoom.setSlot i x = (s.setSlot i x).makeRoom := by
  have note (q : List VoiceRecord) (r : VoiceRecord) :
      ((s.setQueue q).noteEviction r).setSlot i x = ((s.setSlot i x).setQueue q).noteEviction r := by
    cases r <;> simp only [State.noteEviction, evictCapture, State.raise_setSlot] <;> rfl
  unfold State.makeRoom
  rw [State.setSlot_port]
  split
  · rfl
  · cases evictFrom s.port.queue with
    | none => rfl
    | some e => exact note e.2 e.1

theorem State.enqueue_setSlot (s : State) (i : SlotIx) (x : Slot) (r : VoiceRecord) :
    (s.enqueue r).setSlot i x = (s.setSlot i x).enqueue r := by
  unfold State.enqueue
  dsimp only
  rw [← State.makeRoom_setSlot, State.setSlot_port]
  split <;> rfl

theorem State.releaseVoice_setSlot (s : State) (i : SlotIx) (x : Slot) (v : VoiceIx) (k : StopKind) :
    (s.releaseVoice v k).setSlot i x = (s.setSlot i x).releaseVoice v k := by
  unfold State.releaseVoice
  rw [State.setSlot_voice]
  cases (s.voice v).dn with
  | pending => rfl
  | opened =>
    unfold State.stopVoice
    dsimp only
    rw [State.setSlot_voice, State.setSlot_port]
    have h := State.enqueue_setSlot (s.setQueue (removeUpdates v (s.voice v).generation s.port.queue)) i x
      (.stop v (s.voice v).generation k)
    have hq : ((s.setQueue (removeUpdates v (s.voice v).generation s.port.queue)).setSlot i x) =
        (s.setSlot i x).setQueue (removeUpdates v (s.voice v).generation s.port.queue) := rfl
    rw [← hq, ← h]
    rfl
  | none | tail => rfl

theorem State.releaseLayers_setSlot (s : State) (i : SlotIx) (x : Slot) (k : StopKind) (es : List (Option VoiceIx)) :
    State.releaseLayers k es (s.setSlot i x) = (State.releaseLayers k es s).setSlot i x := by
  induction es generalizing s with
  | nil => rfl
  | cons e es ih =>
    cases e with
    | none => exact ih s
    | some v => exact (congrArg _ (s.releaseVoice_setSlot i x v k).symm).trans (ih _)

/-! ### Runs of samples -/

/-- The q_prev that a run of samples leaves (R44). -/
def Settings.prior (st : Settings) (qPrev : Nat) (as : List Nat) : Nat :=
  (as.getLast?.map (scaledPressure st)).getD qPrev

theorem Settings.prior_cons (st : Settings) (qPrev a : Nat) (as : List Nat) :
    st.prior qPrev (a :: as) = st.prior (scaledPressure st a) as := by
  unfold Settings.prior
  cases as with
  | nil => rfl
  | cons b bs => rw [List.getLast?_cons_cons, List.getLast?_eq_some_getLast (List.cons_ne_nil b bs)]; rfl

theorem Settings.prior_append_cons (st : Settings) (qPrev a : Nat) (as bs : List Nat) :
    st.prior qPrev (as ++ a :: bs) = st.prior (scaledPressure st a) bs := by
  induction as generalizing qPrev with
  | nil => exact st.prior_cons qPrev a bs
  | cons c cs ih => rw [List.cons_append, Settings.prior_cons, ih]

theorem Settings.prior_of_last (st : Settings) (qPrev : Nat) {as : List Nat} {last : Nat} (h : as.getLast? = some last) :
    st.prior qPrev as = scaledPressure st last := by
  unfold Settings.prior
  rw [h]
  rfl

theorem Settings.noOnset_false (st : Settings) (as : List Nat) : st.noOnset false as = st.allLow as := by
  induction as with
  | nil => rfl
  | cons a as ih => rw [Settings.noOnset, ih, Settings.allLow, Settings.allLow, List.all_cons]

theorem Settings.allHeld_cons (st : Settings) (a : Nat) (as : List Nat) :
    st.allHeld (a :: as) = (decide (st.offThreshold ≤ scaledPressure st a) && st.allHeld as) := rfl

section
variable {s : State} {i : SlotIx} {pk : Packet}

theorem State.samples_quiet {as : List Nat} (hp : (s.slot i).phase = .quiet)
    (h : pk.settings.noOnset (s.slot i).rearm as = true) :
    as.foldl (State.sample i pk) s = s.setSlot i
      { s.slot i with
        rearm := (s.slot i).rearm && pk.settings.allHeld as
        qPrev := pk.settings.prior (s.slot i).qPrev as } := by
  induction as generalizing s with
  | nil =>
    refine (s.setSlot_slot i).symm.trans (congrArg _ ?_)
    simp [Settings.allHeld, Settings.prior]
  | cons a as ih =>
    rw [List.foldl_cons, Settings.prior_cons, Settings.allHeld_cons]
    cases hr : (s.slot i).rearm with
    | true =>
      rw [hr] at h
      rw [State.sample_rearming hp hr, ih (by rwa [State.slot_setSlot_same]) (by rwa [State.slot_setSlot_same])]
      simp only [State.slot_setSlot_same, State.setSlot_setSlot, Bool.true_and]
    | false =>
      rw [hr] at h
      obtain ⟨hlow, hrest⟩ := Bool.and_eq_true_iff.mp h
      rw [State.sample_low hp hr (of_decide_eq_true hlow), ih (by rwa [State.slot_setSlot_same])
        (by rwa [State.slot_setSlot_same, hr])]
      simp only [State.slot_setSlot_same, State.setSlot_setSlot, hr, Bool.false_and]

theorem State.samples_low {as : List Nat} (hp : (s.slot i).phase = .quiet) (hr : (s.slot i).rearm = false)
    (h : pk.settings.allLow as = true) :
    as.foldl (State.sample i pk) s =
      s.setSlot i { s.slot i with qPrev := pk.settings.prior (s.slot i).qPrev as } := by
  rw [State.samples_quiet hp (by rw [hr, Settings.noOnset_false, h]), hr]
  refine congrArg _ ?_
  rw [Bool.false_and, ← hr]

theorem State.samples_held {as : List Nat} (hp : (s.slot i).phase = .stalled ∨ (s.slot i).phase = .sounding)
    (h : pk.settings.allHeld as = true) :
    as.foldl (State.sample i pk) s =
      s.setSlot i { s.slot i with qPrev := pk.settings.prior (s.slot i).qPrev as } := by
  induction as generalizing s with
  | nil => exact (s.setSlot_slot i).symm
  | cons a as ih =>
    obtain ⟨hheld, hrest⟩ := Bool.and_eq_true_iff.mp h
    rw [List.foldl_cons, Settings.prior_cons, State.sample_held hp (of_decide_eq_true hheld),
      ih (by rwa [State.slot_setSlot_same]) hrest]
    simp only [State.slot_setSlot_same, State.setSlot_setSlot]

end

/-! ### Stage 6 (R45, R54) -/

section
variable {s : State} {i : SlotIx} {pk : Packet} {e : Nat}

/-- Stage 6 of a slot that is not SOUNDING (R45). -/
theorem State.perPacket_of_silent (hp : (s.slot i).phase ≠ .sounding) :
    s.perPacket i pk e = s.setSlot i { s.slot i with outLevel := e } := by
  have hout : (s.slot i).updateOut pk.settings.slew e = { s.slot i with outLevel := e } := by
    unfold Slot.updateOut
    rw [if_neg hp]
  unfold State.perPacket
  rw [State.modSlot_eq, hout]
  dsimp only
  rw [State.slot_setSlot_same]
  cases h : (s.slot i).phase with
  | sounding => exact absurd h hp
  | unbound | absent | quiet | stalled => rfl

/-- Stage 6 of a SOUNDING slot (R54). -/
theorem State.perPacket_of_sounding (hp : (s.slot i).phase = .sounding) {r : Resolution}
    (hr : (s.slot i).resolution = some r) :
    s.perPacket i pk e = State.updateLayers i pk r (slewed pk.settings.slew (s.slot i).outLevel e) 0
      (s.voicingOf i r).layers (s.slot i).layers
      (s.setSlot i { s.slot i with outLevel := slewed pk.settings.slew (s.slot i).outLevel e }) := by
  have hout : (s.slot i).updateOut pk.settings.slew e =
      { s.slot i with outLevel := slewed pk.settings.slew (s.slot i).outLevel e } := by
    unfold Slot.updateOut
    rw [if_pos hp]
  unfold State.perPacket
  rw [State.modSlot_eq, hout]
  dsimp only
  rw [State.slot_setSlot_same]
  simp only [hp, hr]
  unfold State.voicingOf
  rw [State.slot_setSlot_same]
  rfl

/-- Stage 6 of a note without a resolution (log 18). -/
theorem State.perPacket_of_unresolved (hp : (s.slot i).phase = .sounding) (hr : (s.slot i).resolution = none) :
    s.perPacket i pk e =
      s.setSlot i { s.slot i with outLevel := slewed pk.settings.slew (s.slot i).outLevel e } := by
  have hout : (s.slot i).updateOut pk.settings.slew e =
      { s.slot i with outLevel := slewed pk.settings.slew (s.slot i).outLevel e } := by
    unfold Slot.updateOut
    rw [if_pos hp]
  unfold State.perPacket
  rw [State.modSlot_eq, hout]
  dsimp only
  rw [State.slot_setSlot_same]
  simp only [hp, hr]

end

end Sys2Proof.Machine

/-! What a note's start and its samples make of the slots (R78, R81, R85 to R88, R93). -/

namespace Sys2Proof.Machine

open Sys2Proof

/-! ### What an allocation does to the slots (R93, R113) -/

/-- A slot context of which at most layer entries have become absent (R93). -/
def Slot.RobbedTo (x y : Slot) : Prop :=
  y = { x with layers := y.layers } ∧ y.layers.length = x.layers.length ∧
    ∀ k : Nat, y.layers[k]? = x.layers[k]? ∨ y.layers[k]? = some none

theorem Slot.RobbedTo.refl (x : Slot) : x.RobbedTo x := ⟨rfl, rfl, fun _ => .inl rfl⟩

theorem Slot.RobbedTo.trans {x y z : Slot} (h : x.RobbedTo y) (h' : y.RobbedTo z) : x.RobbedTo z := by
  obtain ⟨hx, hlen, hlayers⟩ := h
  obtain ⟨hy, hlen', hlayers'⟩ := h'
  refine ⟨by rw [hy, hx], hlen'.trans hlen, fun k => ?_⟩
  rcases hlayers' k with hk | hk
  · rw [hk]
    exact hlayers k
  · exact .inr hk

theorem Slot.robbedTo_dropVoice (v : VoiceIx) (x : Slot) : x.RobbedTo (dropVoice v x) := by
  obtain ⟨hlen, hlayers⟩ := dropVoice_layers v x
  refine ⟨rfl, hlen, fun k => ?_⟩
  rw [hlayers]
  rcases x.layers[k]? with _ | e
  · exact .inl rfl
  · by_cases he : e = some v
    · exact .inr (by simp [he])
    · exact .inl (by simp [he])

theorem State.takeVoice_robs (s : State) (c : AllocClass) (v : VoiceIx) (i j : SlotIx) :
    (s.slot j).RobbedTo ((s.takeVoice c v i).slot j) := by
  rcases s.slot_takeVoice c v i j with h | h
  · exact h ▸ .refl _
  · exact h ▸ Slot.robbedTo_dropVoice v _

section
variable (s : State) (i : SlotIx) (pk : Packet) (r : Resolution) (vc : Voicing)

/-- One layer of a start either leaves the state as it is or gives a voice, whose entry then names it (R113). -/
theorem State.startLayer_slot (k : Nat) (l : Layer) (j : SlotIx) :
    (s.startLayer i pk r vc k l).slot j = s.slot j ∨
      ∃ c v, s.pool.candidate s.responder.engine.stealMode pk.settings.priority = some (c, v) ∧
        (s.startLayer i pk r vc k l).slot j =
          if i = j then
            { (s.takeVoice c v i).slot j with layers := ((s.takeVoice c v i).slot j).layers.set k (some v) }
          else (s.takeVoice c v i).slot j := by
  unfold State.startLayer
  cases hcand : s.pool.candidate s.responder.engine.stealMode pk.settings.priority with
  | none => exact .inl rfl
  | some cv =>
    refine .inr ⟨cv.1, cv.2, rfl, ?_⟩
    simp only [State.placeStart_reads, State.raiseIf_reads, State.slot_modSlot, State.giveVoice_reads]
    split
    · next hij => rw [← hij]
    · rfl

/-- A start robs the other slots of layer entries alone (R93). -/
theorem State.startLayer_robs (k : Nat) (l : Layer) {j : SlotIx} (hj : j ≠ i) :
    (s.slot j).RobbedTo ((s.startLayer i pk r vc k l).slot j) := by
  rcases s.startLayer_slot i pk r vc k l j with h | ⟨c, v, -, h⟩
  · exact h ▸ .refl _
  · rw [if_neg (Ne.symm hj)] at h
    exact h ▸ s.takeVoice_robs c v i j

/-- A start moves the slot's layer list alone (R113). -/
theorem State.startLayer_own (k : Nat) (l : Layer) :
    (s.startLayer i pk r vc k l).slot i = { s.slot i with layers := ((s.startLayer i pk r vc k l).slot i).layers } ∧
      ((s.startLayer i pk r vc k l).slot i).layers.length = (s.slot i).layers.length := by
  rcases s.startLayer_slot i pk r vc k l i with h | ⟨c, v, -, h⟩
  · rw [h]
    exact ⟨rfl, rfl⟩
  · rw [if_pos rfl] at h
    obtain ⟨hx, hlen, -⟩ := s.takeVoice_robs c v i i
    rw [h]
    refine ⟨?_, by rw [List.length_set, hlen]⟩
    rw [hx]

theorem State.startLayers_robs (k : Nat) (ls : List Layer) {j : SlotIx} (hj : j ≠ i) :
    (s.slot j).RobbedTo ((State.startLayers i pk r vc k ls s).slot j) := by
  induction ls generalizing s k with
  | nil => exact .refl _
  | cons l ls ih => exact (s.startLayer_robs i pk r vc k l hj).trans (ih _ _)

theorem State.startLayers_own (k : Nat) (ls : List Layer) :
    (State.startLayers i pk r vc k ls s).slot i =
        { s.slot i with layers := ((State.startLayers i pk r vc k ls s).slot i).layers } ∧
      ((State.startLayers i pk r vc k ls s).slot i).layers.length = (s.slot i).layers.length := by
  induction ls generalizing s k with
  | nil => exact ⟨rfl, rfl⟩
  | cons l ls ih =>
    obtain ⟨hx, hlen⟩ := s.startLayer_own i pk r vc k l
    obtain ⟨hy, hlen'⟩ := ih (s.startLayer i pk r vc k l) (k + 1)
    refine ⟨?_, hlen'.trans hlen⟩
    show (State.startLayers i pk r vc (k + 1) ls (s.startLayer i pk r vc k l)).slot i = _
    rw [hy, hx]
    rfl

theorem State.startNote_robs {j : SlotIx} (hj : j ≠ i) :
    (s.slot j).RobbedTo ((s.startNote i pk r).slot j) := by
  unfold State.startNote
  rw [(State.raiseIf_reads _ _ _).1]
  have h := (s.modSlot i fun x =>
    { x with phase := .sounding, layers := List.replicate (s.voicingOf i r).layers.length none }).startLayers_robs i pk r
      (s.voicingOf i r) 0 (s.voicingOf i r).layers hj
  rwa [State.slot_modSlot, if_neg (Ne.symm hj)] at h

/-- A start makes the slot SOUNDING with a layer entry for each layer of the voicing, and moves no other field of it
(R81). -/
theorem State.startNote_own :
    (s.startNote i pk r).slot i =
        { s.slot i with phase := .sounding, layers := ((s.startNote i pk r).slot i).layers } ∧
      ((s.startNote i pk r).slot i).layers.length = (s.voicingOf i r).layers.length := by
  unfold State.startNote
  rw [(State.raiseIf_reads _ _ _).1]
  obtain ⟨hx, hlen⟩ := (s.modSlot i fun x =>
    { x with phase := .sounding, layers := List.replicate (s.voicingOf i r).layers.length none }).startLayers_own i pk r
      (s.voicingOf i r) 0 (s.voicingOf i r).layers
  rw [State.slot_modSlot_same] at hx hlen
  exact ⟨hx, hlen.trans List.length_replicate⟩

theorem State.startNote_phase : ((s.startNote i pk r).slot i).phase = .sounding := by rw [(s.startNote_own i pk r).1]

end

/-! ### What the samples make of a note that sounds (R85 to R88) -/

section
variable {m : State} {i : SlotIx} {pk : Packet}

theorem Slot.released_qPrev (x : Slot) (live : Option BankIx) (found : Option Resolution) (q z : Nat) :
    { Slot.released { x with qPrev := q } live found with qPrev := z } = { x.released live found with qPrev := z } := by
  unfold Slot.released Slot.applyPending
  cases hp : x.pendingSettings <;> rfl

/-- Samples that hold a note, one that releases it, and samples that make no onset (R78, R85, R86). -/
theorem State.samples_release {before low : List Nat} {c : Nat} (qPrev : Nat) (hp : (m.slot i).phase = .sounding)
    (hr : (m.slot i).rearm = false) (hbefore : pk.settings.allHeld before = true)
    (hc : scaledPressure pk.settings c < pk.settings.offThreshold) (hlow : pk.settings.allLow low = true) :
    (before ++ c :: low).foldl (State.sample i pk) (m.setSlot i { m.slot i with qPrev := qPrev }) =
      State.drain ((State.releaseLayers .release (m.slot i).layers m).setSlot i
        { (m.slot i).released m.store.liveBank
            (m.foundIn (m.store.liveBank.or (m.slot i).bank) (m.slot i).confirmed) with
          qPrev := pk.settings.prior (scaledPressure pk.settings c) low }) := by
  have hheld : before.foldl (State.sample i pk) (m.setSlot i { m.slot i with qPrev := qPrev }) =
      m.setSlot i { m.slot i with qPrev := pk.settings.prior qPrev before } := by
    rw [State.samples_held (by simp [hp]) hbefore, State.slot_setSlot_same, State.setSlot_setSlot]
  rw [List.foldl_append, List.foldl_cons, hheld, State.sample_releases (by simpa using hp) hc]
  simp only [State.slot_setSlot_same, State.setSlot_store, State.foundIn_setSlot, Slot.released_qPrev,
    State.releaseLayers_setSlot, State.setSlot_setSlot]
  rw [State.samples_low (by simp [Slot.released]) (by simpa [Slot.released] using hr) hlow]
  exact State.drain_modSlot _ _ _
    (fun x => { x with qPrev := pk.settings.prior ((State.slot _ i).qPrev) low }) rfl |>.trans (by simp)

/-- An onset behind a drain test (R81, R87, R148). -/
theorem State.sample_starts_drained {y : Slot} {a : Nat} {r : Resolution} (hp : y.phase = .quiet) (hr : y.rearm = false)
    (ha : pk.settings.onThreshold ≤ scaledPressure pk.settings a) (hres : y.resolution = some r) :
    State.sample i pk (m.setSlot i y).drain a =
      ((State.drain (m.setSlot i
        { y with
          onsetVelocity := pk.settings.velocity (scaledPressure pk.settings a) y.qPrev
          outLevel := pk.expressionOf a })).startNote i pk r).modSlot i
        fun z => { z with qPrev := scaledPressure pk.settings a } := by
  have hslot : (m.setSlot i y).drain.slot i = y := by simp
  rw [State.sample_starts (r := r) (by rwa [hslot]) (by rwa [hslot]) ha (by rwa [hslot]), hslot,
    State.drain_setSlot (by simp), State.setSlot_setSlot]

/-- Samples that hold the note that sounds leave their last q alone (R44, R78). -/
theorem State.samples_held_from {q : Nat} {as : List Nat} (hp : (m.slot i).phase = .sounding)
    (h : pk.settings.allHeld as = true) :
    as.foldl (State.sample i pk) (m.modSlot i fun z => { z with qPrev := q }) =
      m.modSlot i fun z => { z with qPrev := pk.settings.prior q as } := by
  rw [State.samples_held (by simp [hp]) h, State.slot_modSlot_same, State.modSlot_eq, State.setSlot_setSlot]
  rfl

/-- What the samples make of a note that sounds, when the run begins behind a sample whose q is qPrev. -/
theorem State.soundingCourses_of_run {rest : List Nat} {last : Nat} {out : Host.Outcome State Fault Refusal} (qPrev : Nat)
    (hp : (m.slot i).phase = .sounding) (hlast : pk.settings.prior qPrev rest = scaledPressure pk.settings last)
    (hout : out = .next (State.perPacket
      (rest.foldl (State.sample i pk) (m.setSlot i { m.slot i with qPrev := qPrev })) i pk (pk.expressionOf last))) :
    m.SoundingCourses i pk rest last out := by
  refine ⟨fun hheld => ?_, fun before after c hrest hr hbefore hc hafter => ?_,
    fun before low after c a r hrest hr hbefore hc hlow ha hafter hfound => ?_⟩
  · rw [hout, State.samples_held (by simp [hp]) hheld, State.slot_setSlot_same, State.setSlot_setSlot, hlast]
  · have hq : pk.settings.prior (scaledPressure pk.settings c) after = scaledPressure pk.settings last := by
      rw [← hlast, hrest, Settings.prior_append_cons]
    rw [hout, hrest, State.samples_release qPrev hp hr hbefore hc hafter, hq,
      State.perPacket_of_silent (by simp [Slot.released])]
    exact congrArg _ (State.drain_modSlot _ _ _ (fun x => { x with outLevel := pk.expressionOf last }) rfl)
  · have hq : pk.settings.prior (scaledPressure pk.settings a) after = scaledPressure pk.settings last := by
      rw [← hlast, hrest, Settings.prior_append_cons, Settings.prior_append_cons]
    have hsplit : before ++ c :: (low ++ a :: after) = (before ++ c :: low) ++ a :: after := by simp
    rw [hout, hrest, hsplit, List.foldl_append, State.samples_release qPrev hp hr hbefore hc hlow, List.foldl_cons,
      State.sample_starts_drained (r := r) ?quiet ?armed ha ?found,
      State.samples_held_from (State.startNote_phase ..) hafter, hq]
    case quiet => rfl
    case armed => exact hr
    case found => exact hfound
    rfl

end

end Sys2Proof.Machine

/-! The stages of a SENSE packet that a slot takes (R4, R13, R14, R30 to R36, R83), and its quiet course. -/

namespace Sys2Proof.Machine

open Sys2Proof

/-! ### Taking a packet (R13, R14) -/

theorem State.takePacket_first {s : State} {i : SlotIx} {p : Sense} (h : (s.slot i).phase = .absent) :
    s.takePacket i p =
      ((s.takenAs i p .first).setSlot i (((s.takenAs i p .first).slot i).accept p.sequence)).processPacket
        i true false p := by
  have hleave : s.leaveAbsent i p =
      (s.takenAs i p .first).setSlot i (((s.takenAs i p .first).slot i).accept p.sequence) := by
    rw [State.takenAs_first_slot]
    unfold State.leaveAbsent State.takenAs
    rw [State.modSlot_eq, State.switchBank_setSlot, State.drain_setSlot (by simp [Slot.accept]), State.setSlot_setSlot]
    rfl
  unfold State.takePacket
  dsimp only
  rw [if_pos h, hleave]

theorem State.takePacket_inOrder {s : State} {i : SlotIx} {p : Sense} (h : (s.slot i).phase ≠ .absent)
    (he : (s.slot i).expectedSeq = some p.sequence) :
    s.takePacket i p = (s.setSlot i ((s.slot i).accept p.sequence)).processPacket i false false p := by
  have hd : distance8 p.sequence p.sequence = 0 := by simp [distance8]
  unfold State.takePacket
  simp only [he, Option.getD_some, hd]
  rw [if_neg h]
  rfl

theorem State.takePacket_afterGap {s : State} {i : SlotIx} {p : Sense} {e : Byte} (h : (s.slot i).phase ≠ .absent)
    (he : (s.slot i).expectedSeq = some e) (h1 : 1 ≤ (p.sequence - e).toNat) (h2 : (p.sequence - e).toNat ≤ 127) :
    s.takePacket i p =
      ((s.takenAs i p .afterGap).setSlot i (((s.takenAs i p .afterGap).slot i).accept p.sequence)).processPacket
        i false true p := by
  have hd : distance8 e p.sequence = (p.sequence - e).toNat := rfl
  unfold State.takePacket State.takenAs
  simp only [he, Option.getD_some, hd]
  rw [if_neg h, if_neg (by omega), if_pos h2, State.raise_setSlot, (s.raise_reads _).1]
  rfl

theorem State.takePacket_of_taking {s : State} {i : SlotIx} {p : Sense} {way : Taking} (h : s.taking i p = some way) :
    s.takePacket i p =
      ((s.takenAs i p way).setSlot i (((s.takenAs i p way).slot i).accept p.sequence)).processPacket
        i (decide (way = .first)) (decide (way = .afterGap)) p := by
  cases way with
  | first => exact State.takePacket_first ((s.taking_first_iff i p).mp h)
  | inOrder =>
    obtain ⟨hp, he⟩ := (s.taking_inOrder_iff i p).mp h
    exact State.takePacket_inOrder hp he
  | afterGap =>
    obtain ⟨hp, e, he, h1, h2⟩ := (s.taking_afterGap_iff i p).mp h
    exact State.takePacket_afterGap hp he h1 h2

/-! ### The stages of a packet (R4) -/

/-- The state behind stage 4 of packet p, where u is the state in which the slot handles it from stage 2 on (R4). -/
def State.confirmedBy (u : State) (i : SlotIx) (p : Sense) (way : Taking) : State :=
  (u.setSlot i ((u.slot i).accept p.sequence)).confirm i (u.packetOf i p) (decide (way = .first))
    (decide (way = .afterGap)) (u.keysIn (u.slot i) (u.slot i).bank p)

theorem State.keysOf_eq (s : State) (i : SlotIx) (p : Sense) : s.keysOf i p = s.keysIn (s.slot i) (s.slot i).bank p := by
  unfold State.keysOf State.keysIn
  cases (s.slot i).bank <;> rfl

/-- What packet p is taken with, for slot context x (R43, R50). -/
def State.packetWith (s : State) (x : Slot) (p : Sense) : Packet where
  settings := x.settings
  curve := x.bank.map fun b => (s.bank b).curves[x.settings.curve]
  roller := p.roller
  lip := p.lip

theorem State.packetOf_eq (s : State) (i : SlotIx) (p : Sense) : s.packetOf i p = s.packetWith (s.slot i) p := rfl

theorem State.keysOf_accepted (u : State) (i : SlotIx) (p : Sense) :
    (u.setSlot i ((u.slot i).accept p.sequence)).keysOf i p = u.keysIn (u.slot i) (u.slot i).bank p := by
  rw [State.keysOf_eq, State.slot_setSlot_same]
  rfl

theorem State.packetOf_accepted (u : State) (i : SlotIx) (p : Sense) :
    (u.setSlot i ((u.slot i).accept p.sequence)).packetOf i p = u.packetOf i p := by
  rw [State.packetOf_eq, State.slot_setSlot_same]
  rfl

theorem exec_sense_of_takes {s : State} {fields : List Byte} {p : Sense} {i : SlotIx} {way : Taking} {last : Nat}
    (h : s.Takes fields p i way last) :
    exec (.sense fields) s = .next (State.perPacket
      (p.samples.foldl (State.sample i ((s.takenAs i p way).packetOf i p)) ((s.takenAs i p way).confirmedBy i p way))
      i ((s.takenAs i p way).packetOf i p) (((s.takenAs i p way).packetOf i p).expressionOf last)) := by
  obtain ⟨hreceived, hread, hroute, htaking, hlast⟩ := h
  rw [exec_sense_of_received hreceived hread, hroute]
  refine congrArg Host.Outcome.next ((State.takePacket_of_taking htaking).trans ?_)
  unfold State.processPacket State.confirmedBy
  rw [State.packetOf_accepted, State.keysOf_accepted, hlast]
  dsimp only
  rw [Option.getD_some, Packet.expression_eq]

/-! ### Confirmation (R30 to R34) -/

/-- The count of a run behind the acceptance of its packet (R31, R32, R34). -/
theorem Slot.countRun_accept (x : Slot) (sequence : Byte) {way : Taking} (hway : way ≠ .first) (ks : KeySet) :
    (x.accept sequence).countRun (decide (way = .afterGap)) ks = x.hears sequence way ks := by
  unfold Slot.countRun Slot.hears Slot.accept
  cases way with
  | first => exact absurd rfl hway
  | inOrder =>
    by_cases hks : ks = x.candidate
    · simp [hks]
    · simp [hks]
  | afterGap => simp

theorem Slot.confirmFirst_accept (x : Slot) (sequence : Byte) (ks : KeySet) :
    (x.accept sequence).confirmFirst ks = { x.hears sequence .first ks with confirmed := ks } := rfl

theorem Slot.confirmQuiet_accept (x : Slot) (sequence : Byte) {way : Taking} (hway : way ≠ .first) (ks : KeySet) :
    (x.accept sequence).confirmQuiet (decide (way = .afterGap)) ks =
      { x.hears sequence way ks with confirmed := ks } := by
  unfold Slot.confirmQuiet
  rw [Slot.countRun_accept x sequence hway ks]

/-- A slot context behind the confirmation of a packet's key set and the lookup (R30, R31, R36). -/
def State.settledOn (u : State) (i : SlotIx) (p : Sense) (way : Taking) : Slot :=
  { (u.slot i).hears p.sequence way (u.keysIn (u.slot i) (u.slot i).bank p) with
    confirmed := u.keysIn (u.slot i) (u.slot i).bank p
    resolution := u.foundIn (u.slot i).bank (u.keysIn (u.slot i) (u.slot i).bank p) }

section
variable {u : State} {i : SlotIx} {p : Sense} {way : Taking}

theorem State.confirmedBy_first :
    u.confirmedBy i p .first = u.setSlot i (u.settledOn i p .first) := by
  unfold State.confirmedBy State.confirm
  rw [if_pos (decide_eq_true rfl), State.modSlot_setSlot, State.refreshResolution_setSlot]
  rfl

/-- Stages 3 and 4 in QUIET and STALLED (R31, R36, R83). -/
theorem State.confirmedBy_silent (hway : way ≠ .first) (hp : (u.slot i).phase ≠ .sounding) :
    u.confirmedBy i p way =
      (u.setSlot i (u.settledOn i p way)).stalledStart i (u.packetOf i p) := by
  have hrefresh : ((u.setSlot i ((u.slot i).accept p.sequence)).modSlot i fun x =>
      x.confirmQuiet (decide (way = .afterGap)) (u.keysIn (u.slot i) (u.slot i).bank p)).refreshResolution i =
      u.setSlot i (u.settledOn i p way) := by
    rw [State.modSlot_setSlot, Slot.confirmQuiet_accept _ _ hway, State.refreshResolution_setSlot]
    rfl
  refine (if_neg (by simpa using hway)).trans ?_
  rw [hrefresh, State.slot_setSlot_same]
  have hphase : ((u.slot i).accept p.sequence).phase = (u.slot i).phase := rfl
  rw [hphase]
  cases h : (u.slot i).phase with
  | sounding => exact absurd h hp
  | unbound | absent | quiet | stalled => rfl

theorem State.confirmedBy_quiet (hp : (u.slot i).phase = .quiet) :
    u.confirmedBy i p way = u.setSlot i (u.settledOn i p way) := by
  by_cases hway : way = .first
  · subst hway
    exact State.confirmedBy_first
  · rw [State.confirmedBy_silent hway (by simp [hp])]
    unfold State.stalledStart
    rw [State.slot_setSlot_same]
    have hphase : (u.settledOn i p way).phase = .quiet := hp
    rw [hphase]

theorem State.confirmedBy_stalled_none (hway : way ≠ .first) (hp : (u.slot i).phase = .stalled)
    (hfound : u.foundIn (u.slot i).bank (u.keysIn (u.slot i) (u.slot i).bank p) = none) :
    u.confirmedBy i p way = u.setSlot i (u.settledOn i p way) := by
  have hresolution : (u.settledOn i p way).resolution = none := hfound
  rw [State.confirmedBy_silent hway (by simp [hp])]
  unfold State.stalledStart
  rw [State.slot_setSlot_same, hresolution]
  split
  · next h => exact absurd h (by simp)
  · rfl

theorem State.confirmedBy_stalled_some (hway : way ≠ .first) (hp : (u.slot i).phase = .stalled) {r : Resolution}
    (hfound : u.foundIn (u.slot i).bank (u.keysIn (u.slot i) (u.slot i).bank p) = some r) :
    u.confirmedBy i p way = (u.setSlot i (u.settledOn i p way)).startNote i (u.packetOf i p) r := by
  have hresolution : (u.settledOn i p way).resolution = some r := hfound
  have hphase : (u.settledOn i p way).phase = .stalled := hp
  rw [State.confirmedBy_silent hway (by simp [hp])]
  unfold State.stalledStart
  rw [State.slot_setSlot_same, hresolution, hphase]

theorem Slot.testPasses_iff (x : Slot) :
    x.testPasses = true ↔ x.settings.confirmCount ≤ x.runCount ∧ x.candidate ≠ x.confirmed := by
  simp [Slot.testPasses]

/-- Stages 3 and 4 in SOUNDING (R32, R33, R89). -/
theorem State.confirmedBy_sounding (hway : way ≠ .first) (hp : (u.slot i).phase = .sounding) :
    u.confirmedBy i p way =
      if (u.slot i).settings.confirmCount ≤
            ((u.slot i).hears p.sequence way (u.keysIn (u.slot i) (u.slot i).bank p)).runCount ∧
          u.keysIn (u.slot i) (u.slot i).bank p ≠ (u.slot i).confirmed then
        (u.setSlot i
          { (u.slot i).hears p.sequence way (u.keysIn (u.slot i) (u.slot i).bank p) with
            confirmed := u.keysIn (u.slot i) (u.slot i).bank p }).changeFingering i (u.packetOf i p)
      else u.setSlot i ((u.slot i).hears p.sequence way (u.keysIn (u.slot i) (u.slot i).bank p)) := by
  have hphase : ((u.slot i).accept p.sequence).phase = .sounding := hp
  refine (if_neg (by simpa using hway)).trans ?_
  rw [State.slot_setSlot_same, hphase]
  dsimp only
  unfold State.confirmSounding
  rw [State.modSlot_setSlot, Slot.countRun_accept _ _ hway]
  dsimp only
  rw [State.slot_setSlot_same, State.modSlot_setSlot]
  simp only [Slot.testPasses_iff]
  rfl

end

/-- A slot that leaves ABSENT is QUIET (R13). -/
theorem State.way_ne_first {s : State} {i : SlotIx} {p : Sense} {way : Taking}
    (hp : ((s.takenAs i p way).slot i).phase ≠ .quiet) : way ≠ .first := by
  rintro rfl
  rw [State.takenAs_first_slot] at hp
  exact hp rfl

/-- The samples and stage 6 of a packet that makes no onset in QUIET (R44, R45, R78). -/
theorem State.quiet_packet {u : State} {i : SlotIx} {pk : Packet} {y : Slot} {as : List Nat} {last e : Nat}
    (hp : y.phase = .quiet) (hno : pk.settings.noOnset y.rearm as = true) (hlast : as.getLast? = some last) :
    State.perPacket (as.foldl (State.sample i pk) (u.setSlot i y)) i pk e =
      u.setSlot i
        { y with
          rearm := y.rearm && pk.settings.allHeld as, qPrev := scaledPressure pk.settings last, outLevel := e } := by
  rw [State.samples_quiet (by rwa [State.slot_setSlot_same]) (by rwa [State.slot_setSlot_same]),
    State.slot_setSlot_same, State.setSlot_setSlot, Settings.prior_of_last _ _ hlast,
    State.perPacket_of_silent (by simp [hp]), State.slot_setSlot_same, State.setSlot_setSlot]

/-- Settles O42. -/
theorem quietPacketFollowsBreath : Obligations.QuietPacketFollowsBreath := by
  unfold Obligations.QuietPacketFollowsBreath
  refine ⟨fun s fields p i way last h => ?packet, fun s i pk a => ⟨State.sample_rearming, State.sample_low,
    fun r => State.sample_starts, State.sample_stalls, State.sample_abandons, State.sample_releases,
    State.sample_held, State.sample_unheard, fun p => ?read⟩⟩
  case read =>
    rw [State.packetOf_eq]
    unfold State.packetWith
    cases (s.slot i).bank <;> rfl
  case packet =>
    intro u x ks pk heard hquiet
    have hexec := exec_sense_of_takes h
    rw [State.confirmedBy_quiet hquiet] at hexec
    refine ⟨fun hno => ?_, hexec⟩
    obtain ⟨-, -, -, -, hlast⟩ := h
    rw [hexec]
    refine congrArg Host.Outcome.next ((State.quiet_packet (y := heard) (pk := pk) hquiet hno hlast).trans ?_)
    rw [State.expressionOf_packetOf]
    rfl

end Sys2Proof.Machine

/-! Onsets (R80 to R83) and releases (R85 to R87) of a packet. -/

namespace Sys2Proof.Machine

open Sys2Proof

/-! ### A start looks at no q_prev -/

/-- The state with another q_prev in slot i. -/
def State.withPrev (s : State) (i : SlotIx) (q : Nat) : State := s.modSlot i fun x => { x with qPrev := q }

section
variable (s : State) (i : SlotIx) (q : Nat)

theorem State.withPrev_eq : s.withPrev i q = s.setSlot i { s.slot i with qPrev := q } := rfl

theorem State.withPrev_reads :
    (s.withPrev i q).pool = s.pool ∧ (s.withPrev i q).port = s.port ∧ (s.withPrev i q).store = s.store ∧
      (s.withPrev i q).responder = s.responder ∧ (∀ v, (s.withPrev i q).voice v = s.voice v) ∧
      (∀ b, (s.withPrev i q).bank b = s.bank b) ∧
      (s.withPrev i q).slot i = { s.slot i with qPrev := q } :=
  ⟨rfl, rfl, rfl, rfl, fun _ => rfl, fun _ => rfl, s.slot_modSlot_same i _⟩

theorem State.withPrev_modSlot (j : SlotIx) (f : Slot → Slot)
    (hf : ∀ x : Slot, f { x with qPrev := q } = { f x with qPrev := q }) :
    (s.modSlot j f).withPrev i q = (s.withPrev i q).modSlot j f := by
  by_cases h : i = j
  · subst h
    rw [State.withPrev_eq, State.withPrev_eq, State.modSlot_eq s, State.modSlot_setSlot, State.slot_setSlot_same,
      State.setSlot_setSlot, hf]
  · have hv : i.val ≠ j.val := fun e => h (Fin.ext e)
    rw [State.withPrev_eq, State.slot_modSlot, if_neg (Ne.symm h), State.modSlot_eq, State.withPrev_eq, State.modSlot_eq,
      State.slot_setSlot_ne _ _ h]
    unfold State.setSlot
    rw [Vector.set_comm _ _ (Ne.symm hv)]

theorem State.withPrev_raise (c : Capture) : (s.raise c).withPrev i q = (s.withPrev i q).raise c :=
  State.raise_modSlot s i _ c

theorem State.withPrev_raiseIf (b : Bool) (c : Capture) : (s.raiseIf b c).withPrev i q = (s.withPrev i q).raiseIf b c := by
  cases b
  · rfl
  · exact s.withPrev_raise i q c

theorem State.withPrev_enqueue (r : VoiceRecord) : (s.enqueue r).withPrev i q = (s.withPrev i q).enqueue r := by
  rw [State.withPrev_eq, (s.enqueue_reads r).1, State.enqueue_setSlot]
  rfl

theorem State.withPrev_cutFormer (v : VoiceIx) : (s.cutFormer v).withPrev i q = (s.withPrev i q).cutFormer v :=
  State.withPrev_enqueue _ i q _

theorem State.withPrev_steal (v : VoiceIx) (j : SlotIx) : (s.steal v j).withPrev i q = (s.withPrev i q).steal v j := by
  have hvoice : (s.withPrev i q).voice v = s.voice v := rfl
  unfold State.steal
  rw [hvoice]
  cases (s.voice v).owner with
  | none => rfl
  | some o =>
    have hdrop : ((s.setAgeList (s.pool.ageList.erase v)).modSlot o.slot (dropVoice v)).withPrev i q =
        ((s.withPrev i q).setAgeList (s.pool.ageList.erase v)).modSlot o.slot (dropVoice v) :=
      State.withPrev_modSlot _ i q _ _ fun _ => rfl
    dsimp only
    rw [show (s.withPrev i q).pool = s.pool from rfl, show (s.withPrev i q).responder = s.responder from rfl, ← hdrop]
    generalize (s.setAgeList (s.pool.ageList.erase v)).modSlot o.slot (dropVoice v) = t
    have hraise (w : State) :
        (if s.responder.engine.stealMode = .rotating then (w.raise (.steal v o.slot j)).setRotation o.slot
          else w.raise (.steal v o.slot j)).withPrev i q =
        if s.responder.engine.stealMode = .rotating then ((w.withPrev i q).raise (.steal v o.slot j)).setRotation o.slot
          else (w.withPrev i q).raise (.steal v o.slot j) := by
      rw [← State.withPrev_raise]
      split <;> rfl
    rw [hraise]
    cases (s.voice v).dn with
    | pending => rfl
    | opened =>
      dsimp only
      rw [State.withPrev_cutFormer]
      rfl
    | none | tail => rfl

theorem State.withPrev_takeVoice (c : AllocClass) (v : VoiceIx) (j : SlotIx) :
    (s.takeVoice c v j).withPrev i q = (s.withPrev i q).takeVoice c v j := by
  cases c with
  | class1 => rfl
  | class2 => exact s.withPrev_cutFormer i q v
  | class3 => exact State.withPrev_cutFormer _ i q v
  | class4 => exact s.withPrev_steal i q v j

variable (pk : Packet) (r : Resolution) (vc : Voicing)

theorem State.withPrev_placeStart (v : VoiceIx) (ch pg pc vel lv : Nat) :
    (s.placeStart v ch pg pc vel lv).withPrev i q = (s.withPrev i q).placeStart v ch pg pc vel lv := by
  unfold State.placeStart
  rw [show (s.withPrev i q).voice v = s.voice v from rfl, ← State.withPrev_enqueue]
  rfl

theorem State.withPrev_startLayer (k : Nat) (l : Layer) :
    (s.startLayer i pk r vc k l).withPrev i q = (s.withPrev i q).startLayer i pk r vc k l := by
  have hslot : (s.withPrev i q).slot i = { s.slot i with qPrev := q } := s.slot_modSlot_same i _
  unfold State.startLayer
  rw [show (s.withPrev i q).pool = s.pool from rfl, show (s.withPrev i q).responder = s.responder from rfl, hslot]
  cases s.pool.candidate s.responder.engine.stealMode pk.settings.priority with
  | none => rfl
  | some cv =>
    dsimp only
    rw [State.withPrev_placeStart, State.withPrev_raiseIf, State.withPrev_modSlot _ _ _ _ _ (fun _ => rfl),
      ← State.withPrev_takeVoice]
    rfl

theorem State.withPrev_startLayers (k : Nat) (ls : List Layer) :
    (State.startLayers i pk r vc k ls s).withPrev i q = State.startLayers i pk r vc k ls (s.withPrev i q) := by
  induction ls generalizing s k with
  | nil => rfl
  | cons l ls ih =>
    unfold State.startLayers
    rw [ih, State.withPrev_startLayer]

theorem State.withPrev_startNote : (s.startNote i pk r).withPrev i q = (s.withPrev i q).startNote i pk r := by
  have hslot (t : State) : ((t.withPrev i q).slot i).layers = (t.slot i).layers := by
    rw [show (t.withPrev i q).slot i = { t.slot i with qPrev := q } from t.slot_modSlot_same i _]
  have hvoicing : (s.withPrev i q).voicingOf i r = s.voicingOf i r := by
    unfold State.voicingOf
    rw [show (s.withPrev i q).slot i = { s.slot i with qPrev := q } from s.slot_modSlot_same i _]
    rfl
  unfold State.startNote
  rw [hvoicing]
  dsimp only
  rw [State.withPrev_raiseIf, ← State.withPrev_modSlot _ _ _ _ _ (fun _ => rfl), ← State.withPrev_startLayers, hslot]

end

end Sys2Proof.Machine

/-! Onsets (R80 to R83) and releases (R85 to R87) of a packet, sample by sample. -/

namespace Sys2Proof.Machine

open Sys2Proof

section
variable {u : State} {i : SlotIx} {pk : Packet} {y : Slot} {before after : List Nat} {a : Nat}

/-- A slot context at an onset behind samples that make none (R80). -/
def Slot.struck (y : Slot) (pk : Packet) (before : List Nat) (a : Nat) : Slot :=
  { y with
    rearm := false
    onsetVelocity := pk.settings.velocity (scaledPressure pk.settings a) (pk.settings.prior y.qPrev before) }

theorem State.samples_quiet_from (hp : y.phase = .quiet) (hno : pk.settings.noOnset y.rearm before = true) :
    before.foldl (State.sample i pk) (u.setSlot i y) = u.setSlot i
      { y with rearm := y.rearm && pk.settings.allHeld before, qPrev := pk.settings.prior y.qPrev before } := by
  rw [State.samples_quiet (by rwa [State.slot_setSlot_same]) (by rwa [State.slot_setSlot_same]),
    State.slot_setSlot_same, State.setSlot_setSlot]

/-- Samples that make no onset, and one that starts a note (R78, R80, R81). -/
theorem State.samples_start {r : Resolution} (hp : y.phase = .quiet) (hno : pk.settings.noOnset y.rearm before = true)
    (harm : (y.rearm && pk.settings.allHeld before) = false)
    (ha : pk.settings.onThreshold ≤ scaledPressure pk.settings a) (hres : y.resolution = some r) :
    (before ++ a :: after).foldl (State.sample i pk) (u.setSlot i y) =
      after.foldl (State.sample i pk)
        (((u.setSlot i { y.struck pk before a with
            qPrev := pk.settings.prior y.qPrev before, outLevel := pk.expressionOf a }).startNote i pk r).modSlot i
          fun z => { z with qPrev := scaledPressure pk.settings a }) := by
  rw [List.foldl_append, List.foldl_cons, State.samples_quiet_from hp hno, harm,
    State.sample_starts (r := r) (by rwa [State.slot_setSlot_same]) (by rw [State.slot_setSlot_same]) ha
      (by rwa [State.slot_setSlot_same]), State.slot_setSlot_same, State.setSlot_setSlot]
  rfl

/-- Samples that make no onset, and one that stalls the slot (R78, R80, R82). -/
theorem State.samples_stall (hp : y.phase = .quiet) (hno : pk.settings.noOnset y.rearm before = true)
    (harm : (y.rearm && pk.settings.allHeld before) = false)
    (ha : pk.settings.onThreshold ≤ scaledPressure pk.settings a) (hres : y.resolution = none) :
    (before ++ a :: after).foldl (State.sample i pk) (u.setSlot i y) =
      after.foldl (State.sample i pk)
        (State.raise
          (State.drain (u.setSlot i
            { y.struck pk before a with
              phase := .stalled, bank := u.store.liveBank.or y.bank, qPrev := scaledPressure pk.settings a }))
          (.unmapped i y.confirmed)) := by
  rw [List.foldl_append, List.foldl_cons, State.samples_quiet_from hp hno, harm,
    State.sample_stalls (by rwa [State.slot_setSlot_same]) (by rw [State.slot_setSlot_same]) ha
      (by rwa [State.slot_setSlot_same]), State.slot_setSlot_same, State.setSlot_setSlot]
  rfl

/-- The samples and stage 6 of a packet that stalls its slot (R82). -/
theorem State.stalling_packet {last e : Nat} (hp : y.phase = .quiet)
    (hno : pk.settings.noOnset y.rearm before = true) (harm : (y.rearm && pk.settings.allHeld before) = false)
    (ha : pk.settings.onThreshold ≤ scaledPressure pk.settings a) (hres : y.resolution = none)
    (hafter : pk.settings.allHeld after = true) (hlast : (before ++ a :: after).getLast? = some last) :
    State.perPacket ((before ++ a :: after).foldl (State.sample i pk) (u.setSlot i y)) i pk e =
      State.raise
        (State.drain (u.setSlot i
          { y.struck pk before a with
            phase := .stalled, bank := u.store.liveBank.or y.bank, qPrev := scaledPressure pk.settings last
            outLevel := e }))
        (.unmapped i y.confirmed) := by
  have hq : pk.settings.prior (scaledPressure pk.settings a) after = scaledPressure pk.settings last := by
    rw [← Settings.prior_append_cons pk.settings 0 a before after, Settings.prior_of_last _ _ hlast]
  rw [State.samples_stall hp hno harm ha hres, State.samples_held (by simp) hafter,
    State.perPacket_of_silent (by simp)]
  simp only [State.raise_reads, State.drain_reads, State.slot_setSlot_same, State.raise_setSlot, State.setSlot_setSlot, hq]
  rw [State.drain_setSlot (by simp), State.setSlot_setSlot]

/-- The samples and stage 6 of a packet whose samples hold a stalled onset (R83). -/
theorem State.waiting_packet {last e : Nat} {as : List Nat} (hp : y.phase = .stalled)
    (hheld : pk.settings.allHeld as = true) (hlast : as.getLast? = some last) :
    State.perPacket (as.foldl (State.sample i pk) (u.setSlot i y)) i pk e =
      u.setSlot i { y with qPrev := scaledPressure pk.settings last, outLevel := e } := by
  rw [State.samples_held (by simp [hp]) hheld, State.slot_setSlot_same, State.setSlot_setSlot,
    Settings.prior_of_last _ _ hlast, State.perPacket_of_silent (by simp [hp]), State.slot_setSlot_same,
    State.setSlot_setSlot]

/-- The samples and stage 6 of a packet that abandons a stalled onset (R84). -/
theorem State.abandoning_packet {last e : Nat} (hp : y.phase = .stalled) (hr : y.rearm = false)
    (hbefore : pk.settings.allHeld before = true) (ha : scaledPressure pk.settings a < pk.settings.offThreshold)
    (hafter : pk.settings.allLow after = true) (hlast : (before ++ a :: after).getLast? = some last) :
    State.perPacket ((before ++ a :: after).foldl (State.sample i pk) (u.setSlot i y)) i pk e =
      State.drain (u.setSlot i
        { y with
          phase := .quiet, bank := u.store.liveBank.or y.bank, qPrev := scaledPressure pk.settings last
          outLevel := e }) := by
  have hq : pk.settings.prior (scaledPressure pk.settings a) after = scaledPressure pk.settings last := by
    rw [← Settings.prior_append_cons pk.settings 0 a before after, Settings.prior_of_last _ _ hlast]
  rw [List.foldl_append, List.foldl_cons, State.samples_held (by simp [hp]) hbefore, State.slot_setSlot_same,
    State.setSlot_setSlot, State.sample_abandons (by simpa using hp) ha, State.slot_setSlot_same, State.setSlot_setSlot,
    State.samples_low (by simp) (by simpa using hr) hafter, State.perPacket_of_silent (by simp)]
  simp only [State.drain_reads, State.slot_setSlot_same, State.setSlot_setSlot, hq]
  rw [State.drain_setSlot (by simp), State.setSlot_setSlot]
  rfl

end

/-- The samples and stage 6 of a packet behind a start at stage 4 (R83, R88). -/
theorem State.held_packet {n : State} {i : SlotIx} {pk : Packet} {as : List Nat} {last e : Nat}
    (hp : (n.slot i).phase = .sounding) (hheld : pk.settings.allHeld as = true) (hlast : as.getLast? = some last) :
    State.perPacket (as.foldl (State.sample i pk) n) i pk e =
      State.perPacket (n.modSlot i fun z => { z with qPrev := scaledPressure pk.settings last }) i pk e := by
  rw [State.samples_held (.inr hp) hheld, Settings.prior_of_last _ _ hlast]
  rfl

/-- Settles O44. -/
theorem onsetWithoutResolutionStalls : Obligations.OnsetWithoutResolutionStalls := by
  unfold Obligations.OnsetWithoutResolutionStalls
  intro s fields p i way last h u x st q e ks pk live heard
  have hexec := exec_sense_of_takes h
  have hlevel (a : Nat) : pk.expressionOf a = e a := u.expressionOf_packetOf i p a
  obtain ⟨-, -, -, -, hlast⟩ := h
  have hsettled {f : Option Resolution} (hf : u.foundIn x.bank ks = f) :
      u.settledOn i p way = { heard with resolution := f } := by rw [← hf]; rfl
  refine ⟨fun before after a hsamples hquiet hnone hno harm ha hafter => ?_, fun hstalled hnone => ?_,
    fun r hstalled hsome => ?_⟩
  · rw [hexec, hsamples, State.confirmedBy_quiet hquiet, hsettled hnone]
    rw [hsamples] at hlast
    refine congrArg Host.Outcome.next
      ((State.stalling_packet (y := heard) (pk := pk) hquiet hno harm ha rfl hafter hlast).trans ?_)
    rw [hlevel]
    rfl
  · rw [State.confirmedBy_stalled_none (State.way_ne_first fun hq => absurd (hstalled.symm.trans hq) (by decide)) hstalled hnone,
      hsettled hnone, hlevel] at hexec
    refine ⟨fun hheld => ?_, fun before after a hsamples hr hbefore ha hafter => ?_, hexec⟩
    · rw [hexec]
      exact congrArg Host.Outcome.next (State.waiting_packet (y := heard) (pk := pk) hstalled hheld hlast)
    · rw [hexec, hsamples]
      rw [hsamples] at hlast
      exact congrArg Host.Outcome.next
        (State.abandoning_packet (y := heard) (pk := pk) hstalled hr hbefore ha hafter hlast)
  · rw [State.confirmedBy_stalled_some (State.way_ne_first fun hq => absurd (hstalled.symm.trans hq) (by decide)) hstalled hsome,
      hsettled hsome, hlevel] at hexec
    exact ⟨fun hheld => hexec.trans (congrArg Host.Outcome.next
      (State.held_packet (State.startNote_phase ..) hheld hlast)), hexec⟩

end Sys2Proof.Machine

/-! The release of a note by a sample (R85 to R87), and the start of one (R81, R113). -/

namespace Sys2Proof.Machine

open Sys2Proof

/-- What the samples make of a note that sounds when they are tested in full. -/
theorem State.soundingCourses_of_all {m : State} {i : SlotIx} {pk : Packet} {as : List Nat} {last : Nat}
    {out : Host.Outcome State Fault Refusal} (hp : (m.slot i).phase = .sounding) (hlast : as.getLast? = some last)
    (hout : out = .next (State.perPacket (as.foldl (State.sample i pk) m) i pk (pk.expressionOf last))) :
    m.SoundingCourses i pk as last out := by
  refine State.soundingCourses_of_run (m.slot i).qPrev hp (Settings.prior_of_last _ _ hlast) (hout.trans ?_)
  rw [show m.setSlot i { m.slot i with qPrev := (m.slot i).qPrev } = m from m.setSlot_slot i]

/-- The note that an onset starts does not depend on the q_prev it is judged by. -/
theorem State.startNote_prior (u : State) (i : SlotIx) (pk : Packet) (r : Resolution) (y : Slot) (z q : Nat) :
    ((u.setSlot i { y with qPrev := z }).startNote i pk r).modSlot i (fun x => { x with qPrev := q }) =
      ((u.setSlot i y).startNote i pk r).withPrev i q := by
  have hz : u.setSlot i { y with qPrev := z } = (u.setSlot i y).withPrev i z := by
    rw [State.withPrev_eq, State.slot_setSlot_same, State.setSlot_setSlot]
  rw [hz, ← State.withPrev_startNote]
  generalize (u.setSlot i y).startNote i pk r = n
  rw [State.withPrev_eq, State.withPrev_eq, State.modSlot_setSlot]

/-- Stages 3 and 4 in SOUNDING when the confirmation test does not pass (R33). -/
theorem State.confirmedBy_unconfirmed {u : State} {i : SlotIx} {p : Sense} {way : Taking}
    (hp : (u.slot i).phase = .sounding)
    (h : u.keysIn (u.slot i) (u.slot i).bank p = (u.slot i).confirmed ∨
      ((u.slot i).hears p.sequence way (u.keysIn (u.slot i) (u.slot i).bank p)).runCount <
        (u.slot i).settings.confirmCount) (hway : way ≠ .first) :
    u.confirmedBy i p way =
      u.setSlot i ((u.slot i).hears p.sequence way (u.keysIn (u.slot i) (u.slot i).bank p)) := by
  rw [State.confirmedBy_sounding hway hp, if_neg]
  rintro ⟨hcount, hks⟩
  rcases h with h | h
  · exact hks h
  · omega

/-- What the samples behind an onset make of the note it starts (R87, R88). -/
theorem State.soundingCourses_of_start {u : State} {i : SlotIx} {pk : Packet} {y : Slot} {before rest : List Nat}
    {a last : Nat} {r : Resolution} {out : Host.Outcome State Fault Refusal} (hp : y.phase = .quiet)
    (hno : pk.settings.noOnset y.rearm before = true) (harm : (y.rearm && pk.settings.allHeld before) = false)
    (ha : pk.settings.onThreshold ≤ scaledPressure pk.settings a) (hres : y.resolution = some r)
    (hlast : (before ++ a :: rest).getLast? = some last)
    (hout : out = .next (State.perPacket ((before ++ a :: rest).foldl (State.sample i pk) (u.setSlot i y)) i pk
      (pk.expressionOf last))) :
    ((u.setSlot i { y.struck pk before a with outLevel := pk.expressionOf a }).startNote i pk r).SoundingCourses
      i pk rest last out := by
  refine State.soundingCourses_of_run (scaledPressure pk.settings a) (State.startNote_phase ..) ?_ ?_
  · rw [← Settings.prior_append_cons pk.settings 0 a before rest, Settings.prior_of_last _ _ hlast]
  · rw [hout, State.samples_start hp hno harm ha hres]
    exact congrArg (fun w => Host.Outcome.next (State.perPacket (rest.foldl (State.sample i pk) w) i pk
      (pk.expressionOf last))) (State.startNote_prior u i pk r
        { y.struck pk before a with outLevel := pk.expressionOf a } (pk.settings.prior y.qPrev before)
        (scaledPressure pk.settings a))

/-- Settles O45. -/
theorem releaseEndsNote : Obligations.ReleaseEndsNote := by
  unfold Obligations.ReleaseEndsNote
  intro s fields p i way last h u x st q ks pk heard asked
  have hexec := exec_sense_of_takes h
  obtain ⟨-, -, -, -, hlast⟩ := h
  refine ⟨fun hsounding htest => ?_, fun before rest a r hsamples hquiet hfound hno harm ha => ?_,
    fun r hstalled hfound => ?_⟩
  · rw [State.confirmedBy_unconfirmed hsounding htest
      (State.way_ne_first fun hq => absurd (hsounding.symm.trans hq) (by decide))] at hexec
    exact State.soundingCourses_of_all (by rw [State.slot_setSlot_same]; exact hsounding) hlast hexec
  · rw [State.confirmedBy_quiet hquiet, hsamples] at hexec
    rw [hsamples] at hlast
    have hcourses := State.soundingCourses_of_start (u := u) (y := asked) (pk := pk) hquiet hno harm ha hfound hlast hexec
    rw [State.expressionOf_packetOf] at hcourses
    exact hcourses
  · rw [State.confirmedBy_stalled_some
      (State.way_ne_first fun hq => absurd (hstalled.symm.trans hq) (by decide)) hstalled hfound] at hexec
    exact State.soundingCourses_of_all (State.startNote_phase ..) hlast hexec

end Sys2Proof.Machine

/-! The start of a note, layer by layer (R81, R108 to R113). -/

namespace Sys2Proof.Machine

open Sys2Proof

/-- A voice given to an owner: the next generation, whose START is to be sent (R113). -/
def Voice.givenTo (x : Voice) (o : Owner) : Voice :=
  { x with
    phase := .sounding, owner := some o, generation := x.generation + 1, dn := .pending
    dnGeneration := x.generation + 1 }

/-- A voice whose START has been queued, or its pitch and level taken up by the queue (R53). -/
def Voice.queuedAt (x : Voice) (pitch level : Nat) : Voice :=
  { x with lastPitch := pitch, lastLevel := level, pitchOwed := false, levelOwed := false }

theorem Voice.OwesAlike.queuedAt {x y : Voice} (h : x.OwesAlike y) (m n : Nat) : x.queuedAt m n = y.queuedAt m n := by
  obtain ⟨p, l, rfl⟩ := h
  rfl

/-- The state in which a voice has been given to a layer of slot i (R113 steps 1 to 3). -/
def State.givenAway (u : State) (i : SlotIx) (k π : Fin 4) (v : VoiceIx) : State :=
  ((u.setVoice v ((u.voice v).givenTo ⟨i, k, π⟩)).setAgeList (u.pool.ageList ++ [v])).setSlot i
    { u.slot i with layers := (u.slot i).layers.set k (some v) }

theorem State.givenAway_voice (u : State) (i : SlotIx) (k π : Fin 4) (v : VoiceIx) :
    (u.givenAway i k π v).voice v = (u.voice v).givenTo ⟨i, k, π⟩ := u.voice_setVoice_same v _

/-- The state in which a voice has been given to a layer and its START queued (R113). -/
def State.layerPlaced (u : State) (i : SlotIx) (k π : Fin 4) (v : VoiceIx) (p : Int) (l : Layer)
    (velocity level : Nat) : State :=
  State.settleStall ((State.enqueue ((u.givenAway i k π v).raiseIf (pitchOutOfRange p) (.clamp i k p))
      (.start v ((u.voice v).generation + 1) l.channel l.program (pitchCode p) velocity level)).setVoice v
    (((u.voice v).givenTo ⟨i, k, π⟩).queuedAt (pitchCode p) level))

theorem pitchOutOfRange_iff (p : Int) : pitchOutOfRange p = true ↔ p < 0 ∨ 8191 < p := by simp [pitchOutOfRange]

theorem State.raiseIf_pitch (s : State) (p : Int) (c : Capture) :
    s.raiseIf (pitchOutOfRange p) c = if p < 0 ∨ 8191 < p then s.raise c else s := by
  unfold State.raiseIf
  simp only [pitchOutOfRange_iff]

theorem pitchCode_eq (p : Int) : pitchCode p = (max 0 (min 8191 p)).toNat := by
  unfold pitchCode
  rw [clamp_eq (by decide)]

/-- The START of a voice is queued (R113 step 5). -/
theorem State.placeStart_eq (w : State) (v : VoiceIx) (ch pg pc vel lv : Nat) :
    w.placeStart v ch pg pc vel lv =
      ((w.enqueue (.start v (w.voice v).generation ch pg pc vel lv)).setVoice v
        ((w.voice v).queuedAt pc lv)).settleStall := by
  unfold State.placeStart
  rw [← ((State.Requeues.enqueue w (.start v (w.voice v).generation ch pg pc vel lv)).voice v).queuedAt]
  rfl

/-- What a raise does to the notices and to the packets depends on them and on the interval alone (R175, R178). -/
theorem State.raise_congr {s t : State} (hn : t.notices = s.notices) (hc : t.collector = s.collector)
    (hr : t.responder = s.responder) (c : Capture) :
    (t.raise c).notices = (s.raise c).notices ∧ (t.raise c).collector = (s.raise c).collector := by
  unfold State.raise
  simp only [hn, hc, hr]
  (repeat' split) <;> exact ⟨rfl, rfl⟩

theorem State.raiseIf_congr {s t : State} (hn : t.notices = s.notices) (hc : t.collector = s.collector)
    (hr : t.responder = s.responder) (b : Bool) (c : Capture) :
    (t.raiseIf b c).notices = (s.raiseIf b c).notices ∧ (t.raiseIf b c).collector = (s.raiseIf b c).collector := by
  cases b
  · exact ⟨hn, hc⟩
  · exact State.raise_congr hn hc hr c

section
variable {s : State} {i : SlotIx} {pk : Packet} {r : Resolution} {vc : Voicing} {k : Fin 4} {l : Layer}

theorem State.startLayer_of_none (h : s.pool.candidate s.responder.engine.stealMode pk.settings.priority = none) :
    s.startLayer i pk r vc k l = s := by
  unfold State.startLayer
  rw [h]

/-- A layer that is granted a voice (R112, R113). -/
theorem State.startLayer_of_some {c : AllocClass} {v : VoiceIx}
    (h : s.pool.candidate s.responder.engine.stealMode pk.settings.priority = some (c, v)) :
    s.startLayer i pk r vc k l =
      (s.takeVoice c v i).layerPlaced i k pk.settings.priority v (pk.pitch r l) l
        (layerVelocity (s.slot i).onsetVelocity vc.fixedVelocity l) (layerLevel (s.slot i).outLevel l.trim) := by
  have hgive (u : State) : (u.giveVoice v ⟨i, Fin.ofNat 4 k, pk.settings.priority⟩).modSlot i
      (fun x => { x with layers := x.layers.set k (some v) }) = u.givenAway i k pk.settings.priority v := by
    rw [Fin.ofNat_val_eq_self]
    rfl
  have hvoice (u : State) : (State.raiseIf (u.givenAway i k pk.settings.priority v) (pitchOutOfRange (pk.pitch r l))
      (.clamp i k (pk.pitch r l))).voice v = (u.voice v).givenTo ⟨i, k, pk.settings.priority⟩ := by
    rw [(State.raiseIf_reads _ _ _).2.1, State.givenAway_voice]
  unfold State.startLayer
  rw [h]
  dsimp only
  rw [hgive, State.placeStart_eq, hvoice]
  rfl

theorem State.startLayers_eq_foldl (ls : List Layer) (k : Nat) (s : State) :
    State.startLayers i pk r vc k ls s = (ls.zipIdx k).foldl (fun t lk => t.startLayer i pk r vc lk.2 lk.1) s := by
  induction ls generalizing s k with
  | nil => rfl
  | cons l ls ih => exact ih (k + 1) _

end

/-- What a layer that is granted a voice leaves while the queue has room (R113, R125). -/
theorem State.layerPlaced_of_room {u : State} {i : SlotIx} {k π : Fin 4} {v : VoiceIx} {p : Int} {l : Layer}
    {velocity level : Nat} (hroom : u.port.queue.length < 64) :
    let t := u.layerPlaced i k π v p l velocity level
    t.slots = (u.setSlot i { u.slot i with layers := (u.slot i).layers.set k (some v) }).slots ∧
      t.pool = ((u.setVoice v (((u.voice v).givenTo ⟨i, k, π⟩).queuedAt (pitchCode p) level)).setAgeList
        (u.pool.ageList ++ [v])).pool ∧
      t.port = (State.settleStall (u.setQueue (u.port.queue ++
        [.start v ((u.voice v).generation + 1) l.channel l.program (pitchCode p) velocity level]))).port ∧
      t.notices = (u.raiseIf (pitchOutOfRange p) (.clamp i k p)).notices ∧
      t.collector = (u.raiseIf (pitchOutOfRange p) (.clamp i k p)).collector ∧
      t.store = u.store ∧ t.responder = u.responder ∧ t.receivers = u.receivers := by
  obtain ⟨hslots, hpool, hport, hstore, hresponder, -, hreceivers, -, -⟩ :=
    (u.givenAway i k π v).raiseIf_frame (pitchOutOfRange p) (.clamp i k p)
  obtain ⟨hnotices, hcollector⟩ := State.raiseIf_congr (s := u) (t := u.givenAway i k π v) rfl rfl rfl
    (pitchOutOfRange p) (.clamp i k p)
  unfold State.layerPlaced
  rw [State.enqueue_of_room _ _ (by rw [hport]; exact hroom), hport]
  generalize (u.givenAway i k π v).raiseIf (pitchOutOfRange p) (.clamp i k p) = w at *
  refine ⟨hslots, ?_, ?_, hnotices, hcollector, hstore, hresponder, hreceivers⟩
  · show State.pool (State.setVoice w v _) = _
    unfold State.setVoice State.setAgeList
    rw [hpool]
    simp [State.givenAway, State.setVoice, State.setAgeList, State.setSlot]
  · unfold State.settleStall
    simp only [State.setVoice_port, State.setVoice_responder, State.setQueue, hport, hresponder]
    rfl

/-- The same, slot by slot and voice by voice. -/
structure State.Grants (u t : State) (i : SlotIx) (k π : Fin 4) (v : VoiceIx) (p : Int) (l : Layer)
    (velocity level : Nat) : Prop where
  own : t.slot i = { u.slot i with layers := (u.slot i).layers.set k (some v) }
  slots : ∀ j, j ≠ i → t.slot j = u.slot j
  voice : t.voice v = ((u.voice v).givenTo ⟨i, k, π⟩).queuedAt (pitchCode p) level
  voices : ∀ w, w ≠ v → t.voice w = u.voice w
  lists : t.pool.ageList = u.pool.ageList ++ [v] ∧ t.pool.releaseList = u.pool.releaseList ∧
    t.pool.rotation = u.pool.rotation
  port : t.port = (State.settleStall (u.setQueue (u.port.queue ++
    [.start v ((u.voice v).generation + 1) l.channel l.program (pitchCode p) velocity level]))).port
  notices : t.notices = (u.raiseIf (pitchOutOfRange p) (.clamp i k p)).notices
  collector : t.collector = (u.raiseIf (pitchOutOfRange p) (.clamp i k p)).collector
  rest : t.store = u.store ∧ t.responder = u.responder ∧ t.receivers = u.receivers

theorem State.grants_layerPlaced {u : State} {i : SlotIx} {k π : Fin 4} {v : VoiceIx} {p : Int} {l : Layer}
    {velocity level : Nat} (hroom : u.port.queue.length < 64) :
    u.Grants (u.layerPlaced i k π v p l velocity level) i k π v p l velocity level := by
  obtain ⟨hslots, hpool, hport, hnotices, hcollector, hrest⟩ := State.layerPlaced_of_room (u := u) (i := i) (k := k)
    (π := π) (v := v) (p := p) (l := l) (velocity := velocity) (level := level) hroom
  generalize u.layerPlaced i k π v p l velocity level = t at *
  have hslot (j : SlotIx) : t.slot j =
      (u.setSlot i { u.slot i with layers := (u.slot i).layers.set k (some v) }).slot j :=
    congrArg (fun z : Vector Slot 8 => z[j]) hslots
  have hvoice (w : VoiceIx) : t.voice w =
      (u.setVoice v (((u.voice v).givenTo ⟨i, k, π⟩).queuedAt (pitchCode p) level)).voice w := by
    show t.pool.voices[w] = _
    rw [hpool]
    rfl
  exact ⟨(hslot i).trans (u.slot_setSlot_same i _), fun j hj => (hslot j).trans (u.slot_setSlot_ne _ (Ne.symm hj)),
    (hvoice v).trans (u.voice_setVoice_same v _), fun w hw => (hvoice w).trans (u.voice_setVoice_ne _ (Ne.symm hw)),
    by rw [hpool]; exact ⟨rfl, rfl, rfl⟩, hport, hnotices, hcollector, hrest⟩

/-- The start of a note (R81). -/
theorem State.startNote_eq (s : State) (i : SlotIx) (pk : Packet) (r : Resolution) :
    s.startNote i pk r =
      (State.startLayers i pk r (s.voicingOf i r) 0 (s.voicingOf i r).layers (s.setSlot i
          { s.slot i with phase := .sounding, layers := List.replicate (s.voicingOf i r).layers.length none })).raiseIf
        (decide (grantedCount ((State.startLayers i pk r (s.voicingOf i r) 0 (s.voicingOf i r).layers (s.setSlot i
          { s.slot i with phase := .sounding, layers := List.replicate (s.voicingOf i r).layers.length none })).slot
            i).layers < (s.voicingOf i r).layers.length))
        (.thin i r.voicing (grantedCount ((State.startLayers i pk r (s.voicingOf i r) 0 (s.voicingOf i r).layers
          (s.setSlot i { s.slot i with
            phase := .sounding, layers := List.replicate (s.voicingOf i r).layers.length none })).slot i).layers)
          (s.voicingOf i r).layers.length) := rfl

end Sys2Proof.Machine

/-! An onset that starts its note, alone and in full (R80, R81, R113). -/

namespace Sys2Proof.Machine

open Sys2Proof

/-! ### A voicing of one layer -/

theorem State.layerPlaced_slot (u : State) (i : SlotIx) (k π : Fin 4) (v : VoiceIx) (p : Int) (l : Layer)
    (velocity level : Nat) :
    (u.layerPlaced i k π v p l velocity level).slot i =
      { u.slot i with layers := (u.slot i).layers.set k (some v) } := by
  unfold State.layerPlaced
  rw [(State.settleStall_reads _).1, State.setVoice_slot, (State.enqueue_reads _ _).1, (State.raiseIf_reads _ _ _).1]
  exact State.slot_setSlot_same _ _ _

theorem State.layerPlaced_reads (u : State) (i : SlotIx) (k π : Fin 4) (v : VoiceIx) (p : Int) (l : Layer)
    (velocity level : Nat) :
    (∀ b, (u.layerPlaced i k π v p l velocity level).bank b = u.bank b) ∧
      (u.layerPlaced i k π v p l velocity level).voice v =
        ((u.voice v).givenTo ⟨i, k, π⟩).queuedAt (pitchCode p) level := by
  obtain ⟨-, hvoice, hbank⟩ := State.settleStall_reads
    ((State.enqueue ((u.givenAway i k π v).raiseIf (pitchOutOfRange p) (.clamp i k p))
      (.start v ((u.voice v).generation + 1) l.channel l.program (pitchCode p) velocity level)).setVoice v
    (((u.voice v).givenTo ⟨i, k, π⟩).queuedAt (pitchCode p) level))
  refine ⟨fun b => (hbank b).trans ?_, (hvoice v).trans (State.voice_setVoice_same _ _ _)⟩
  rw [State.setVoice_bank, (State.enqueue_reads _ _).2, (State.raiseIf_reads _ _ _).2.2]
  rfl

/-- The one layer of a voicing is granted a voice that lies free (R81, R108). -/
theorem State.startNote_one {s : State} {i : SlotIx} {pk : Packet} {r : Resolution} {l : Layer} {v : VoiceIx}
    (hlayers : (s.voicingOf i r).layers = [l])
    (hcand : s.pool.candidate s.responder.engine.stealMode pk.settings.priority = some (.class1, v)) :
    s.startNote i pk r =
      (s.setSlot i { s.slot i with phase := .sounding, layers := [none] }).layerPlaced i 0 pk.settings.priority v
        (pk.pitch r l) l (layerVelocity (s.slot i).onsetVelocity (s.voicingOf i r).fixedVelocity l)
        (layerLevel (s.slot i).outLevel l.trim) := by
  rw [State.startNote_eq, hlayers]
  have hone (w : State) (hw : w = s.setSlot i { s.slot i with phase := .sounding, layers := [none] }) :
      State.startLayers i pk r (s.voicingOf i r) 0 [l] w =
        w.layerPlaced i 0 pk.settings.priority v (pk.pitch r l) l
          (layerVelocity (s.slot i).onsetVelocity (s.voicingOf i r).fixedVelocity l)
          (layerLevel (s.slot i).outLevel l.trim) := by
    refine (State.startLayer_of_some (k := 0) (c := .class1) (v := v) (by rw [hw]; exact hcand)).trans ?_
    rw [hw, State.slot_setSlot_same]
    rfl
  have hasked : s.setSlot i { s.slot i with phase := .sounding, layers := List.replicate [l].length none } =
      s.setSlot i { s.slot i with phase := .sounding, layers := [none] } := rfl
  rw [hone _ hasked, hasked, State.layerPlaced_slot, State.slot_setSlot_same]
  rfl

/-! ### Records for a sounding layer (R54 to R56) -/

theorem State.produceRetune_eq (s : State) (v : VoiceIx) (code : Nat) :
    s.produceRetune v code =
      if (s.voice v).lastPitch ≠ code ∨ (s.voice v).pitchOwed = true then
        (s.setVoice v { s.voice v with pitchOwed := false }).offerRetune v code
      else s := rfl

theorem State.produceLevel_eq (s : State) (v : VoiceIx) (level : Nat) :
    s.produceLevel v level =
      if s.responder.engine.deadBand < levelDistance level (s.voice v).lastLevel ∨ (s.voice v).levelOwed = true then
        (s.setVoice v { s.voice v with levelOwed := false }).offerLevel v level
      else s := rfl

theorem pitchCode_of_mem {p : Int} (h0 : 0 ≤ p) (h1 : p ≤ 8191) : pitchCode p = p.toNat := by
  rw [pitchCode_eq]
  congr 1
  omega

/-- A pitch in its range raises nothing (R51). -/
theorem State.retuneLayer_inRange {s : State} {i : SlotIx} {pk : Packet} {r : Resolution} {k : Nat} {l : Layer}
    {v : VoiceIx} (h0 : 0 ≤ pk.pitch r l) (h1 : pk.pitch r l ≤ 8191) :
    s.retuneLayer i pk r k l v = s.produceRetune v (pk.pitch r l).toNat := by
  have hcode : pitchCode (pk.pitch r l) = (pk.pitch r l).toNat := pitchCode_of_mem h0 h1
  have hno : pitchOutOfRange (pk.pitch r l) = false := by simp [pitchOutOfRange, h0, h1]
  unfold State.retuneLayer
  dsimp only
  rw [hno, hcode]
  rfl

/-- A layer whose voice was last queued what it holds takes no record (R55, R56). -/
theorem State.updateLayers_settled {s : State} {i : SlotIx} {pk : Packet} {r : Resolution} {l : Layer} {v : VoiceIx}
    {out : Nat} (h0 : 0 ≤ pk.pitch r l) (h1 : pk.pitch r l ≤ 8191)
    (hpitch : (s.voice v).lastPitch = (pk.pitch r l).toNat) (hlevel : (s.voice v).lastLevel = layerLevel out l.trim)
    (hp : (s.voice v).pitchOwed = false) (hl : (s.voice v).levelOwed = false) :
    State.updateLayers i pk r out 0 [l] [some v] s = s := by
  have hretune : s.retuneLayer i pk r 0 l v = s := by
    rw [State.retuneLayer_inRange h0 h1, State.produceRetune_eq]
    exact if_neg (by simp [hpitch, hp])
  show State.produceLevel (s.retuneLayer i pk r 0 l v) v (layerLevel out l.trim) = s
  rw [hretune, State.produceLevel_eq]
  exact if_neg (by simp [hlevel, hl, levelDistance])

theorem slewed_self (slew e : Nat) : slewed slew e e = e := by
  have := slewed_between slew e e
  omega

/-- The samples and stage 6 of a packet that starts a note and holds it (R80, R81). -/
theorem State.starting_packet {u : State} {i : SlotIx} {pk : Packet} {y : Slot} {before after : List Nat}
    {a last e : Nat} {r : Resolution} (hp : y.phase = .quiet) (hno : pk.settings.noOnset y.rearm before = true)
    (harm : (y.rearm && pk.settings.allHeld before) = false)
    (ha : pk.settings.onThreshold ≤ scaledPressure pk.settings a) (hres : y.resolution = some r)
    (hafter : pk.settings.allHeld after = true) (hlast : (before ++ a :: after).getLast? = some last) :
    State.perPacket ((before ++ a :: after).foldl (State.sample i pk) (u.setSlot i y)) i pk e =
      State.perPacket (((u.setSlot i { y.struck pk before a with
          qPrev := pk.settings.prior y.qPrev before, outLevel := pk.expressionOf a }).startNote i pk r).modSlot i
        fun z => { z with qPrev := scaledPressure pk.settings last }) i pk e := by
  have hq : pk.settings.prior (scaledPressure pk.settings a) after = scaledPressure pk.settings last := by
    rw [← Settings.prior_append_cons pk.settings 0 a before after, Settings.prior_of_last _ _ hlast]
  rw [State.samples_start hp hno harm ha hres, State.samples_held_from (State.startNote_phase ..) hafter, hq]

/-- A packet that is in order is taken as its state stands. -/
theorem State.takes_inOrder {s : State} {fields : List Byte} {p : Sense} {i : SlotIx} {last : Nat}
    (hreceived : s.receives .collector = true) (hread : readSense fields = some p) (hroute : s.route p.tag = some i)
    (hp : (s.slot i).phase ≠ .absent) (he : (s.slot i).expectedSeq = some p.sequence)
    (hlast : p.samples.getLast? = some last) : s.Takes fields p i .inOrder last :=
  ⟨hreceived, hread, hroute, (s.taking_inOrder_iff i p).mpr ⟨hp, he⟩, hlast⟩

theorem Slot.hears_inOrder (x : Slot) (sequence : Byte) (ks : KeySet) :
    x.hears sequence .inOrder ks =
      { x with
        expectedSeq := some (sequence + 1)
        lossTimer := some x.settings.lossTime
        candidate := ks
        runCount := if ks = x.candidate then min 8 (x.runCount + 1) else 1 } := by
  unfold Slot.hears
  simp only [true_and]

theorem State.foundIn_some (s : State) (b : BankIx) (ks : KeySet) :
    s.foundIn (some b) ks = lookupSet (s.bank b).fingerings ks := rfl

theorem State.voicingOf_eq {s : State} {i : SlotIx} {b : BankIx} (h : (s.slot i).bank = some b) (r : Resolution) :
    s.voicingOf i r = (s.bank b).voicings[r.voicing] := by
  unfold State.voicingOf
  rw [h]

/-- Stage 6 adds nothing to a note of one layer that the packet has started (R54). -/
theorem State.startNote_held {u : State} {i : SlotIx} {pk : Packet} {r : Resolution} {l : Layer} {v : VoiceIx} {y : Slot}
    {b : BankIx} {e q : Nat} (hres : y.resolution = some r) (hbank : y.bank = some b)
    (hlayers : (u.bank b).voicings[r.voicing].layers = [l])
    (hcand : u.pool.candidate u.responder.engine.stealMode pk.settings.priority = some (.class1, v))
    (hout : y.outLevel = e) (h0 : 0 ≤ pk.pitch r l) (h1 : pk.pitch r l ≤ 8191) :
    State.perPacket (((u.setSlot i y).startNote i pk r).modSlot i fun z => { z with qPrev := q }) i pk e =
      ((u.setSlot i { y with phase := .sounding, layers := [none] }).layerPlaced i 0 pk.settings.priority v
        (pk.pitch r l) l (layerVelocity y.onsetVelocity (u.bank b).voicings[r.voicing].fixedVelocity l)
        (layerLevel e l.trim)).setSlot i { y with phase := .sounding, layers := [some v], qPrev := q } := by
  subst hout
  have hvoicing : (u.setSlot i y).voicingOf i r = (u.bank b).voicings[r.voicing] :=
    State.voicingOf_eq (by rw [State.slot_setSlot_same, hbank]) r
  rw [State.startNote_one (s := u.setSlot i y) (l := l) (v := v) (by rw [hvoicing, hlayers]) hcand, hvoicing, State.slot_setSlot_same,
    State.setSlot_setSlot]
  obtain ⟨hbanks, hvoice⟩ := (u.setSlot i { y with phase := .sounding, layers := [none] }).layerPlaced_reads i 0
    pk.settings.priority v (pk.pitch r l) l
    (layerVelocity y.onsetVelocity (u.bank b).voicings[r.voicing].fixedVelocity l) (layerLevel y.outLevel l.trim)
  generalize hn : State.layerPlaced _ _ _ _ _ _ _ _ _ = n at hbanks hvoice ⊢
  have hslot : n.slot i = { y with phase := .sounding, layers := [some v] } := by
    rw [← hn, State.layerPlaced_slot, State.slot_setSlot_same]
    rfl
  rw [State.modSlot_eq, hslot]
  rw [State.perPacket_of_sounding (r := r) (by rw [State.slot_setSlot_same]) (by rw [State.slot_setSlot_same, hres]),
    State.voicingOf_eq (b := b) (by rw [State.slot_setSlot_same, hbank]), State.slot_setSlot_same, State.setSlot_setSlot,
    State.setSlot_bank, hbanks, State.setSlot_bank, hlayers]
  simp only [slewed_self]
  have hcode : pitchCode (pk.pitch r l) = (pk.pitch r l).toNat := pitchCode_of_mem h0 h1
  refine (State.updateLayers_settled h0 h1 ?_ ?_ ?_ ?_).trans ?_
  case refine_5 => rfl
  · rw [State.setSlot_voice, hvoice]
    exact hcode
  · rw [State.setSlot_voice, hvoice]
    rfl
  · rw [State.setSlot_voice, hvoice]
    rfl
  · rw [State.setSlot_voice, hvoice]
    rfl

/-- A packet that starts a note of one layer in a queue with room. -/
theorem State.startNote_grants {u : State} {i : SlotIx} {pk : Packet} {r : Resolution} {l : Layer} {v : VoiceIx}
    {y : Slot} {b : BankIx} {q : Nat} (hres : y.resolution = some r) (hbank : y.bank = some b)
    (hlayers : (u.bank b).voicings[r.voicing].layers = [l])
    (hcand : u.pool.candidate u.responder.engine.stealMode pk.settings.priority = some (.class1, v))
    (h0 : 0 ≤ pk.pitch r l) (h1 : pk.pitch r l ≤ 8191) (hroom : u.port.queue.length < 64) :
    ∃ n, (u.setSlot i { y with phase := .sounding, layers := [none] }).Grants n i 0 pk.settings.priority v
        (pk.pitch r l) l (layerVelocity y.onsetVelocity (u.bank b).voicings[r.voicing].fixedVelocity l)
        (layerLevel y.outLevel l.trim) ∧
      State.perPacket (((u.setSlot i y).startNote i pk r).modSlot i fun z => { z with qPrev := q }) i pk y.outLevel =
        n.setSlot i { y with phase := .sounding, layers := [some v], qPrev := q } :=
  ⟨_, State.grants_layerPlaced hroom, State.startNote_held hres hbank hlayers hcand rfl h0 h1⟩

/-- Settles O43. -/
theorem onsetStartsNote : Obligations.OnsetStartsNote := by
  unfold Obligations.OnsetStartsNote
  refine ⟨?one, fun s fields p i way before after a last r h => ?any, fun s i pk r => ?layers⟩
  case any =>
    intro u x st q ks pk prior hsamples hquiet hfound hno harm ha hafter begun
    have hexec := exec_sense_of_takes h
    obtain ⟨-, -, -, -, hlast⟩ := h
    rw [State.confirmedBy_quiet hquiet, hsamples] at hexec
    rw [hsamples] at hlast
    have hsettled : u.settledOn i p way =
        { x.hears p.sequence way ks with confirmed := ks, resolution := some r } := by rw [← hfound]; rfl
    rw [hsettled] at hexec
    have hpacket := State.starting_packet (u := u) (i := i) (pk := pk)
      (y := { x.hears p.sequence way ks with confirmed := ks, resolution := some r })
      (e := pk.expressionOf last) hquiet hno harm ha rfl hafter hlast
    rw [State.expressionOf_packetOf, State.expressionOf_packetOf] at hpacket
    rw [State.expressionOf_packetOf] at hexec
    exact hexec.trans (congrArg Host.Outcome.next hpacket)
  case layers =>
    intro vc asked given granted
    have hvc : s.voicingOf i r = vc := rfl
    refine ⟨?_, fun k l => ⟨State.startLayer_of_none, fun c v hcand => ?_⟩⟩
    · rw [State.startNote_eq, hvc]
      have hgiven : State.startLayers i pk r vc 0 vc.layers asked = given := State.startLayers_eq_foldl vc.layers 0 asked
      show State.raiseIf (State.startLayers i pk r vc 0 vc.layers asked)
        (decide (grantedCount ((State.startLayers i pk r vc 0 vc.layers asked).slot i).layers < vc.layers.length))
        (.thin i r.voicing (grantedCount ((State.startLayers i pk r vc 0 vc.layers asked).slot i).layers)
          vc.layers.length) = _
      rw [hgiven]
      unfold State.raiseIf
      simp only [decide_eq_true_eq]
      rfl
    · intro u t g pitch code level granted given placed
      have hplaced : t = u.layerPlaced i k pk.settings.priority v pitch l
          (layerVelocity (s.slot i).onsetVelocity vc.fixedVelocity l) level := State.startLayer_of_some hcand
      have hcode : pitchCode pitch = code := pitchCode_eq pitch
      refine ⟨?_, fun hroom => ?_⟩
      · rw [hplaced]
        unfold State.layerPlaced
        rw [State.raiseIf_pitch, hcode]
        rfl
      · have hgrants := State.grants_layerPlaced (u := u) (i := i) (k := k) (π := pk.settings.priority) (v := v)
          (p := pitch) (l := l) (velocity := layerVelocity (s.slot i).onsetVelocity vc.fixedVelocity l) (level := level)
          hroom
        rw [← hplaced] at hgrants
        obtain ⟨hown, hslots, hvoice, hvoices, ⟨hage, hrelease, hrotation⟩, hport, hnotices, -, hstore, hresponder,
          hreceivers⟩ := hgrants
        rw [hcode] at hvoice hport
        refine ⟨hvoice, hown, by rw [hport]; rfl, hage, hrelease, hrotation, ?_, hvoices, hslots, hstore, hresponder,
          hreceivers⟩
        rw [hnotices, State.raiseIf_pitch]
        split <;> rfl
  case one =>
    intro s fields p i a b r l v hreceived hread hroute hsamples x st ks q e octave bend pitch velocity level g hquiet
      hrearm hseq hbank hon hlook hlayers hfree hnone hfirst hroom h0 h1
    have hlast : p.samples.getLast? = some a := by rw [hsamples]; rfl
    have hexec := exec_sense_of_takes (State.takes_inOrder hreceived hread hroute
      (fun h => absurd (hquiet.symm.trans h) (by decide)) hseq hlast)
    rw [State.takenAs_inOrder, State.confirmedBy_quiet hquiet, hsamples] at hexec
    have hbank' : (s.slot i).bank = some b := hbank
    have hkeys : s.keysIn (s.slot i) (s.slot i).bank p = ks := by rw [hbank']; rfl
    have hsettled : s.settledOn i p .inOrder =
        { x.hears p.sequence .inOrder ks with confirmed := ks, resolution := some r } := by
      unfold State.settledOn
      rw [hkeys, hbank', State.foundIn_some, hlook]
    have hlevel : (s.packetOf i p).expressionOf a = e := by
      rw [State.expressionOf_packetOf, hbank']
      rfl
    have hpitch : (s.packetOf i p).pitch r l = pitch := rfl
    have hpacket := State.starting_packet (u := s) (i := i) (pk := s.packetOf i p)
      (y := { x.hears p.sequence .inOrder ks with confirmed := ks, resolution := some r }) (before := []) (after := [])
      (a := a) (last := a) (e := e) (r := r) hquiet (by rw [Settings.noOnset]) (Bool.and_eq_false_iff.mpr (.inl hrearm)) hon rfl rfl
      rfl
    rw [hsettled, hlevel] at hexec
    rw [hlevel] at hpacket
    have hcand : s.pool.candidate s.responder.engine.stealMode st.priority = some (.class1, v) :=
      Pool.candidate_iff.mpr ⟨isClass1_iff.mpr ⟨hfree, hnone⟩, fun w hw => by
        rw [← Bool.not_eq_true, isClass1_iff, not_and_or]
        exact hfirst w hw⟩
    obtain ⟨n, hgrants, hheld⟩ := State.startNote_grants (u := s) (i := i) (pk := s.packetOf i p) (q := q)
      (y := { x.hears p.sequence .inOrder ks with
        confirmed := ks, resolution := some r, rearm := false, onsetVelocity := velocity, outLevel := e })
      rfl hbank hlayers hcand h0 h1 hroom
    refine ⟨_, hexec.trans (congrArg Host.Outcome.next (hpacket.trans hheld)), ?_⟩
    obtain ⟨-, hslots, hvoice, hvoices, ⟨hage, hrelease, hrotation⟩, hport, hnotices, hcollector, hstore, hresponder,
      hreceivers⟩ := hgrants
    have hin : pitchOutOfRange ((s.packetOf i p).pitch r l) = false := by simp [pitchOutOfRange, hpitch, h0, h1]
    have hcode : pitchCode ((s.packetOf i p).pitch r l) = pitch.toNat := pitchCode_of_mem h0 h1
    rw [hin] at hnotices hcollector
    rw [hcode] at hvoice hport
    refine ⟨(State.slot_setSlot_same _ _ _).trans ?_, hvoice, ?_, hage, hrelease, hrotation, hvoices, fun j hj => ?_, ?_,
      hstore, hresponder, hnotices, hcollector, hreceivers⟩
    · rw [Slot.hears_inOrder, ← hrearm]
    · rw [State.setSlot_port, hport]
      rfl
    · exact (State.slot_setSlot_ne _ _ (Ne.symm hj)).trans
        ((hslots j hj).trans (State.slot_setSlot_ne _ _ (Ne.symm hj)))
    · rw [State.setSlot_port, hport]
      rfl

end Sys2Proof.Machine

/-! Stage 6 of a sounding note (R45, R46, R54 to R57). -/

namespace Sys2Proof.Machine

open Sys2Proof

/-! ### Updates of one voice in a queue with room (R55, R56, R125) -/

/-- From s to t one voice and the queue are written, and the stall timer follows (R126, R135). -/
def State.Writes (s t : State) (v : VoiceIx) (x : Voice) (q : List VoiceRecord) : Prop :=
  t = { s.setVoice v x with port := { s.port with queue := q, stallTimer := t.port.stallTimer } }

theorem State.setVoice_setVoice (s : State) (v : VoiceIx) (x y : Voice) :
    (s.setVoice v x).setVoice v y = s.setVoice v y := by
  simp [State.setVoice]

theorem State.setVoice_voice (s : State) (v : VoiceIx) : s.setVoice v (s.voice v) = s := by
  simp [State.setVoice, State.voice]

section
variable {s t u : State} {v : VoiceIx} {x y : Voice} {q q' : List VoiceRecord} {n : Nat}

theorem State.Writes.refl (s : State) (v : VoiceIx) : s.Writes s v (s.voice v) s.port.queue := by
  unfold State.Writes
  rw [State.setVoice_voice]

theorem State.Writes.trans (h : s.Writes t v x q) (k : t.Writes u v y q') : s.Writes u v y q' := by
  unfold State.Writes at h k ⊢
  rw [h] at k
  refine k.trans ?_
  have hset := s.setVoice_setVoice v x y
  unfold State.setVoice at hset ⊢
  injection hset with _ _ _ hpool
  rw [State.mk.injEq]
  exact ⟨rfl, rfl, rfl, hpool, rfl, rfl, rfl, rfl, rfl, rfl⟩

theorem State.Writes.of_setVoice (h : State.Writes (s.setVoice v x) t v y q) : s.Writes t v y q := by
  have hset : s.Writes (s.setVoice v x) v x s.port.queue := rfl
  exact hset.trans h

theorem State.Writes.voice (h : s.Writes t v x q) : t.voice v = x := by
  rw [h]
  exact s.voice_setVoice_same v x

theorem State.Writes.voices (h : s.Writes t v x q) {w : VoiceIx} (hw : w ≠ v) : t.voice w = s.voice w := by
  rw [h]
  exact s.voice_setVoice_ne x (Ne.symm hw)

theorem State.Writes.frame (h : s.Writes t v x q) :
    t.slots = s.slots ∧ t.port.queue = q ∧ t.pool.ageList = s.pool.ageList ∧ t.notices = s.notices ∧ t.store = s.store ∧
      t.responder = s.responder ∧ t.collector = s.collector ∧ t.receivers = s.receivers := by
  rw [h]
  exact ⟨rfl, rfl, rfl, rfl, rfl, rfl, rfl, rfl⟩

theorem State.writes_settled (s : State) (v : VoiceIx) (x : Voice) (q : List VoiceRecord) :
    s.Writes (State.settleStall ((s.setQueue q).setVoice v x)) v x q := rfl

/-- An offered RETUNE that finds room and none to merge with (R126 case 3). -/
theorem State.offerRetune_writes (hroom : s.port.queue.length < 64)
    (hnone : ∀ r ∈ s.port.queue, ((r.isStart || r.isRetune) && r.isFor v (s.voice v).generation) = false) :
    s.Writes (s.offerRetune v n) v { s.voice v with lastPitch := n }
      (s.port.queue ++ [.retune v (s.voice v).generation n]) := by
  rw [State.offerRetune_of_none (mergeRetune_eq_none.mpr hnone), State.enqueue_of_room _ _ hroom]
  exact State.writes_settled s v _ _

/-- An offered LEVEL that finds room and none to merge with (R126 case 3). -/
theorem State.offerLevel_writes (hroom : s.port.queue.length < 64)
    (hnone : ∀ r ∈ s.port.queue, ((r.isStart || r.isLevel) && r.isFor v (s.voice v).generation) = false) :
    s.Writes (s.offerLevel v n) v { s.voice v with lastLevel := n }
      (s.port.queue ++ [.level v (s.voice v).generation n]) := by
  rw [State.offerLevel_of_none (mergeLevel_eq_none.mpr hnone), State.enqueue_of_room _ _ hroom]
  exact State.writes_settled s v _ _

/-- What the decision on a RETUNE writes (R55). -/
theorem State.produceRetune_writes (hroom : s.port.queue.length < 64)
    (hnone : ∀ r ∈ s.port.queue, ((r.isStart || r.isRetune) && r.isFor v (s.voice v).generation) = false) :
    s.Writes (s.produceRetune v n) v
      { s.voice v with
        lastPitch := if (s.voice v).lastPitch ≠ n ∨ (s.voice v).pitchOwed = true then n else (s.voice v).lastPitch
        pitchOwed := false }
      (s.port.queue ++ if (s.voice v).lastPitch ≠ n ∨ (s.voice v).pitchOwed = true then
        [.retune v (s.voice v).generation n] else []) := by
  rw [State.produceRetune_eq]
  by_cases h : (s.voice v).lastPitch ≠ n ∨ (s.voice v).pitchOwed = true
  · rw [if_pos h, if_pos h, if_pos h]
    have hw := State.offerRetune_writes (s := s.setVoice v { s.voice v with pitchOwed := false }) (v := v) (n := n) hroom
      (by rwa [State.voice_setVoice_same])
    rw [State.voice_setVoice_same] at hw
    exact hw.of_setVoice
  · rw [if_neg h, if_neg h, if_neg h, List.append_nil]
    rw [not_or, Bool.not_eq_true] at h
    rw [← h.2]
    exact .refl s v

/-- What the decision on a LEVEL writes (R56). -/
theorem State.produceLevel_writes (hroom : s.port.queue.length < 64)
    (hnone : ∀ r ∈ s.port.queue, ((r.isStart || r.isLevel) && r.isFor v (s.voice v).generation) = false) :
    s.Writes (s.produceLevel v n) v
      { s.voice v with
        lastLevel := if s.responder.engine.deadBand < levelDistance n (s.voice v).lastLevel ∨
          (s.voice v).levelOwed = true then n else (s.voice v).lastLevel
        levelOwed := false }
      (s.port.queue ++ if s.responder.engine.deadBand < levelDistance n (s.voice v).lastLevel ∨
          (s.voice v).levelOwed = true then [.level v (s.voice v).generation n] else []) := by
  rw [State.produceLevel_eq]
  by_cases h : s.responder.engine.deadBand < levelDistance n (s.voice v).lastLevel ∨ (s.voice v).levelOwed = true
  · rw [if_pos h, if_pos h, if_pos h]
    have hw := State.offerLevel_writes (s := s.setVoice v { s.voice v with levelOwed := false }) (v := v) (n := n) hroom
      (by rwa [State.voice_setVoice_same])
    rw [State.voice_setVoice_same] at hw
    exact hw.of_setVoice
  · rw [if_neg h, if_neg h, if_neg h, List.append_nil]
    rw [not_or, Bool.not_eq_true] at h
    rw [← h.2]
    exact .refl s v

end

theorem levelDistance_eq (a b : Nat) : levelDistance a b = max (a - b) (b - a) := by
  unfold levelDistance
  omega

section
variable {s : State} {i : SlotIx} {pk : Packet} {r : Resolution} {l : Layer} {v : VoiceIx} {out : Nat}

/-- Whether a RETUNE to a code is due on a voice (R55). -/
abbrev Voice.RetuneDue (x : Voice) (code : Nat) : Prop := x.lastPitch ≠ code ∨ x.pitchOwed = true

/-- Whether a LEVEL is due on a voice under a dead band (R56). -/
abbrev Voice.LevelDue (x : Voice) (deadBand level : Nat) : Prop :=
  deadBand < levelDistance level x.lastLevel ∨ x.levelOwed = true

/-- Stage 6 of one layer in an empty queue: its RETUNE, then its LEVEL (R54 to R56). -/
theorem State.updateLayers_writes (hq : s.port.queue = []) (h0 : 0 ≤ pk.pitch r l) (h1 : pk.pitch r l ≤ 8191) :
    s.Writes (State.updateLayers i pk r out 0 [l] [some v] s) v
      { s.voice v with
        lastPitch := if (s.voice v).RetuneDue (pk.pitch r l).toNat then (pk.pitch r l).toNat else (s.voice v).lastPitch
        lastLevel := if (s.voice v).LevelDue s.responder.engine.deadBand (layerLevel out l.trim)
          then layerLevel out l.trim else (s.voice v).lastLevel
        pitchOwed := false, levelOwed := false }
      ((if (s.voice v).RetuneDue (pk.pitch r l).toNat
          then [VoiceRecord.retune v (s.voice v).generation (pk.pitch r l).toNat] else []) ++
        if (s.voice v).LevelDue s.responder.engine.deadBand (layerLevel out l.trim)
          then [VoiceRecord.level v (s.voice v).generation (layerLevel out l.trim)] else []) := by
  have hretune := State.produceRetune_writes (s := s) (v := v) (n := (pk.pitch r l).toNat) (by rw [hq]; decide)
    (by rw [hq]; simp)
  rw [← State.retuneLayer_inRange (i := i) (k := 0) h0 h1, hq, List.nil_append] at hretune
  show s.Writes (State.produceLevel (s.retuneLayer i pk r 0 l v) v (layerLevel out l.trim)) v _ _
  generalize s.retuneLayer i pk r 0 l v = t at hretune ⊢
  obtain ⟨-, hqueue, -, -, -, hresponder, -, -⟩ := hretune.frame
  have hlevel := State.produceLevel_writes (s := t) (v := v) (n := layerLevel out l.trim)
    (by rw [hqueue]; split <;> simp) (by rw [hqueue]; split <;> simp [VoiceRecord.isStart, VoiceRecord.isLevel])
  rw [hretune.voice, hqueue, hresponder] at hlevel
  exact hretune.trans hlevel

/-- Stage 6 of a SOUNDING slot of one layer, in an empty queue. -/
theorem State.perPacket_writes {y : Slot} {b : BankIx} {e : Nat} (hslot : s.slot i = y) (hp : y.phase = .sounding)
    (hres : y.resolution = some r) (hbank : y.bank = some b) (hvoicing : (s.bank b).voicings[r.voicing].layers = [l])
    (hlayers : y.layers = [some v]) (hout : slewed pk.settings.slew y.outLevel e = out) (hq : s.port.queue = [])
    (h0 : 0 ≤ pk.pitch r l) (h1 : pk.pitch r l ≤ 8191) :
    (s.setSlot i { y with outLevel := out }).Writes (s.perPacket i pk e) v
      { s.voice v with
        lastPitch := if (s.voice v).RetuneDue (pk.pitch r l).toNat then (pk.pitch r l).toNat else (s.voice v).lastPitch
        lastLevel := if (s.voice v).LevelDue s.responder.engine.deadBand (layerLevel out l.trim)
          then layerLevel out l.trim else (s.voice v).lastLevel
        pitchOwed := false, levelOwed := false }
      ((if (s.voice v).RetuneDue (pk.pitch r l).toNat
          then [VoiceRecord.retune v (s.voice v).generation (pk.pitch r l).toNat] else []) ++
        if (s.voice v).LevelDue s.responder.engine.deadBand (layerLevel out l.trim)
          then [VoiceRecord.level v (s.voice v).generation (layerLevel out l.trim)] else []) := by
  subst hslot
  have hlists : State.updateLayers i pk r out 0 (s.bank b).voicings[r.voicing].layers (s.slot i).layers =
      State.updateLayers i pk r out 0 [l] [some v] := by rw [hvoicing, hlayers]
  rw [State.perPacket_of_sounding hp hres, State.voicingOf_eq hbank, hout, hlists]
  exact State.updateLayers_writes (s := s.setSlot i { s.slot i with outLevel := out }) hq h0 h1

end

theorem Settings.allHeld_one {st : Settings} {a : Nat} (h : st.offThreshold ≤ scaledPressure st a) :
    st.allHeld [a] = true := by
  rw [Settings.allHeld_cons, decide_eq_true h]
  rfl

theorem State.voicingOf_layers (s : State) (i : SlotIx) (r : Resolution) :
    (s.voicingOf i r).layers = match (s.slot i).bank with
      | some b => (s.bank b).voicings[r.voicing].layers
      | none => [] := by
  unfold State.voicingOf
  cases (s.slot i).bank <;> rfl

/-- Settles O46. -/
theorem soundingPacketUpdatesLayer : Obligations.SoundingPacketUpdatesLayer := by
  unfold Obligations.SoundingPacketUpdatesLayer
  refine ⟨?one, fun s fields p i way last h => ?any, fun s i pk e out k r l ls v es => ?layers⟩
  case any =>
    intro u x ks pk heard hsounding htest
    have hexec := exec_sense_of_takes h
    obtain ⟨-, -, -, -, hlast⟩ := h
    rw [State.confirmedBy_unconfirmed hsounding htest
      (State.way_ne_first fun hq => absurd (hsounding.symm.trans hq) (by decide)),
      State.expressionOf_packetOf] at hexec
    refine ⟨fun hheld => hexec.trans (congrArg Host.Outcome.next ?_), hexec⟩
    refine (State.held_packet (n := u.setSlot i heard) (pk := pk) ?_ hheld hlast).trans ?_
    · rw [State.slot_setSlot_same]
      exact hsounding
    · rw [State.modSlot_setSlot]
      rfl
  case layers =>
    intro x voice stage moved pitch level
    have hmoved : slewed pk.settings.slew x.outLevel e = moved := slewed_eq ..
    refine ⟨State.perPacket_of_silent, fun hp hr => ?_, fun hp hr => ?_, ?_, ?_, rfl, rfl, ?_, fun code => rfl, ?_⟩
    · rw [State.perPacket_of_unresolved hp hr, hmoved]
    · rw [State.perPacket_of_sounding hp hr, hmoved]
      exact congrArg (fun ls => State.updateLayers i pk r moved 0 ls x.layers (stage moved)) (s.voicingOf_layers i r)
    · cases ls <;> rfl
    · cases es <;> rfl
    · unfold State.retuneLayer
      dsimp only
      rw [State.raiseIf_pitch, pitchCode_eq]
      rfl
    · rw [State.produceLevel_eq, levelDistance_eq]
  case one =>
    intro s fields p i a b r l v hreceived hread hroute hsamples x st q e out pitch level g retune loudness hsounding hseq
      hbank hks hheld hres hvoicing hlayers h0 h1 hqueue
    have hlast : p.samples.getLast? = some a := by rw [hsamples]; rfl
    have hexec := exec_sense_of_takes (State.takes_inOrder hreceived hread hroute
      (fun h => absurd (hsounding.symm.trans h) (by decide)) hseq hlast)
    have hbank' : (s.slot i).bank = some b := hbank
    have hkeys : s.keysIn (s.slot i) (s.slot i).bank p = (s.slot i).confirmed := by
      rw [hbank']
      exact hks
    rw [State.takenAs_inOrder, State.confirmedBy_unconfirmed hsounding (.inl hkeys) (by decide), hkeys, hsamples,
      State.held_packet (as := [a]) (last := a) (by rw [State.slot_setSlot_same]; exact hsounding)
        (Settings.allHeld_one hheld) rfl, State.modSlot_setSlot] at hexec
    have hlevel : (s.packetOf i p).expressionOf a = e := by
      rw [State.expressionOf_packetOf, hbank']
      rfl
    rw [hlevel] at hexec
    have hwrites := State.perPacket_writes (s := s.setSlot i
        { x.hears p.sequence .inOrder x.confirmed with qPrev := q }) (i := i) (pk := s.packetOf i p) (v := v) (e := e)
      (out := out) (State.slot_setSlot_same _ _ _) hsounding hres hbank hvoicing hlayers (slewed_eq ..) hqueue h0 h1
    have hretune : (s.voice v).RetuneDue pitch.toNat ↔ retune = true := by
      simp only [retune, Bool.or_eq_true, decide_eq_true_eq]
      exact or_congr ne_comm Iff.rfl
    have hloudness : (s.voice v).LevelDue s.responder.engine.deadBand level ↔ loudness = true := by
      simp only [loudness, Bool.or_eq_true, decide_eq_true_eq, Voice.LevelDue, levelDistance_eq]
    have hvoice := hwrites.voice
    have hvoices (w : VoiceIx) (hw : w ≠ v) := hwrites.voices hw
    obtain ⟨hslots, hqueue', hage, hnotices, hstore, hresponder, hcollector, hreceivers⟩ := hwrites.frame
    have hslot (j : SlotIx) := congrArg (fun z : Vector Slot 8 => z[j]) hslots
    have hown := (hslot i).trans (State.slot_setSlot_same _ _ _)
    refine ⟨_, hexec, hqueue'.trans (congrArg₂ (· ++ ·) (if_congr hretune rfl rfl) (if_congr hloudness rfl rfl)),
      hvoice.trans ?_, congrArg Slot.outLevel hown, congrArg Slot.qPrev hown, (congrArg Slot.layers hown).trans rfl,
      (congrArg Slot.phase hown).trans hsounding, (congrArg Slot.resolution hown).trans hres, (congrArg Slot.confirmed hown).trans rfl,
      hvoices, fun j hj => ?_, hage, hnotices, hstore, hresponder, hcollector, hreceivers⟩
    · exact congrArg₂ (fun m n => { s.voice v with lastPitch := m, lastLevel := n, pitchOwed := false, levelOwed := false })
        (if_congr hretune rfl rfl) (if_congr hloudness rfl rfl)
    · exact (hslot j).trans ((State.slot_setSlot_ne _ _ (Ne.symm hj)).trans (State.slot_setSlot_ne _ _ (Ne.symm hj)))

end Sys2Proof.Machine

/-! A confirmed change of fingering while a note sounds (R33, R67, R89 to R91). -/

namespace Sys2Proof.Machine

open Sys2Proof

/-! ### What a change comes to (R67, R89) -/

section
variable {w : State} {i : SlotIx} {pk : Packet} {r : Resolution}

theorem State.changeFingering_of_hold
    (h : w.resolve i = none ∨ ∃ r old, w.resolve i = some r ∧ (w.slot i).resolution = some old ∧ r.entry = old.entry) :
    w.changeFingering i pk = w := by
  unfold State.changeFingering
  rcases h with h | ⟨r, old, h, hold, hentry⟩
  · rw [h]
  · rw [h]
    dsimp only
    rw [hold]
    unfold changeFor
    dsimp only
    rw [if_pos hentry]

theorem State.changeFingering_of_legato {old : Resolution} (h : w.resolve i = some r)
    (hold : (w.slot i).resolution = some old) (hentry : r.entry ≠ old.entry) (hvoicing : r.voicing = old.voicing)
    (hmode : (w.voicingOf i r).mode = .legato) : w.changeFingering i pk = w.legatoRetune i pk r := by
  unfold State.changeFingering
  rw [h]
  dsimp only
  rw [hold]
  unfold changeFor
  dsimp only
  rw [if_neg hentry, if_pos ⟨hvoicing, hmode⟩]

theorem State.changeFingering_of_retrigger (h : w.resolve i = some r)
    (hold : (w.slot i).resolution = none ∨ ∃ old, (w.slot i).resolution = some old ∧ r.entry ≠ old.entry ∧
      (r.voicing ≠ old.voicing ∨ (w.voicingOf i r).mode = .retrigger)) :
    w.changeFingering i pk = w.retrigger i pk r := by
  unfold State.changeFingering
  rw [h]
  dsimp only
  rcases hold with hold | ⟨old, hold, hentry, hother⟩
  · rw [hold]
    rfl
  · have hno : ¬(r.voicing = old.voicing ∧ (w.voicingOf i r).mode = .legato) := by
      rintro ⟨hvoicing, hmode⟩
      rcases hother with hother | hother
      · exact hother hvoicing
      · rw [hmode] at hother
        cases hother
    rw [hold]
    unfold changeFor
    dsimp only
    rw [if_neg hentry, if_neg hno]

/-- A legato retune on a slot that was just replaced (R90). -/
theorem State.legatoRetune_setSlot (u : State) {y : Slot} {b : BankIx} (hbank : y.bank = some b) :
    (u.setSlot i y).legatoRetune i pk r =
      State.retuneLayers i pk r 0 (u.bank b).voicings[r.voicing].layers y.layers
        (u.setSlot i { y with resolution := some r }) := by
  unfold State.legatoRetune
  dsimp only
  rw [State.modSlot_setSlot, State.voicingOf_eq (b := b) (by rw [State.slot_setSlot_same, hbank]),
    State.slot_setSlot_same]
  rfl

/-- A retrigger on a slot that was just replaced (R91). -/
theorem State.retrigger_setSlot (u : State) (y : Slot) :
    (u.setSlot i y).retrigger i pk r =
      ((State.releaseLayers .release y.layers u).setSlot i { y with layers := [], resolution := some r }).startNote
        i pk r := by
  unfold State.retrigger
  dsimp only
  rw [State.slot_setSlot_same, State.releaseLayers_setSlot, State.modSlot_setSlot]

theorem State.resolve_setSlot (u : State) (y : Slot) : (u.setSlot i y).resolve i = u.foundIn y.bank y.confirmed := by
  rw [State.resolve_eq, State.slot_setSlot_same]
  rfl

end

/-- Stages 3 and 4 in SOUNDING when the confirmation test passes (R33, R89). -/
theorem State.confirmedBy_changed {u : State} {i : SlotIx} {p : Sense} {way : Taking}
    (hp : (u.slot i).phase = .sounding)
    (hks : u.keysIn (u.slot i) (u.slot i).bank p ≠ (u.slot i).confirmed)
    (hcount : (u.slot i).settings.confirmCount ≤
      ((u.slot i).hears p.sequence way (u.keysIn (u.slot i) (u.slot i).bank p)).runCount) (hway : way ≠ .first) :
    u.confirmedBy i p way =
      (u.setSlot i
        { (u.slot i).hears p.sequence way (u.keysIn (u.slot i) (u.slot i).bank p) with
          confirmed := u.keysIn (u.slot i) (u.slot i).bank p }).changeFingering i (u.packetOf i p) := by
  rw [State.confirmedBy_sounding hway hp, if_pos ⟨hcount, hks⟩]

theorem Slot.updateOut_of_sounding {x : Slot} (h : x.phase = .sounding) (slew e : Nat) :
    x.updateOut slew e = { x with outLevel := slewed slew x.outLevel e } := by
  unfold Slot.updateOut
  rw [if_pos h]

/-- The slot behind stage 6 (R45). -/
theorem State.perPacket_slot (s : State) (i : SlotIx) (pk : Packet) (e : Nat) :
    (s.perPacket i pk e).slot i = (s.slot i).updateOut pk.settings.slew e := by
  unfold State.perPacket
  dsimp only
  split <;> simp

/-! ### A voicing of one layer -/

section
variable {s : State} {i : SlotIx} {pk : Packet} {r : Resolution} {l : Layer} {v : VoiceIx} {y : Slot} {b : BankIx}
  {e q : Nat}

/-- A voice last queued at a pitch takes no RETUNE to it (R55). -/
theorem State.retuneLayer_settled {k : Nat} (h0 : 0 ≤ pk.pitch r l) (h1 : pk.pitch r l ≤ 8191)
    (hpitch : (s.voice v).lastPitch = (pk.pitch r l).toNat) (hp : (s.voice v).pitchOwed = false) :
    s.retuneLayer i pk r k l v = s := by
  rw [State.retuneLayer_inRange h0 h1, State.produceRetune_eq]
  exact if_neg (by simp [hpitch, hp])

/-- Stage 6 of a slot of one layer whose voice is last queued at its pitch: its LEVEL alone (R54 to R56). -/
theorem State.perPacket_level (hslot : s.slot i = y) (hp : y.phase = .sounding) (hres : y.resolution = some r)
    (hbank : y.bank = some b) (hvoicing : (s.bank b).voicings[r.voicing].layers = [l]) (hlayers : y.layers = [some v])
    (h0 : 0 ≤ pk.pitch r l) (h1 : pk.pitch r l ≤ 8191) (hpitch : (s.voice v).lastPitch = (pk.pitch r l).toNat)
    (howed : (s.voice v).pitchOwed = false) :
    s.perPacket i pk e =
      (s.setSlot i { y with outLevel := slewed pk.settings.slew y.outLevel e }).produceLevel v
        (layerLevel (slewed pk.settings.slew y.outLevel e) l.trim) := by
  subst hslot
  have hlists : State.updateLayers i pk r (slewed pk.settings.slew (s.slot i).outLevel e) 0
      (s.bank b).voicings[r.voicing].layers (s.slot i).layers =
      State.updateLayers i pk r (slewed pk.settings.slew (s.slot i).outLevel e) 0 [l] [some v] := by
    rw [hvoicing, hlayers]
  rw [State.perPacket_of_sounding hp hres, State.voicingOf_eq hbank, hlists]
  show State.produceLevel (State.retuneLayer (s.setSlot i _) i pk r 0 l v) v _ = _
  rw [State.retuneLayer_settled h0 h1 (by exact hpitch) (by exact howed)]

theorem Voice.retuned_pitch (x : Voice) (code : Nat) :
    (if x.RetuneDue code then code else x.lastPitch) = code := by
  by_cases h : x.RetuneDue code
  · rw [if_pos h]
  · rw [if_neg h]
    rw [Voice.RetuneDue, not_or, not_not] at h
    exact h.1

/-- A legato retune of one layer in an empty queue, and stage 6 behind samples that hold the note (R90). -/
theorem State.legato_packet (hp : y.phase = .sounding) (hres : y.resolution = some r) (hbank : y.bank = some b)
    (hvoicing : (s.bank b).voicings[r.voicing].layers = [l]) (hlayers : y.layers = [some v])
    (hq : s.port.queue = []) (h0 : 0 ≤ pk.pitch r l) (h1 : pk.pitch r l ≤ 8191) (out : Nat)
    (hout : slewed pk.settings.slew y.outLevel e = out) :
    (State.perPacket ((State.retuneLayers i pk r 0 [l] [some v] (s.setSlot i y)).modSlot i fun z =>
        { z with qPrev := q }) i pk e).slot i = { y with qPrev := q, outLevel := out } ∧
      (State.perPacket ((State.retuneLayers i pk r 0 [l] [some v] (s.setSlot i y)).modSlot i fun z =>
          { z with qPrev := q }) i pk e).port.queue =
        (if (s.voice v).RetuneDue (pk.pitch r l).toNat
            then [VoiceRecord.retune v (s.voice v).generation (pk.pitch r l).toNat] else []) ++
          if (s.voice v).LevelDue s.responder.engine.deadBand (layerLevel out l.trim)
            then [VoiceRecord.level v (s.voice v).generation (layerLevel out l.trim)] else [] := by
  subst hout
  have hretune := State.produceRetune_writes (s := s.setSlot i y) (v := v) (n := (pk.pitch r l).toNat)
    (by rw [State.setSlot_port, hq]; decide) (by rw [State.setSlot_port, hq]; simp)
  rw [← State.retuneLayer_inRange (i := i) (k := 0) h0 h1, State.setSlot_port, hq, List.nil_append] at hretune
  show (State.perPacket (State.modSlot (State.retuneLayer (s.setSlot i y) i pk r 0 l v) i _) i pk e).slot i = _ ∧
    (State.perPacket (State.modSlot (State.retuneLayer (s.setSlot i y) i pk r 0 l v) i _) i pk e).port.queue = _
  generalize State.retuneLayer (s.setSlot i y) i pk r 0 l v = n at hretune ⊢
  obtain ⟨hslots, hqueue, -, -, hstore, hresponder, -, -⟩ := hretune.frame
  have hvoice := hretune.voice
  have hslot : n.slot i = y :=
    (congrArg (fun z : Vector Slot 8 => z[i]) hslots).trans (s.slot_setSlot_same i y)
  have hbanks : n.bank b = s.bank b := congrArg (fun z : TableStore => z.banks[b]) hstore
  rw [State.modSlot_eq, hslot, State.perPacket_level (y := { y with qPrev := q }) (State.slot_setSlot_same _ _ _) hp hres
    hbank (by rw [State.setSlot_bank, hbanks, hvoicing]) hlayers h0 h1
    (by rw [State.setSlot_voice, hvoice]; exact Voice.retuned_pitch _ _) (by rw [State.setSlot_voice, hvoice]),
    State.setSlot_setSlot]
  have hlevel := State.produceLevel_writes (v := v)
    (s := n.setSlot i { y with qPrev := q, outLevel := slewed pk.settings.slew y.outLevel e })
    (n := layerLevel (slewed pk.settings.slew y.outLevel e) l.trim)
    (by rw [State.setSlot_port, hqueue]; split <;> simp)
    (by rw [State.setSlot_port, hqueue]; split <;> simp [VoiceRecord.isStart, VoiceRecord.isLevel])
  obtain ⟨hslots', hqueue', -⟩ := hlevel.frame
  refine ⟨(congrArg (fun z : Vector Slot 8 => z[i]) hslots').trans (State.slot_setSlot_same _ _ _), hqueue'.trans ?_⟩
  simp only [State.setSlot_port, hqueue, State.setSlot_voice, hvoice, State.setSlot_responder, hresponder]
  rfl

/-- A LEVEL that a START for the voice waits for is merged into it (R126 case 1). -/
theorem State.produceLevel_merges {x : Voice} {n ch pg pc vel lv : Nat} {c : List VoiceRecord}
    (hx : s.voice v = x) (hlast : x.lastLevel = lv) (howed : x.levelOwed = false)
    (hq : s.port.queue = c ++ [.start v x.generation ch pg pc vel lv]) (hother : ∀ r ∈ c, r.isStart = false) :
    s.Writes (s.produceLevel v n) v
      { x with lastLevel := if s.responder.engine.deadBand < levelDistance n lv then n else lv }
      (c ++ [.start v x.generation ch pg pc vel
        (if s.responder.engine.deadBand < levelDistance n lv then n else lv)]) := by
  subst hx hlast
  rw [State.produceLevel_eq, howed]
  by_cases h : s.responder.engine.deadBand < levelDistance n (s.voice v).lastLevel
  · rw [if_pos (.inl h), if_pos h, State.offerLevel_of_merge
      (q := c ++ [.start v (s.voice v).generation ch pg pc vel n])
      (by rw [State.voice_setVoice_same, State.setVoice_port, hq]
          exact mergeLevel_start fun y hy => by simp [hother y (by simpa using hy)])]
    rw [State.voice_setVoice_same, ← howed]
    have hw := State.writes_settled (s.setVoice v (s.voice v)) v { s.voice v with lastLevel := n }
      (c ++ [.start v (s.voice v).generation ch pg pc vel n])
    rw [State.setVoice_voice] at hw
    rw [State.setVoice_voice]
    exact hw
  · rw [if_neg (by simp [h]), if_neg h, ← hq, ← howed]
    exact .refl s v

/-- The release of a voice whose note the rack holds, in an empty queue (R115). -/
theorem State.release_one (hq : s.port.queue = []) (hopen : (s.voice v).dn = .opened) :
    (State.releaseLayers .release [some v] s).port.queue = [.stop v (s.voice v).generation .release] ∧
      (State.releaseLayers .release [some v] s).voice v =
        (s.voice v).stopped s.responder.engine.releaseTimeout ∧
      ∀ w, w ≠ v → (State.releaseLayers .release [some v] s).voice w = s.voice w := by
  have hrelease : State.releaseLayers .release [some v] s = s.releaseVoice v .release := rfl
  rw [hrelease, State.releaseVoice_of_opened hopen, hq, State.enqueue_of_room _ _ (by simp [removeUpdates, queueCapacity])]
  exact ⟨rfl, State.voice_setVoice_same _ _ _, fun w hw => State.voice_setVoice_ne _ _ (Ne.symm hw)⟩

/-- A retrigger of one layer in an empty queue, and stage 6 behind samples that hold the note (R91). -/
theorem State.retrigger_packet {w : VoiceIx} (hres : y.resolution = some r) (hbank : y.bank = some b)
    (hvoicing : (s.bank b).voicings[r.voicing].layers = [l]) (hq : s.port.queue = [])
    (hopen : (s.voice v).dn = .opened) (hfree : (s.voice w).phase = .free) (hnone : (s.voice w).dn = .none)
    (hfirst : ∀ z : VoiceIx, z < w → (s.voice z).phase ≠ .free ∨ (s.voice z).dn ≠ .none)
    (h0 : 0 ≤ pk.pitch r l) (h1 : pk.pitch r l ≤ 8191) (out : Nat) (hout : slewed pk.settings.slew y.outLevel e = out)
    {t : State} (ht : t = State.perPacket ((((State.releaseLayers .release [some v] s).setSlot i y).startNote
      i pk r).modSlot i fun z => { z with qPrev := q }) i pk e) :
    t.slot i = { y with phase := .sounding, layers := [some w], qPrev := q, outLevel := out } ∧
      t.port.queue = [.stop v (s.voice v).generation .release,
        .start w ((s.voice w).generation + 1) l.channel l.program (pk.pitch r l).toNat
          (layerVelocity y.onsetVelocity (s.bank b).voicings[r.voicing].fixedVelocity l)
          (if s.responder.engine.deadBand < levelDistance (layerLevel out l.trim) (layerLevel y.outLevel l.trim)
            then layerLevel out l.trim else layerLevel y.outLevel l.trim)] ∧
      t.voice v = (s.voice v).stopped s.responder.engine.releaseTimeout ∧
      (t.voice w).phase = .sounding ∧ (t.voice w).owner = some ⟨i, 0, pk.settings.priority⟩ := by
  have hne : v ≠ w := fun h => by rw [h, hnone] at hopen; cases hopen
  obtain ⟨hqueue, hv, hothers⟩ := State.release_one hq hopen
  obtain ⟨-, hstore, hresponder, -⟩ := s.releaseLayers_frame .release [some v]
  generalize State.releaseLayers .release [some v] s = s1 at *
  have hcand : s1.pool.candidate s1.responder.engine.stealMode pk.settings.priority = some (.class1, w) := by
    refine Pool.candidate_iff.mpr ⟨isClass1_iff.mpr ?_, fun z hz => ?_⟩
    · rw [hothers w hne.symm]
      exact ⟨hfree, hnone⟩
    · rw [← Bool.not_eq_true, isClass1_iff, not_and_or]
      by_cases hzv : z = v
      · rw [hzv, hv]
        exact .inl (by simp [Voice.stopped])
      · rw [hothers z hzv]
        exact hfirst z hz
  have hbanks : s1.bank b = s.bank b := congrArg (fun z : TableStore => z.banks[b]) hstore
  have hvoicing1 : (s1.setSlot i y).voicingOf i r = (s.bank b).voicings[r.voicing] := by
    rw [State.voicingOf_eq (b := b) (by rw [State.slot_setSlot_same, hbank]), State.setSlot_bank, hbanks]
  rw [State.startNote_one (s := s1.setSlot i y) (l := l) (v := w) (by rw [hvoicing1, hvoicing]) hcand, hvoicing1,
    State.slot_setSlot_same, State.setSlot_setSlot] at ht
  have hgrants := State.grants_layerPlaced (u := s1.setSlot i { y with phase := .sounding, layers := [none] }) (i := i)
    (k := 0) (π := pk.settings.priority) (v := w) (p := pk.pitch r l) (l := l)
    (velocity := layerVelocity y.onsetVelocity (s.bank b).voicings[r.voicing].fixedVelocity l)
    (level := layerLevel y.outLevel l.trim) (by rw [State.setSlot_port, hqueue]; simp)
  generalize State.layerPlaced _ _ _ _ _ _ _ _ _ = n at hgrants ht
  obtain ⟨hown, -, hvw, hvs, -, hport, -, -, hstore', hresponder', -⟩ := hgrants
  rw [pitchCode_of_mem h0 h1, State.setSlot_voice, hothers w hne.symm] at hvw
  have hslot : n.slot i = { y with phase := .sounding, layers := [some w] } := by
    rw [hown, State.slot_setSlot_same]
    rfl
  have hbanks' : n.bank b = s.bank b := (congrArg (fun z : TableStore => z.banks[b]) hstore').trans hbanks
  have hqueue' : n.port.queue = [.stop v (s.voice v).generation .release] ++
      [.start w ((s.voice w).generation + 1) l.channel l.program (pk.pitch r l).toNat
        (layerVelocity y.onsetVelocity (s.bank b).voicings[r.voicing].fixedVelocity l)
        (layerLevel y.outLevel l.trim)] := by
    rw [hport, State.setSlot_port, hqueue, State.setSlot_voice, hothers w hne.symm, pitchCode_of_mem h0 h1]
    rfl
  rw [State.modSlot_eq, hslot, State.perPacket_level (y := { y with phase := .sounding, layers := [some w], qPrev := q })
    (State.slot_setSlot_same _ _ _) rfl hres hbank (by rw [State.setSlot_bank, hbanks', hvoicing]) rfl h0 h1
    (by rw [State.setSlot_voice, hvw]; rfl) (by rw [State.setSlot_voice, hvw]; rfl), State.setSlot_setSlot, hout] at ht
  have hlevel := State.produceLevel_merges (v := w) (n := layerLevel out l.trim)
    (s := n.setSlot i { y with phase := .sounding, layers := [some w], qPrev := q, outLevel := out }) hvw rfl rfl hqueue'
    (by simp [VoiceRecord.isStart])
  rw [← ht, State.setSlot_responder, hresponder', State.setSlot_responder, hresponder] at hlevel
  obtain ⟨hslots, hq', -⟩ := hlevel.frame
  refine ⟨(congrArg (fun z : Vector Slot 8 => z[i]) hslots).trans (State.slot_setSlot_same _ _ _), hq', ?_, ?_, ?_⟩
  · rw [hlevel.voices hne, State.setSlot_voice, hvs v hne, State.setSlot_voice, hv]
  · rw [hlevel.voice]
    rfl
  · rw [hlevel.voice]
    rfl

end

/-- Settles O47. -/
theorem confirmedChangeTakesItsCourse : Obligations.ConfirmedChangeTakesItsCourse := by
  unfold Obligations.ConfirmedChangeTakesItsCourse
  refine ⟨?one, fun s fields p i way b last h => ?any, fun s i pk k r l ls v es => ⟨?_, ?_, rfl, rfl⟩⟩
  case any =>
    intro u x ks pk changed finish hsounding hbank hks hcount
    have hexec := exec_sense_of_takes h
    obtain ⟨-, -, -, -, hlast⟩ := h
    rw [State.confirmedBy_changed hsounding hks hcount
      (State.way_ne_first fun hq => absurd (hsounding.symm.trans hq) (by decide))] at hexec
    have hresolve : (u.setSlot i changed).resolve i = u.foundIn x.bank ks := State.resolve_setSlot u changed
    have hfinish {m : State} (hm : (u.setSlot i changed).changeFingering i pk = m) (hp : (m.slot i).phase = .sounding) :
        finish m := by
      subst hm
      refine ⟨State.soundingCourses_of_all hp hlast hexec, ?_⟩
      rw [← State.expressionOf_packetOf]
      exact hexec
    have hvoicing (r : Resolution) : (u.setSlot i changed).voicingOf i r = (u.bank b).voicings[r.voicing] :=
      State.voicingOf_eq (by rw [State.slot_setSlot_same]; exact hbank) r
    refine ⟨fun hhold => hfinish (State.changeFingering_of_hold ?_) ?_, fun r old hfound hold hentry hsame hmode =>
      hfinish ((State.changeFingering_of_legato (hresolve.trans hfound) ?_ hentry hsame ?_).trans
        (State.legatoRetune_setSlot u hbank)) ?_, fun r hfound hold =>
      hfinish ((State.changeFingering_of_retrigger (hresolve.trans hfound) ?_).trans (State.retrigger_setSlot u changed))
        (State.startNote_phase ..)⟩
    · rw [hresolve, State.slot_setSlot_same]
      exact hhold
    · rw [State.slot_setSlot_same]
      exact hsounding
    · rw [State.slot_setSlot_same]
      exact hold
    · rw [hvoicing]
      exact hmode
    · rw [(State.retuneLayers_reads ..).1, State.slot_setSlot_same]
      exact hsounding
    · rw [hvoicing, State.slot_setSlot_same]
      exact hold
  case one =>
    intro s fields p i a b old hreceived hread hroute hsamples x st ks q e out far hsounding hseq hbank hold hks hcount
      hheld
    have hlast : p.samples.getLast? = some a := by rw [hsamples]; rfl
    have hexec := exec_sense_of_takes (State.takes_inOrder hreceived hread hroute
      (fun h => absurd (hsounding.symm.trans h) (by decide)) hseq hlast)
    have hbank' : (s.slot i).bank = some b := hbank
    have hkeys : s.keysIn (s.slot i) (s.slot i).bank p = ks := by rw [hbank']; rfl
    have hrun : (x.hears p.sequence .inOrder ks).runCount = if ks = x.candidate then min 8 (x.runCount + 1) else 1 := by
      rw [Slot.hears_inOrder]
    rw [State.takenAs_inOrder, State.confirmedBy_changed hsounding (by rw [hkeys]; exact hks)
      (by rw [hkeys, hrun]; exact hcount) (by decide), hkeys, hsamples] at hexec
    have hlevel : (s.packetOf i p).expressionOf a = e := by
      rw [State.expressionOf_packetOf, hbank']
      rfl
    rw [hlevel] at hexec
    have hpacket {m : State} (hm : (s.setSlot i { x.hears p.sequence .inOrder ks with confirmed := ks }).changeFingering i
        (s.packetOf i p) = m) (hp : (m.slot i).phase = .sounding) :
        exec (.sense fields) s =
          .next (State.perPacket (m.modSlot i fun z => { z with qPrev := q }) i (s.packetOf i p) e) := by
      rw [hexec, hm, State.held_packet hp (Settings.allHeld_one hheld) rfl]
      rfl
    have hresolve : (s.setSlot i { x.hears p.sequence .inOrder ks with confirmed := ks }).resolve i =
        lookupSet (s.bank b).fingerings ks := by
      rw [State.resolve_setSlot]
      exact congrArg (fun o => s.foundIn o ks) hbank
    have hvoicingOf (r : Resolution) :
        (s.setSlot i { x.hears p.sequence .inOrder ks with confirmed := ks }).voicingOf i r =
          (s.bank b).voicings[r.voicing] := State.voicingOf_eq (by rw [State.slot_setSlot_same]; exact hbank) r
    refine ⟨fun hsame => ?hold, ?change⟩
    case hold =>
      have hkeep := State.changeFingering_of_hold (pk := s.packetOf i p)
        (w := s.setSlot i { x.hears p.sequence .inOrder ks with confirmed := ks }) (i := i) (by
          rw [hresolve, State.slot_setSlot_same]
          cases hlook : lookupSet (s.bank b).fingerings ks with
          | none => exact .inl rfl
          | some r => exact .inr ⟨r, old, rfl, hold, hsame r hlook⟩)
      have hown := State.perPacket_slot ((s.setSlot i { x.hears p.sequence .inOrder ks with confirmed := ks }).modSlot i
        fun z => { z with qPrev := q }) i (s.packetOf i p) e
      rw [State.slot_modSlot_same, State.slot_setSlot_same] at hown
      replace hown := hown.trans (Slot.updateOut_of_sounding
        (x := { x.hears p.sequence .inOrder ks with confirmed := ks, qPrev := q }) hsounding _ _)
      exact ⟨_, hpacket hkeep (by rw [State.slot_setSlot_same]; exact hsounding), (congrArg Slot.phase hown).trans hsounding,
        (congrArg Slot.confirmed hown).trans rfl, (congrArg Slot.resolution hown).trans hold,
        (congrArg Slot.layers hown).trans rfl, (congrArg Slot.outLevel hown).trans rfl⟩
    case change =>
      intro r l v hfound hentry hlayers hone hqueue pitch g level h0 h1
      refine ⟨fun hvoicing hmode => ?legato, fun w hother hopen hfree hnone hfirst => ?retrigger⟩
      case legato =>
        have hchange := (State.changeFingering_of_legato (pk := s.packetOf i p) (hresolve.trans hfound)
          (by rw [State.slot_setSlot_same]; exact hold) hentry hvoicing (by rw [hvoicingOf]; exact hmode)).trans
          (State.legatoRetune_setSlot s hbank)
        have hlists : State.retuneLayers i (s.packetOf i p) r 0 (s.bank b).voicings[r.voicing].layers x.layers =
            State.retuneLayers i (s.packetOf i p) r 0 [l] [some v] := by rw [hlayers, hone]
        replace hchange := hchange.trans (congrFun hlists _)
        obtain ⟨hown, hq⟩ := State.legato_packet (s := s) (i := i) (pk := s.packetOf i p) (v := v) (q := q) (e := e)
          (y := { x.hears p.sequence .inOrder ks with confirmed := ks, resolution := some r }) hsounding rfl hbank hlayers
          hone hqueue h0 h1 out rfl
        refine ⟨_, hpacket hchange ?_, (congrArg Slot.phase hown).trans hsounding, congrArg Slot.confirmed hown,
          congrArg Slot.resolution hown, (congrArg Slot.layers hown).trans hone, congrArg Slot.outLevel hown,
          hq.trans (congrArg₂ (· ++ ·) (if_congr ?_ rfl rfl) (if_congr ?_ rfl rfl))⟩
        · rw [(State.retuneLayers_reads ..).1, State.slot_setSlot_same]
          exact hsounding
        · exact or_congr ne_comm Iff.rfl
        · simp only [far, decide_eq_true_eq, Voice.LevelDue, levelDistance_eq]
          exact Iff.rfl
      case retrigger =>
        intro first
        have hchange := (State.changeFingering_of_retrigger (pk := s.packetOf i p) (hresolve.trans hfound)
          (.inr ⟨old, by rw [State.slot_setSlot_same]; exact hold, hentry, by rw [hvoicingOf]; exact hother⟩)).trans
          (State.retrigger_setSlot s _)
        have hlists : State.releaseLayers .release x.layers s = State.releaseLayers .release [some v] s := by rw [hone]
        obtain ⟨hown, hq, hvoice, hphase, howner⟩ := State.retrigger_packet (s := s) (i := i) (pk := s.packetOf i p)
          (v := v) (w := w) (q := q) (e := e)
          (y := { x.hears p.sequence .inOrder ks with confirmed := ks, layers := [], resolution := some r }) rfl hbank
          hlayers hqueue hopen hfree hnone hfirst h0 h1 out rfl rfl
        rw [← hlists] at hown hq hvoice hphase howner
        refine ⟨_, hpacket hchange (State.startNote_phase ..), congrArg Slot.phase hown, congrArg Slot.confirmed hown,
          congrArg Slot.resolution hown, congrArg Slot.layers hown, congrArg Slot.outLevel hown, ?_,
          (congrArg Voice.phase hvoice).trans rfl, (congrArg Voice.dn hvoice).trans hopen, hphase, howner⟩
        refine hq.trans (congrArg (fun n => [VoiceRecord.stop v g .release,
          .start w ((s.voice w).generation + 1) l.channel l.program pitch.toNat
            (layerVelocity x.onsetVelocity (s.bank b).voicings[r.voicing].fixedVelocity l) n]) (if_congr ?_ rfl rfl))
        simp only [far, decide_eq_true_eq, levelDistance_eq]
        exact Iff.rfl
  · cases ls <;> rfl
  · cases es <;> rfl

end Sys2Proof.Machine

/-! The frame of a SENSE packet (R2 to R4, R14, R93). -/

namespace Sys2Proof.Machine

open Sys2Proof

/-- From s to t no slot but i moves except for layer entries that become absent (R4, R93), the tables keep their
contents, and no bank moves but a DRAINING one (R148). -/
structure State.Spares (i : SlotIx) (s t : State) : Prop where
  slots : ∀ j, j ≠ i → (s.slot j).RobbedTo (t.slot j)
  banks : ∀ b, t.bank b = { s.bank b with state := (t.bank b).state }
  busy : ∀ b, (s.bank b).state ≠ .draining → t.bank b = s.bank b
  work : t.store.work = s.store.work

namespace State.Spares

variable {i : SlotIx} {s t u : State}

theorem of_store (hslots : ∀ j, j ≠ i → (s.slot j).RobbedTo (t.slot j)) (h : t.store = s.store) : s.Spares i t := by
  have hbank (b : BankIx) : t.bank b = s.bank b := congrArg (fun z : TableStore => z.banks[b]) h
  exact ⟨hslots, fun b => by rw [hbank], fun b _ => hbank b, by rw [h]⟩

theorem of_same (hslots : t.slots = s.slots) (h : t.store = s.store) : s.Spares i t :=
  of_store (fun j _ => by
    have hslot : t.slot j = s.slot j := congrArg (fun z : Vector Slot 8 => z[j]) hslots
    rw [hslot]
    exact .refl _) h

theorem refl (s : State) : s.Spares i s := of_same rfl rfl

theorem trans (h : s.Spares i t) (k : t.Spares i u) : s.Spares i u := by
  refine ⟨fun j hj => (h.slots j hj).trans (k.slots j hj), fun b => ?_, fun b hb => ?_, k.work.trans h.work⟩
  · rw [k.banks b, h.banks b]
  · have ht := h.busy b hb
    exact (k.busy b (by rwa [ht])).trans ht

theorem setSlot (s : State) (x : Slot) : s.Spares i (s.setSlot i x) :=
  of_store (fun j hj => by rw [State.slot_setSlot_ne _ _ (Ne.symm hj)]; exact .refl _) rfl

theorem modSlot (s : State) (f : Slot → Slot) : s.Spares i (s.modSlot i f) := setSlot s _

theorem raise (s : State) (c : Capture) : s.Spares i (s.raise c) := of_same (by simp) (by simp)

theorem drain (s : State) : s.Spares i s.drain := by
  refine ⟨fun j _ => (s.drain_reads.1 j) ▸ .refl _, fun b => ?_, fun b hb => ?_, s.drain_work.1⟩
  · rw [State.bank_drain]
    split <;> rfl
  · rw [State.bank_drain, if_neg fun h => hb h.1]

theorem switchBank (s : State) : s.Spares i (s.switchBank i) := (modSlot s _).trans (drain _)

theorem releaseLayers (s : State) (k : StopKind) (es : List (Option VoiceIx)) :
    s.Spares i (State.releaseLayers k es s) := of_same (by simp) (by simp)

theorem startNote (s : State) (pk : Packet) (r : Resolution) : s.Spares i (s.startNote i pk r) :=
  of_store (fun _ hj => s.startNote_robs i pk r hj) (by simp)

theorem refreshResolution (s : State) : s.Spares i (s.refreshResolution i) := modSlot s _

theorem changeFingering (s : State) (pk : Packet) : s.Spares i (s.changeFingering i pk) := by
  unfold State.changeFingering
  split
  · exact refl s
  next r _ =>
    split
    · exact refl s
    · exact (modSlot s fun x => { x with resolution := some r }).trans (of_same (by simp [State.legatoRetune]) (by simp))
    · exact ((releaseLayers s _ _).trans (modSlot _ fun x => { x with layers := [], resolution := some r })).trans
        (startNote _ pk r)

theorem confirmSounding (s : State) (pk : Packet) (gap : Bool) (ks : KeySet) :
    s.Spares i (s.confirmSounding i pk gap ks) := by
  unfold State.confirmSounding
  dsimp only
  split
  · exact ((modSlot s _).trans (modSlot _ _)).trans (changeFingering _ pk)
  · exact modSlot s _

theorem stalledStart (s : State) (pk : Packet) : s.Spares i (s.stalledStart i pk) := by
  unfold State.stalledStart
  split
  · exact startNote _ pk _
  · exact refl _

theorem confirm (s : State) (pk : Packet) (first gap : Bool) (ks : KeySet) :
    s.Spares i (s.confirm i pk first gap ks) := by
  unfold State.confirm
  split
  · exact (modSlot s _).trans (refreshResolution _)
  · split
    · exact confirmSounding s pk gap ks
    · exact ((modSlot s _).trans (refreshResolution _)).trans (stalledStart _ pk)

theorem onset (s : State) (pk : Packet) (q e : Nat) : s.Spares i (s.onset i pk q e) := by
  unfold State.onset
  dsimp only
  split
  · exact ((modSlot s _).trans (modSlot _ _)).trans (startNote _ pk _)
  · exact (((modSlot s _).trans (modSlot _ _)).trans (switchBank _)).trans (raise _ _)

theorem releaseNote (s : State) : s.Spares i (s.releaseNote i) :=
  (((releaseLayers s _ _).trans (modSlot _ _)).trans (switchBank _)).trans (refreshResolution _)

theorem testSample (s : State) (pk : Packet) (q e : Nat) : s.Spares i (s.testSample i pk q e) := by
  unfold State.testSample
  split
  · split
    · split
      · exact modSlot s _
      · exact refl s
    · split
      · exact onset s pk q e
      · exact refl s
  · split
    · exact (modSlot s _).trans (switchBank _)
    · exact refl s
  · split
    · exact releaseNote s
    · exact refl s
  · exact refl s

theorem sample (s : State) (pk : Packet) (a : Nat) : s.Spares i (State.sample i pk s a) := by
  unfold State.sample
  exact (testSample s pk _ _).trans (modSlot _ _)

theorem samples (s : State) (pk : Packet) (as : List Nat) : s.Spares i (as.foldl (State.sample i pk) s) := by
  induction as generalizing s with
  | nil => exact refl s
  | cons a as ih => exact (sample s pk a).trans (ih _)

theorem perPacket (s : State) (pk : Packet) (e : Nat) : s.Spares i (s.perPacket i pk e) := by
  unfold State.perPacket
  dsimp only
  split
  · exact (modSlot s fun x => x.updateOut pk.settings.slew e).trans (of_same (by simp) (by simp))
  · exact modSlot s _

theorem processPacket (s : State) (first gap : Bool) (p : Sense) : s.Spares i (s.processPacket i first gap p) :=
  ((confirm s _ _ _ _).trans (samples _ _ _)).trans (perPacket _ _ _)

theorem takePacket (s : State) (p : Sense) : s.Spares i (s.takePacket i p) := by
  unfold State.takePacket
  dsimp only
  split
  · exact ((modSlot s _).trans (switchBank _)).trans (processPacket _ _ _ p)
  · split
    · exact (modSlot s _).trans (processPacket _ _ _ p)
    · split
      · exact ((modSlot s _).trans (raise _ _)).trans (processPacket _ _ _ p)
      · exact raise s _

end State.Spares

/-- The moves of the phrases, the pool and the queue keep the credit and the link, and what is owed and sent. -/
theorem State.ports_of_moves {s t : State} (h : Moves s t) :
    t.port.credit = s.port.credit ∧ t.port.attached = s.port.attached ∧ t.port.allStopOwed = s.port.allStopOwed ∧
      t.port.sending = s.port.sending := by
  induction h with
  | refl => exact ⟨rfl, rfl, rfl, rfl⟩
  | tail _ hmove ih =>
    rw [← ih.1, ← ih.2.1, ← ih.2.2.1, ← ih.2.2.2]
    cases hmove with
    | raise => simp
    | inside hsame => rw [hsame.port]; exact ⟨rfl, rfl, rfl, rfl⟩
    | thin | append | settle => exact ⟨rfl, rfl, rfl, rfl⟩

/-- A raise moves the notices and the packets alone (R175, R178). -/
theorem State.raise_untouched (s : State) (c : Capture) :
    s.raise c = { s with notices := (s.raise c).notices, collector := (s.raise c).collector } := by
  unfold State.raise
  dsimp only
  (repeat' split) <;> rfl

/-- What a SENSE packet comes to (R2 to R4). -/
theorem exec_sense_cases {s t : State} {fields : List Byte} (h : exec (.sense fields) s = .next t) :
    t = s ∨ (∃ c, t = s.raise c) ∨ ∃ p i, readSense fields = some p ∧ s.route p.tag = some i ∧ t = s.takePacket i p := by
  by_cases hreceived : s.receives .collector = true
  · cases hread : readSense fields with
    | none =>
      rw [exec_sense_of_unread hreceived hread] at h
      exact .inr (.inl ⟨_, (Host.Outcome.next.inj h).symm⟩)
    | some p =>
      rw [exec_sense_of_received hreceived hread] at h
      cases hroute : s.route p.tag with
      | none =>
        rw [hroute] at h
        exact .inr (.inl ⟨_, (Host.Outcome.next.inj h).symm⟩)
      | some i =>
        rw [hroute] at h
        exact .inr (.inr ⟨p, i, rfl, hroute, (Host.Outcome.next.inj h).symm⟩)
  · exact .inl (Host.Outcome.next.inj (h.symm.trans (congrArg Host.Outcome.next (if_neg hreceived))))

/-- A SENSE packet moves what a taken one moves. -/
theorem sense_spares {s t : State} {fields : List Byte} (h : exec (.sense fields) s = .next t) :
    Moves s t ∧ ∃ i, s.Spares i t := by
  rcases exec_sense_cases h with rfl | ⟨c, rfl⟩ | ⟨p, i, -, -, rfl⟩
  · exact ⟨.refl, 0, .refl _⟩
  · exact ⟨.single (.raise s c), 0, .raise s c⟩
  · exact ⟨(s.takePacket_settles i p).moves, i, .takePacket s p⟩

/-- Settles O48. -/
theorem sensePacketFrame : Obligations.SensePacketFrame := by
  unfold Obligations.SensePacketFrame
  intro s t fields hexec untouched
  obtain ⟨hmoves, j, hspares⟩ := sense_spares hexec
  obtain ⟨hcredit, hattached, howed, hsending⟩ := State.ports_of_moves hmoves
  have hraise {c : Capture} (h : t = s.raise c) : untouched := by
    subst h
    exact s.raise_untouched c
  have hcases := exec_sense_cases hexec
  have hframe : t.responder = s.responder ∧ t.freeCount = s.freeCount ∧ t.receivers = s.receivers ∧
      t.collector.up = s.collector.up := by
    rcases hcases with rfl | ⟨c, rfl⟩ | ⟨p, i, -, -, rfl⟩
    · exact ⟨rfl, rfl, rfl, rfl⟩
    · simp
    · simp
  obtain ⟨hresponder, hfree, hreceivers, hup⟩ := hframe
  refine ⟨fun hread => ?_, fun p hread => ⟨fun hroute => ?_, fun i hroute => ?_⟩,
    fun b => ⟨hspares.banks b, hspares.busy b⟩, hspares.work, hresponder, hfree, hcredit, hattached, howed, hsending, hup,
    hreceivers⟩
  · rcases hcases with rfl | ⟨c, h⟩ | ⟨p, i, hread', -, -⟩
    · rfl
    · exact hraise h
    · rw [hread] at hread'
      cases hread'
  · rcases hcases with rfl | ⟨c, h⟩ | ⟨p', i, hread', hroute', -⟩
    · rfl
    · exact hraise h
    · obtain rfl : p = p' := Option.some.inj (hread.symm.trans hread')
      rw [hroute] at hroute'
      cases hroute'
  · obtain ⟨hbound, htag⟩ := State.route_bound hroute
    refine ⟨hbound, htag, fun e habsent he hstale => ?_, fun k hk => ?_⟩
    · rcases hcases with rfl | ⟨c, h⟩ | ⟨p', i', hread', hroute', h⟩
      · rfl
      · exact hraise h
      · obtain rfl : p = p' := Option.some.inj (hread.symm.trans hread')
        obtain rfl : i = i' := Option.some.inj (hroute.symm.trans hroute')
        exact hraise (h.trans (State.takePacket_of_stale habsent he hstale))
    · rcases hcases with rfl | ⟨c, rfl⟩ | ⟨p', i', hread', hroute', rfl⟩
      · exact Slot.RobbedTo.refl _
      · rw [(s.raise_reads c).1]
        exact Slot.RobbedTo.refl _
      · obtain rfl : p = p' := Option.some.inj (hread.symm.trans hread')
        obtain rfl : i = i' := Option.some.inj (hroute.symm.trans hroute')
        exact (State.Spares.takePacket s p).slots k hk

end Sys2Proof.Machine

/-! The laws of slots, tags, banks and long work (R5, R10, R144, R147 to R149): what keeps them. -/

namespace Sys2Proof.Machine

open Sys2Proof

/-! ### The laws together -/

/-- The laws of slots, tags and banks but for the drain test (R5, R10, R144, R147). -/
structure State.Housed (s : State) : Prop where
  slots : s.SlotLaws
  tags : s.TagsDistinct
  oneLive : ∀ b c : BankIx, (s.bank b).state = .live → (s.bank c).state = .live → b = c
  oneDraining : ∀ b c : BankIx, (s.bank b).state = .draining → (s.bank c).state = .draining → b = c
  beside : ∀ b : BankIx, (s.bank b).state = .draining → s.store.liveBank ≠ none
  reads : ∀ (i : SlotIx) (b : BankIx), (s.slot i).bank = some b → (s.bank b).state = .live ∨ (s.bank b).state = .draining
  unbound : ∀ i : SlotIx, (s.slot i).phase = .unbound → (s.slot i).bank = none
  bound : ∀ i : SlotIx, (s.slot i).phase ≠ .unbound → (s.slot i).phase ≠ .sounding →
    (s.slot i).bank = s.store.liveBank

/-- A DRAINING bank is read by a SOUNDING slot (R148). -/
def State.Drained (s : State) : Prop :=
  ∀ b : BankIx, (s.bank b).state = .draining → ∃ i : SlotIx, (s.slot i).phase = .sounding ∧ (s.slot i).bank = some b

/-- The laws of slots, tags, banks and long work. -/
structure State.TableLaws (s : State) : Prop where
  housed : s.Housed
  drained : s.Drained
  work : s.WorkLaws

theorem State.tableLaws_iff {s : State} :
    s.TableLaws ↔ s.SlotLaws ∧ s.TagsDistinct ∧ s.BankLaws ∧ s.WorkLaws := by
  constructor
  · rintro ⟨⟨hslots, htags, hlive, hdraining, hbeside, hreads, hunbound, hbound⟩, hdrained, hwork⟩
    exact ⟨hslots, htags, ⟨hlive, hdraining, fun b hb => ⟨hbeside b hb, hdrained b hb⟩, hreads, hunbound, hbound⟩, hwork⟩
  · rintro ⟨hslots, htags, ⟨hlive, hdraining, hboth, hreads, hunbound, hbound⟩, hwork⟩
    exact ⟨⟨hslots, htags, hlive, hdraining, fun b hb => (hboth b hb).1, hreads, hunbound, hbound⟩,
      fun b hb => (hboth b hb).2, hwork⟩

/-! ### Slots that keep their tag and their bank in use -/

/-- A change of a slot that keeps its laws, its tag, its bank in use and a note that sounds. -/
structure Slot.Keeps (x y : Slot) : Prop where
  ok : x.Ok → y.Ok
  tag : y.tag = x.tag
  bank : y.bank = x.bank
  sounding : x.phase = .sounding → y.phase = .sounding

theorem Slot.Keeps.refl (x : Slot) : x.Keeps x := ⟨id, rfl, rfl, id⟩

theorem Slot.Keeps.trans {x y z : Slot} (h : x.Keeps y) (k : y.Keeps z) : x.Keeps z :=
  ⟨k.ok ∘ h.ok, k.tag.trans h.tag, k.bank.trans h.bank, k.sounding ∘ h.sounding⟩

/-- An entry that is robbed of an empty layer list leaves it empty. -/
theorem Slot.RobbedTo.keeps {x y : Slot} (h : x.RobbedTo y) : x.Keeps y := by
  obtain ⟨hrest, hlen, -⟩ := h
  refine ⟨?_, by rw [hrest], by rw [hrest], by rw [hrest]; exact id⟩
  rintro ⟨h1, h2, h3, h4, h5, h6, hlayers, h8, h9⟩
  rw [hrest]
  refine ⟨h1, h2, h3, h4, h5, h6, hlayers.imp_right fun hnil => ?_, h8, h9⟩
  rw [hnil] at hlen
  exact List.eq_nil_of_length_eq_zero hlen

/-- A slot whose controller is heard and that is not armed anew starts a note (R81). -/
theorem Slot.keeps_sounding {x : Slot} (hheard : x.Heard) (hrearm : x.rearm = false) (es : List (Option VoiceIx)) :
    x.Keeps { x with phase := .sounding, layers := es } := by
  refine ⟨?_, rfl, rfl, fun _ => rfl⟩
  rintro ⟨htag, hzero, hones, hcause, hseq, hloss, -, -, -⟩
  have hbound : x.phase ≠ .unbound := by rcases hheard with h | h | h <;> simp [h]
  have hpresent : x.phase ≠ .absent := by rcases hheard with h | h | h <;> simp [h]
  exact ⟨iff_of_false nofun (mt htag.mpr hbound), hzero, hones, iff_of_false (mt hcause.mp hpresent) nofun,
    iff_of_true (hseq.mpr hheard) (.inr (.inr rfl)), iff_of_true (hloss.mpr hheard) (.inr (.inr rfl)), .inl rfl, .inl rfl,
    fun h => absurd (hrearm.symm.trans h) nofun⟩

theorem Slot.Ok.rearm_of_ne {x : Slot} (h : x.Ok) (hp : x.phase ≠ .quiet) : x.rearm = false := by
  obtain ⟨-, -, -, -, -, -, -, -, hrearm⟩ := h
  exact Bool.eq_false_of_not_eq_true (mt hrearm hp)

theorem Slot.heard_of_present {x : Slot} (h : x.phase ≠ .unbound) (ha : x.phase ≠ .absent) : x.Heard := by
  cases hp : x.phase with
  | unbound => exact absurd hp h
  | absent => exact absurd hp ha
  | quiet => exact .inl hp
  | stalled => exact .inr (.inl hp)
  | sounding => exact .inr (.inr hp)

namespace State.Housed

variable {s t : State}

/-- With no LIVE bank no slot reads a bank (R144, R147). -/
theorem bank_of_no_live (h : s.Housed) (hl : s.store.liveBank = none) (i : SlotIx) : (s.slot i).bank = none := by
  cases hb : (s.slot i).bank with
  | none => rfl
  | some b =>
    rcases h.reads i b hb with hs | hs
    · exact absurd hs (State.liveBank_eq_none.mp hl b)
    · exact absurd hl (h.beside b hs)

/-- Bank states, and slots that keep tag and bank, keep the laws. -/
theorem of_states (h : s.Housed) (hlive : ∀ b, (t.bank b).state = .live ↔ (s.bank b).state = .live)
    (hdraining : ∀ b, (t.bank b).state = .draining ↔ (s.bank b).state = .draining)
    (hslots : ∀ i, (s.slot i).Keeps (t.slot i)) : t.Housed := by
  have hlb : t.store.liveBank = s.store.liveBank := State.liveBank_congr hlive
  have hok (i : SlotIx) : (t.slot i).Ok := (hslots i).ok (h.slots i)
  have hphase (i : SlotIx) : (t.slot i).phase = .unbound ↔ (s.slot i).phase = .unbound := by
    rw [(hok i).1, (h.slots i).1, (hslots i).tag]
  refine ⟨hok, fun i j heq hne => ?_, fun b c hb hc => ?_, fun b c hb hc => ?_, fun b hb => ?_, fun i b hb => ?_,
    fun i hp => ?_, fun i hp hs => ?_⟩
  · rw [(hslots i).tag] at heq hne
    rw [(hslots j).tag] at heq
    exact h.tags i j heq hne
  · exact h.oneLive b c ((hlive b).mp hb) ((hlive c).mp hc)
  · exact h.oneDraining b c ((hdraining b).mp hb) ((hdraining c).mp hc)
  · rw [hlb]
    exact h.beside b ((hdraining b).mp hb)
  · rw [(hslots i).bank] at hb
    rw [hlive, hdraining]
    exact h.reads i b hb
  · rw [(hslots i).bank]
    exact h.unbound i ((hphase i).mp hp)
  · rw [(hslots i).bank, hlb]
    exact h.bound i (mt (hphase i).mpr hp) (mt (hslots i).sounding hs)

/-- One slot takes a context in which no note sounds, with the bank that the switching rule gives it (R147). -/
theorem setSlot (h : s.Housed) {i : SlotIx} {y : Slot} (hok : y.Ok)
    (htag : ∀ j : SlotIx, j ≠ i → (s.slot j).tag = y.tag → y.tag = none)
    (hbank : y.bank = if y.phase = .unbound then none else s.store.liveBank) : (s.setSlot i y).Housed := by
  obtain ⟨hslots, htags, hlive, hdraining, hbeside, hreads, hunbound, hbound⟩ := h
  have hown (P : Slot → Prop) (hy : P y) (hrest : ∀ j, P (s.slot j)) (j : SlotIx) : P ((s.setSlot i y).slot j) := by
    rw [State.slot_setSlot]
    split
    · exact hy
    · exact hrest j
  refine ⟨hown _ hok hslots, fun j k heq hne => ?_, hlive, hdraining, hbeside,
    hown (fun x => ∀ b, x.bank = some b → (s.bank b).state = .live ∨ (s.bank b).state = .draining) (fun b hb => ?_) hreads,
    hown (fun x => x.phase = .unbound → x.bank = none) (fun hp => ?_) hunbound,
    hown (fun x => x.phase ≠ .unbound → x.phase ≠ .sounding → x.bank = s.store.liveBank) (fun hp _ => ?_) hbound⟩
  · by_cases hj : j = i <;> by_cases hk : k = i
    · rw [hj, hk]
    · subst hj
      rw [State.slot_setSlot_same] at heq hne
      rw [State.slot_setSlot_ne _ _ (Ne.symm hk)] at heq
      exact absurd (htag k hk heq.symm) hne
    · subst hk
      rw [State.slot_setSlot_ne _ _ (Ne.symm hj)] at heq hne
      rw [State.slot_setSlot_same] at heq
      exact absurd (heq.trans (htag j hj heq)) hne
    · rw [State.slot_setSlot_ne _ _ (Ne.symm hj)] at heq hne
      rw [State.slot_setSlot_ne _ _ (Ne.symm hk)] at heq
      exact htags j k heq hne
  · rw [hbank] at hb
    split at hb
    · cases hb
    · exact .inl (State.liveBank_state hb)
  · rw [hbank, if_pos hp]
  · rw [hbank, if_neg hp]

/-! ### The drain test (R148) -/

theorem drain (h : s.Housed) : s.drain.Housed ∧ s.drain.Drained := by
  have hstill {b : BankIx} (hb : (s.drain.bank b).state = .draining) :
      (s.bank b).state = .draining ∧ s.bankUsed b = true := by
    rw [State.bank_drain] at hb
    split at hb
    · cases hb
    next hnot =>
      exact ⟨hb, Bool.eq_true_of_not_eq_false fun hu => hnot ⟨hb, hu⟩⟩
  have hslot (i : SlotIx) : s.drain.slot i = s.slot i := s.drain_reads.1 i
  have hlb : s.drain.store.liveBank = s.store.liveBank := s.drain_liveBank
  obtain ⟨hslots, htags, hlive, hdraining, hbeside, hreads, hunbound, hbound⟩ := h
  refine ⟨⟨fun i => by rw [hslot]; exact hslots i, fun i j => by rw [hslot, hslot]; exact htags i j,
    fun b c hb hc => hlive b c ((s.drain_live b).mp hb) ((s.drain_live c).mp hc),
    fun b c hb hc => hdraining b c (hstill hb).1 (hstill hc).1, fun b hb => ?_, fun i b hb => ?_, fun i => ?_, fun i => ?_⟩,
    fun b hb => ?_⟩
  · rw [hlb]
    exact hbeside b (hstill hb).1
  · rw [hslot] at hb
    refine (hreads i b hb).imp (s.drain_live b).mpr fun hd => ?_
    rw [State.bank_drain, if_neg]
    · exact hd
    · exact fun hu => (s.bankUsed_iff b).mp hu.2 i hb
  · rw [hslot]
    exact hunbound i
  · rw [hslot, hlb]
    exact hbound i
  · obtain ⟨hd, hused⟩ := hstill hb
    have hsome : ∃ i : SlotIx, (s.slot i).bank = some b := by
      by_contra hnone
      rw [(s.bankUsed_iff b).mpr fun i hi => hnone ⟨i, hi⟩] at hused
      cases hused
    obtain ⟨i, hi⟩ := hsome
    refine ⟨i, ?_, by rw [hslot]; exact hi⟩
    rw [hslot]
    by_contra hs
    by_cases hp : (s.slot i).phase = .unbound
    · rw [hunbound i hp] at hi
      cases hi
    · rw [hbound i hp hs] at hi
      rw [State.liveBank_state hi] at hd
      cases hd

/-- The drain test leaves long work where it is (R148, R149). -/
theorem stagingBank_drain {b : BankIx} (hb : s.store.stagingBank = some b) :
    s.drain.store.stagingBank = some b := by
  cases hl : s.store.liveBank with
  | none =>
    have hnone := State.liveBank_eq_none.mp hl
    rw [State.stagingBank_of_none fun d => mt (s.drain_live d).mp (hnone d)]
    rw [State.stagingBank_of_none hnone] at hb
    exact hb
  | some l =>
    obtain ⟨hbl, hbd⟩ := State.stagingBank_state (by simp [hl]) hb
    refine State.stagingBank_of_live (s.drain_liveBank.trans hl) ?_ (mt (s.drain_live b).mp hbl) ?_
    · rintro rfl
      exact hbl (State.liveBank_state hl)
    · rw [State.bank_drain, if_neg fun hd => hbd hd.1]
      exact hbd

theorem workLaws_drain (hw : s.WorkLaws) : s.drain.WorkLaws := by
  obtain ⟨hlen, hcopying, hverifying, hwork⟩ := hw
  have hsame {b : BankIx} (hb : (s.drain.bank b).state = .copying ∨ (s.drain.bank b).state = .verifying) :
      s.drain.bank b = s.bank b := by
    rw [State.bank_drain] at hb ⊢
    split at hb
    · rcases hb with hb | hb <;> cases hb
    next hnot => rw [if_neg hnot]
  rw [State.WorkLaws, s.drain_work.1]
  refine ⟨hlen, fun b hb => ?_, fun b hb => ?_, fun hne => ?_⟩
  · obtain ⟨hkind, hstaging, hl⟩ := hcopying b (hsame (.inl hb) ▸ hb)
    exact ⟨hkind, stagingBank_drain hstaging, s.drain_liveBank ▸ hl⟩
  · obtain ⟨hkind, hstaging⟩ := hverifying b (hsame (.inr hb) ▸ hb)
    exact ⟨hkind, stagingBank_drain hstaging⟩
  · intro hnone
    refine hwork hne (State.workBank_eq_none.mpr fun b => ?_)
    have hb := State.workBank_eq_none.mp hnone b
    rw [State.bank_drain] at hb
    split at hb
    next hd => rw [hd.1]; decide
    · exact hb

theorem tableLaws_drain (h : s.Housed) (hw : s.WorkLaws) : s.drain.TableLaws :=
  ⟨h.drain.1, h.drain.2, workLaws_drain hw⟩

end State.Housed

namespace State.TableLaws

variable {s t : State}

/-- The long-work queue is judged by the bank states alone (R149). -/
theorem workLaws_congr (h : s.WorkLaws) (hstate : ∀ b, (t.bank b).state = (s.bank b).state)
    (hwork : t.store.work = s.store.work) : t.WorkLaws := by
  have hlive : t.store.liveBank = s.store.liveBank := State.liveBank_congr fun b => by rw [hstate]
  have hstaging : t.store.stagingBank = s.store.stagingBank :=
    State.stagingBank_congr (fun b => by rw [hstate]) fun b => by rw [hstate]
  rw [State.WorkLaws, hwork, hlive, hstaging, State.workBank_congr hstate]
  simp only [hstate]
  exact h

theorem of_states (h : s.TableLaws) (hstate : ∀ b, (t.bank b).state = (s.bank b).state)
    (hwork : t.store.work = s.store.work) (hslots : ∀ i, (s.slot i).Keeps (t.slot i)) : t.TableLaws := by
  refine ⟨h.housed.of_states (fun b => by rw [hstate]) (fun b => by rw [hstate]) hslots, fun b hb => ?_,
    workLaws_congr h.work hstate hwork⟩
  obtain ⟨i, hs, hi⟩ := h.drained b ((hstate b).symm.trans hb)
  exact ⟨i, (hslots i).sounding hs, (hslots i).bank.trans hi⟩

/-- The tables stay and every slot keeps tag and bank. -/
theorem of_store (h : s.TableLaws) (hstore : t.store = s.store) (hslots : ∀ i, (s.slot i).Keeps (t.slot i)) :
    t.TableLaws :=
  h.of_states (fun b => congrArg (fun z : TableStore => z.banks[b].state) hstore) (congrArg TableStore.work hstore) hslots

theorem of_same (h : s.TableLaws) (hslots : t.slots = s.slots) (hstore : t.store = s.store) : t.TableLaws :=
  h.of_store hstore fun i => by
    have hslot : t.slot i = s.slot i := congrArg (fun z : Vector Slot 8 => z[i]) hslots
    rw [hslot]
    exact .refl _

theorem modSlot (h : s.TableLaws) {i : SlotIx} {f : Slot → Slot} (hf : (s.slot i).Keeps (f (s.slot i))) :
    (s.modSlot i f).TableLaws :=
  h.of_store rfl fun j => by
    rw [State.slot_modSlot]
    split
    next hij => exact hij ▸ hf
    · exact .refl _

theorem raise (h : s.TableLaws) (c : Capture) : (s.raise c).TableLaws := h.of_same (by simp) (by simp)

/-- A slot changes to a context in which no note sounds, and the switching rule is applied (R147, R148). -/
theorem switched (h : s.TableLaws) {i : SlotIx} {f : Slot → Slot} (hok : (f (s.slot i)).Ok)
    (hs : (f (s.slot i)).phase ≠ .sounding)
    (htag : ∀ j : SlotIx, j ≠ i → (s.slot j).tag = (f (s.slot i)).tag → (f (s.slot i)).tag = none)
    (hbank : (f (s.slot i)).bank = (s.slot i).bank ∨ (f (s.slot i)).bank = none) :
    ((s.modSlot i f).switchBank i).TableLaws := by
  rw [State.modSlot_eq, State.switchBank_setSlot]
  refine State.Housed.tableLaws_drain (h.housed.setSlot hok htag ?_) h.work
  rcases switchedBank_cases s.store.liveBank (f (s.slot i)) with ⟨hp, hsw⟩ | ⟨hp, -⟩ | ⟨hp, -, hsw⟩
  · exact hsw.trans (if_pos hp).symm
  · exact absurd hp hs
  · refine (hsw.trans ?_).trans (if_neg hp).symm
    cases hl : s.store.liveBank with
    | some l => rfl
    | none =>
      have hnone := h.housed.bank_of_no_live hl i
      rcases hbank with hb | hb <;> rw [hb]
      · exact hnone
      · rfl

/-- The same for a slot that keeps its tag and its bank. -/
theorem switched_of_kept (h : s.TableLaws) {i : SlotIx} {f : Slot → Slot} (hok : (f (s.slot i)).Ok)
    (hs : (f (s.slot i)).phase ≠ .sounding) (htag : (f (s.slot i)).tag = (s.slot i).tag)
    (hbank : (f (s.slot i)).bank = (s.slot i).bank) : ((s.modSlot i f).switchBank i).TableLaws := by
  refine h.switched hok hs (fun j hj heq => ?_) (.inl hbank)
  by_contra hne
  rw [htag] at heq hne
  exact hj (h.housed.tags j i heq (heq ▸ hne))

end State.TableLaws

end Sys2Proof.Machine

/-! What keeps the laws of slots, tags and banks: binding, packets, flushes and the loss of a controller (R9 to R17,
R81 to R94). -/

namespace Sys2Proof.Machine

open Sys2Proof

/-! ### The laws of one slot, by its state -/

/-- The laws of a slot whose controller is heard (R5, R77). -/
theorem Slot.ok_iff_of_heard {x : Slot} (hh : x.Heard) :
    x.Ok ↔ (x.tag ≠ none ∧ x.tag ≠ some 0 ∧ x.tag ≠ some 0xFFFF#16) ∧ x.absentCause = none ∧
      x.expectedSeq.isSome = true ∧ x.lossTimer.isSome = true ∧ (x.phase = .sounding ∨ x.layers = []) ∧
      (x.phase = .sounding ∨ x.pendingSettings = none) ∧ (x.rearm = true → x.phase = .quiet) := by
  have hbound : x.phase ≠ .unbound := by rcases hh with h | h | h <;> simp [h]
  have hpresent : x.phase ≠ .absent := by rcases hh with h | h | h <;> simp [h]
  constructor
  · rintro ⟨htag, hzero, hones, hcause, hseq, hloss, hrest⟩
    exact ⟨⟨mt htag.mpr hbound, hzero, hones⟩, Option.not_isSome_iff_eq_none.mp (mt hcause.mp hpresent), hseq.mpr hh,
      hloss.mpr hh, hrest⟩
  · rintro ⟨⟨htag, hzero, hones⟩, hcause, hseq, hloss, hrest⟩
    exact ⟨iff_of_false hbound htag, hzero, hones, iff_of_false (by simp [hcause]) hpresent, iff_of_true hseq hh,
      iff_of_true hloss hh, hrest⟩

/-- The laws of an ABSENT slot (R5, R20). -/
theorem Slot.ok_iff_of_absent {x : Slot} (ha : x.phase = .absent) :
    x.Ok ↔ (x.tag ≠ none ∧ x.tag ≠ some 0 ∧ x.tag ≠ some 0xFFFF#16) ∧ x.absentCause.isSome = true ∧
      x.expectedSeq = none ∧ x.lossTimer = none ∧ x.layers = [] ∧ x.pendingSettings = none ∧ x.rearm = false := by
  have hheard : ¬x.Heard := by simp [Slot.Heard, ha]
  constructor
  · rintro ⟨htag, hzero, hones, hcause, hseq, hloss, hlayers, hpending, hrearm⟩
    exact ⟨⟨mt htag.mpr (by simp [ha]), hzero, hones⟩, hcause.mpr ha,
      Option.not_isSome_iff_eq_none.mp (mt hseq.mp hheard), Option.not_isSome_iff_eq_none.mp (mt hloss.mp hheard),
      hlayers.resolve_left (by simp [ha]), hpending.resolve_left (by simp [ha]),
      Bool.eq_false_of_not_eq_true (mt hrearm (by simp [ha]))⟩
  · rintro ⟨⟨htag, hzero, hones⟩, hcause, hseq, hloss, hlayers, hpending, hrearm⟩
    exact ⟨iff_of_false (by simp [ha]) htag, hzero, hones, iff_of_true hcause ha, iff_of_false (by simp [hseq]) hheard,
      iff_of_false (by simp [hloss]) hheard, .inr hlayers, .inr hpending, by simp [hrearm]⟩

/-- The tag of a bound slot is one that may be bound (R5, R10). -/
theorem Slot.Ok.tag_of_bound {x : Slot} (h : x.Ok) (hp : x.phase ≠ .unbound) :
    x.tag ≠ none ∧ x.tag ≠ some 0 ∧ x.tag ≠ some 0xFFFF#16 := by
  obtain ⟨htag, hzero, hones, -⟩ := h
  exact ⟨mt htag.mpr hp, hzero, hones⟩

/-- The laws of an UNBOUND slot's context (R12). -/
theorem Slot.ok_unbound (st : Settings) (b : Option BankIx) : Slot.Ok { settings := st, bank := b } := by
  refine ⟨iff_of_true rfl rfl, nofun, nofun, iff_of_false nofun nofun, iff_of_false nofun ?_, iff_of_false nofun ?_,
    .inr rfl, .inr rfl, nofun⟩ <;> simp [Slot.Heard]

namespace State.TableLaws

variable {s t : State}

theorem releaseLayers (h : s.TableLaws) (k : StopKind) (es : List (Option VoiceIx)) :
    (State.releaseLayers k es s).TableLaws := h.of_same (by simp) (by simp)

theorem releaseLayers_slot (s : State) (k : StopKind) (es : List (Option VoiceIx)) (i : SlotIx) :
    (State.releaseLayers k es s).slot i = s.slot i := (s.releaseLayers_reads k es).1 i

/-! ### Binding (R11, R12) -/

theorem unbind (h : s.TableLaws) (i : SlotIx) : (s.unbind i).TableLaws :=
  (h.releaseLayers .flush (s.slot i).layers).switched (Slot.ok_unbound _ _) nofun (fun _ _ _ => rfl) (.inl rfl)

theorem slot_unbind (s : State) (i j : SlotIx) :
    (s.unbind i).slot j = if i = j then { settings := (s.slot i).applyPending.settings } else s.slot j := by
  rw [State.unbind_eq, (State.drain_reads _).1, State.slot_setSlot, releaseLayers_slot]

theorem bind (h : s.TableLaws) {i : SlotIx} {t : Half} (hzero : t ≠ 0#16) (hones : t ≠ 0xFFFF#16)
    (hfree : s.tagInUse i t = false) : (s.bind i t).TableLaws := by
  have htag (j : SlotIx) (hj : j ≠ i) : (s.slot j).tag ≠ some t := by
    intro heq
    have hbound : (s.slot j).phase ≠ .unbound := fun hp => by
      rw [(h.housed.slots j).1.mp hp] at heq
      cases heq
    rw [(s.tagInUse_iff i t).mpr ⟨j, hj, hbound, heq⟩] at hfree
    cases hfree
  have key {u : State} (hu : u.TableLaws) (hp : (u.slot i).phase = .unbound)
      (hother : ∀ j, j ≠ i → (u.slot j).tag ≠ some t) : ((u.modSlot i fun x => x.bound t).switchBank i).TableLaws := by
    obtain ⟨-, -, -, -, -, -, -, hpending, -⟩ := hu.housed.slots i
    refine hu.switched ?_ nofun (fun j hj heq => absurd heq (hother j hj)) (.inl rfl)
    exact (Slot.ok_iff_of_absent rfl).mpr ⟨⟨nofun, by simpa [Slot.bound] using hzero, by simpa [Slot.bound] using hones⟩,
      rfl, rfl, rfl, rfl, hpending.resolve_left (by simp [hp]), rfl⟩
  unfold State.bind
  dsimp only
  split
  next hp => exact key h hp htag
  · refine key (h.unbind i) ?_ fun j hj => ?_
    · rw [slot_unbind, if_pos rfl]
    · rw [slot_unbind, if_neg (Ne.symm hj)]
      exact htag j hj

/-! ### Loss, flush and RESTART (R17, R21, R94) -/

theorem lossExpiry (h : s.TableLaws) (i : SlotIx) : (s.lossExpiry i).TableLaws := by
  unfold State.lossExpiry
  split
  · exact h
  next hrun =>
    have hreleased := h.releaseLayers .lost (s.slot i).layers
    have hslot := releaseLayers_slot s .lost (s.slot i).layers i
    have hheard : (s.slot i).Heard := by
      obtain ⟨-, -, -, -, -, hloss, -⟩ := h.housed.slots i
      refine hloss.mp ?_
      simpa [Option.isSome_iff_ne_none] using hrun
    have hlost : (s.slot i).lostController.Ok := by
      obtain ⟨htag, -⟩ := (Slot.ok_iff_of_heard hheard).mp (h.housed.slots i)
      unfold Slot.lostController
      rw [Slot.applyPending_eq]
      exact (Slot.ok_iff_of_absent rfl).mpr ⟨htag, rfl, rfl, rfl, rfl, rfl, rfl⟩
    have hrest : (s.slot i).lostController.phase = .absent ∧ (s.slot i).lostController.tag = (s.slot i).tag ∧
        (s.slot i).lostController.bank = (s.slot i).bank := by
      unfold Slot.lostController
      rw [Slot.applyPending_eq]
      exact ⟨rfl, rfl, rfl⟩
    refine (hreleased.switched_of_kept ?_ ?_ ?_ ?_).raise _ <;> rw [hslot]
    · exact hlost
    · rw [hrest.1]
      nofun
    · exact hrest.2.1
    · exact hrest.2.2

theorem flushSlot (h : s.TableLaws) (i : SlotIx) : (s.flushSlot i).TableLaws := by
  unfold State.flushSlot
  split
  next hp =>
    obtain ⟨htag, hcause, hseq, hloss, -⟩ := (Slot.ok_iff_of_heard (.inr (.inr hp))).mp (h.housed.slots i)
    have hflushed : (s.slot i).flushed = { (s.slot i).applyPending with layers := [], phase := .quiet, rearm := true } := by
      rw [Slot.flushed, hp]
      exact Slot.applyPending_quiet _
    rw [Slot.applyPending_eq] at hflushed
    refine h.switched_of_kept ?_ ?_ ?_ ?_ <;> rw [hflushed]
    · exact (Slot.ok_iff_of_heard (.inl rfl)).mpr ⟨htag, hcause, hseq, hloss, .inr rfl, .inr rfl, fun _ => rfl⟩
    · nofun
  next hp =>
    obtain ⟨htag, hcause, hseq, hloss, hlayers, hpending, -⟩ :=
      (Slot.ok_iff_of_heard (.inr (.inl hp))).mp (h.housed.slots i)
    have hflushed : (s.slot i).flushed = { s.slot i with phase := .quiet, rearm := true } := by rw [Slot.flushed, hp]
    refine h.switched_of_kept ?_ ?_ ?_ ?_ <;> rw [hflushed]
    · exact (Slot.ok_iff_of_heard (.inl rfl)).mpr ⟨htag, hcause, hseq, hloss, .inr (hlayers.resolve_left (by simp [hp])),
        .inr (hpending.resolve_left (by simp [hp])), fun _ => rfl⟩
    · nofun
  · exact h

theorem foldl {f : State → SlotIx → State} (hf : ∀ (s : State) i, s.TableLaws → (f s i).TableLaws) (h : s.TableLaws)
    (is : List SlotIx) : (is.foldl f s).TableLaws := by
  induction is generalizing s with
  | nil => exact h
  | cons i is ih => exact ih (hf s i h)

theorem voiceFlush (h : s.TableLaws) (place : Bool) : (s.voiceFlush place).TableLaws :=
  foldl (fun _ i h => h.flushSlot i) (h.of_same (t := s.flushPool place) rfl rfl) _

theorem restartSlot (h : s.TableLaws) (i : SlotIx) : (s.restartSlot i).TableLaws := by
  unfold State.restartSlot
  split
  · exact h
  next hp =>
    have htag := (h.housed.slots i).tag_of_bound hp
    refine h.switched_of_kept ?_ nofun ?_ ?_ <;> unfold Slot.restarted <;> rw [Slot.applyPending_eq]
    exact (Slot.ok_iff_of_absent rfl).mpr ⟨htag, rfl, rfl, rfl, rfl, rfl, rfl⟩

end State.TableLaws

/-! ### A packet (R4, R13, R78) -/

/-- The laws, in a state whose slot i is heard: what holds all along the stages of a packet. -/
structure State.Playing (i : SlotIx) (s : State) : Prop where
  laws : s.TableLaws
  heard : (s.slot i).Heard

namespace State.Playing

variable {i : SlotIx} {s t : State} (pk : Packet) (r : Resolution)

theorem of_same (h : s.Playing i) (hslots : t.slots = s.slots) (hstore : t.store = s.store) : t.Playing i :=
  ⟨h.laws.of_same hslots hstore, by
    have hslot : t.slot i = s.slot i := congrArg (fun z : Vector Slot 8 => z[i]) hslots
    rw [hslot]
    exact h.heard⟩

theorem raise (h : s.Playing i) (c : Capture) : (s.raise c).Playing i := h.of_same (by simp) (by simp)

theorem releaseLayers (h : s.Playing i) (k : StopKind) (es : List (Option VoiceIx)) :
    (State.releaseLayers k es s).Playing i := h.of_same (by simp) (by simp)

/-- A field of the slot changes that its state, tag and bank in use do not depend on. -/
theorem modSlot (h : s.Playing i) {f : Slot → Slot} (hf : (s.slot i).Keeps (f (s.slot i)))
    (hp : (f (s.slot i)).phase = (s.slot i).phase) : (s.modSlot i f).Playing i :=
  ⟨h.laws.modSlot hf, by rw [State.slot_modSlot_same, Slot.Heard, hp]; exact h.heard⟩

/-- The slot becomes QUIET or STALLED with no layers and nothing pending, and the switching rule is applied (R147). -/
theorem silenced (h : s.Playing i) {f : Slot → Slot} (hp : (f (s.slot i)).phase = .quiet ∨ (f (s.slot i)).phase = .stalled)
    (htag : (f (s.slot i)).tag = (s.slot i).tag) (hbank : (f (s.slot i)).bank = (s.slot i).bank)
    (hcause : (f (s.slot i)).absentCause = (s.slot i).absentCause)
    (hseq : (f (s.slot i)).expectedSeq = (s.slot i).expectedSeq) (hloss : (f (s.slot i)).lossTimer = (s.slot i).lossTimer)
    (hlayers : (f (s.slot i)).layers = []) (hpending : (f (s.slot i)).pendingSettings = none)
    (hrearm : (f (s.slot i)).rearm = false) : ((s.modSlot i f).switchBank i).Playing i := by
  have hheard : (f (s.slot i)).Heard := hp.imp_right .inl
  obtain ⟨ktag, kcause, kseq, kloss, -⟩ := (Slot.ok_iff_of_heard h.heard).mp (h.laws.housed.slots i)
  refine ⟨h.laws.switched_of_kept ?_ ?_ htag hbank, ?_⟩
  · exact (Slot.ok_iff_of_heard hheard).mpr ⟨by rwa [htag], hcause.trans kcause, hseq ▸ kseq, hloss ▸ kloss, .inr hlayers,
      .inr hpending, by simp [hrearm]⟩
  · rcases hp with hp | hp <;> simp [hp]
  · rw [State.slot_switchBank, if_pos rfl, State.slot_modSlot_same]
    exact hheard

theorem startNote (h : s.Playing i) (hrearm : (s.slot i).rearm = false) : (s.startNote i pk r).Playing i := by
  refine ⟨h.laws.of_store (by simp) fun j => ?_, .inr (.inr (s.startNote_phase i pk r))⟩
  by_cases hj : j = i
  · subst hj
    rw [(s.startNote_own j pk r).1]
    exact Slot.keeps_sounding h.heard hrearm _
  · exact (s.startNote_robs i pk r hj).keeps

theorem rearm_of_ne (h : s.Playing i) (hp : (s.slot i).phase ≠ .quiet) : (s.slot i).rearm = false :=
  (h.laws.housed.slots i).rearm_of_ne hp

/-- Fields that no law speaks of. -/
theorem refreshResolution (h : s.Playing i) : (s.refreshResolution i).Playing i := h.modSlot ⟨id, rfl, rfl, id⟩ rfl

theorem changeFingering (h : s.Playing i) (hp : (s.slot i).phase = .sounding) : (s.changeFingering i pk).Playing i := by
  unfold State.changeFingering
  split
  · exact h
  next r _ =>
    have hrearm := h.rearm_of_ne (by simp [hp])
    split
    · exact h
    · exact (h.modSlot (f := fun x => { x with resolution := some r }) ⟨id, rfl, rfl, id⟩ rfl).of_same
        (by simp [State.legatoRetune]) (by simp)
    · have hreleased := h.releaseLayers .release (s.slot i).layers
      have hslot := State.TableLaws.releaseLayers_slot s .release (s.slot i).layers i
      have hempty := hreleased.modSlot (f := fun x => { x with layers := [], resolution := some r })
        ⟨fun ⟨h1, h2, h3, h4, h5, h6, _, h8, h9⟩ => ⟨h1, h2, h3, h4, h5, h6, .inr rfl, h8, h9⟩, rfl, rfl, id⟩ rfl
      refine hempty.startNote pk r ?_
      rw [State.slot_modSlot_same, hslot]
      exact hrearm

theorem countRun_keeps (x : Slot) (gap : Bool) (ks : KeySet) :
    x.Keeps (x.countRun gap ks) ∧ (x.countRun gap ks).phase = x.phase := by
  unfold Slot.countRun
  split <;> exact ⟨⟨id, rfl, rfl, id⟩, rfl⟩

theorem confirm (h : s.Playing i) (first gap : Bool) (ks : KeySet) : (s.confirm i pk first gap ks).Playing i := by
  obtain ⟨hkeeps, hphase⟩ := countRun_keeps (s.slot i) gap ks
  unfold State.confirm
  split
  · exact (h.modSlot (f := fun x => x.confirmFirst ks) ⟨id, rfl, rfl, id⟩ rfl).refreshResolution
  · split
    next hp =>
      have hcount := h.modSlot (f := fun x => x.countRun gap ks) hkeeps hphase
      unfold State.confirmSounding
      dsimp only
      split
      · refine (hcount.modSlot (f := fun x => { x with confirmed := x.candidate }) ⟨id, rfl, rfl, id⟩ rfl).changeFingering
          pk ?_
        simp only [State.slot_modSlot_same]
        exact hphase.trans hp
      · exact hcount
    next =>
      have hcount := (h.modSlot (f := fun x => x.confirmQuiet gap ks)
        (hkeeps.trans ⟨id, rfl, rfl, id⟩) hphase).refreshResolution
      unfold State.stalledStart
      split
      next hp _ => exact hcount.startNote pk _ (hcount.rearm_of_ne (by simp [hp]))
      · exact hcount

theorem onset (h : s.Playing i) (hp : (s.slot i).phase = .quiet) (hrearm : (s.slot i).rearm = false) (q e : Nat) :
    (s.onset i pk q e).Playing i := by
  have hstruck := h.modSlot (f := fun x => { x with onsetVelocity := onsetVelocityOf pk.settings.velocityGain q x.qPrev })
    ⟨id, rfl, rfl, id⟩ rfl
  unfold State.onset
  dsimp only
  split
  · refine (hstruck.modSlot (f := fun x => { x with outLevel := e }) ⟨id, rfl, rfl, id⟩ rfl).startNote pk _ ?_
    simpa using hrearm
  · obtain ⟨-, -, -, -, hlayers, hpending, -⟩ := (Slot.ok_iff_of_heard h.heard).mp (h.laws.housed.slots i)
    refine (hstruck.silenced (f := fun x => { x with phase := .stalled }) (.inr rfl) rfl rfl rfl rfl rfl ?_ ?_ ?_).raise _
      <;> rw [State.slot_modSlot_same]
    · exact hlayers.resolve_left (by simp [hp])
    · exact hpending.resolve_left (by simp [hp])
    · exact hrearm

theorem releaseNote (h : s.Playing i) (hp : (s.slot i).phase = .sounding) : (s.releaseNote i).Playing i := by
  have hreleased := h.releaseLayers .release (s.slot i).layers
  have hslot := State.TableLaws.releaseLayers_slot s .release (s.slot i).layers i
  unfold State.releaseNote
  refine (hreleased.silenced ?_ ?_ ?_ ?_ ?_ ?_ ?_ ?_ ?_).refreshResolution <;>
    simp only [Slot.applyPending_of_silent, hslot, true_or]
  exact h.rearm_of_ne (by simp [hp])

theorem abandonOnset (h : s.Playing i) (hp : (s.slot i).phase = .stalled) : (s.abandonOnset i).Playing i := by
  obtain ⟨-, -, -, -, hlayers, hpending, -⟩ := (Slot.ok_iff_of_heard h.heard).mp (h.laws.housed.slots i)
  exact h.silenced (f := fun x => { x with phase := .quiet }) (.inl rfl) rfl rfl rfl rfl rfl
    (hlayers.resolve_left (by simp [hp])) (hpending.resolve_left (by simp [hp])) (h.rearm_of_ne (by simp [hp]))

theorem testSample (h : s.Playing i) (q e : Nat) : (s.testSample i pk q e).Playing i := by
  unfold State.testSample
  split
  next hp =>
    split
    · split
      · exact h.modSlot (f := fun x => { x with rearm := false })
          ⟨fun ⟨h1, h2, h3, h4, h5, h6, h7, h8, _⟩ => ⟨h1, h2, h3, h4, h5, h6, h7, h8, nofun⟩, rfl, rfl, id⟩ rfl
      · exact h
    next hrearm =>
      split
      · exact h.onset pk hp (Bool.eq_false_of_not_eq_true hrearm) q e
      · exact h
  next hp =>
    split
    · exact h.abandonOnset hp
    · exact h
  next hp =>
    split
    · exact h.releaseNote hp
    · exact h
  · exact h

theorem sample (h : s.Playing i) (a : Nat) : (State.sample i pk s a).Playing i := by
  unfold State.sample
  exact (h.testSample pk _ _).modSlot ⟨id, rfl, rfl, id⟩ rfl

theorem samples (h : s.Playing i) (as : List Nat) : (as.foldl (State.sample i pk) s).Playing i := by
  induction as generalizing s with
  | nil => exact h
  | cons a as ih => exact ih (h.sample pk a)

theorem perPacket (h : s.Playing i) (e : Nat) : (s.perPacket i pk e).Playing i := by
  have hout := h.modSlot (f := fun x => x.updateOut pk.settings.slew e) ⟨id, rfl, rfl, id⟩ rfl
  unfold State.perPacket
  dsimp only
  split
  · exact hout.of_same (by simp) (by simp)
  · exact hout

theorem processPacket (h : s.Playing i) (first gap : Bool) (p : Sense) : (s.processPacket i first gap p).Playing i :=
  ((h.confirm _ first gap _).samples _ p.samples).perPacket _ _

/-- Acceptance in ABSENT (R13). -/
theorem leaveAbsent (h : s.TableLaws) (ha : (s.slot i).phase = .absent) (p : Sense) : (s.leaveAbsent i p).Playing i := by
  obtain ⟨htag, -, -, -, hlayers, hpending, hrearm⟩ := (Slot.ok_iff_of_absent ha).mp (h.housed.slots i)
  refine ⟨h.switched_of_kept ?_ nofun rfl rfl, ?_⟩
  · exact (Slot.ok_iff_of_heard (.inl rfl)).mpr ⟨htag, rfl, rfl, rfl, .inr hlayers, .inr hpending, fun _ => rfl⟩
  · unfold State.leaveAbsent
    rw [State.slot_switchBank, if_pos rfl, State.slot_modSlot_same]
    exact .inl rfl

/-- Acceptance in a slot whose controller is heard (R14, R16). -/
theorem accept (h : s.Playing i) (sequence : Byte) : (s.modSlot i fun x => x.accept sequence).Playing i := by
  refine h.modSlot ⟨fun hok => ?_, rfl, rfl, id⟩ rfl
  obtain ⟨htag, hcause, -, -, hrest⟩ := (Slot.ok_iff_of_heard h.heard).mp hok
  exact (Slot.ok_iff_of_heard (x := (s.slot i).accept sequence) h.heard).mpr ⟨htag, hcause, rfl, rfl, hrest⟩

end State.Playing

theorem State.TableLaws.takePacket {s : State} (h : s.TableLaws) {i : SlotIx} (hbound : (s.slot i).phase ≠ .unbound)
    (p : Sense) : (s.takePacket i p).TableLaws := by
  unfold State.takePacket
  dsimp only
  split
  next ha => exact ((State.Playing.leaveAbsent h ha p).processPacket true false p).laws
  next ha =>
    have haccepted := State.Playing.accept ⟨h, Slot.heard_of_present hbound ha⟩ p.sequence
    split
    · exact (haccepted.processPacket false false p).laws
    · split
      · exact ((haccepted.raise _).processPacket false true p).laws
      · exact h.raise _

end Sys2Proof.Machine

/-! Long work keeps the laws of slots, tags, banks and long work, and so does every step (R146 to R154). -/

namespace Sys2Proof.Machine

open Sys2Proof

/-! ### Long work that stands still (R149) -/

/-- No bank is copied or verified (R149). -/
def State.Idle (s : State) : Prop := ∀ b : BankIx, (s.bank b).state ≠ .copying ∧ (s.bank b).state ≠ .verifying

section
variable {s t : State} {b : BankIx} {x y : BankState}

theorem State.WorkLaws.idle (h : s.WorkLaws) (hw : s.store.work = []) : s.Idle := by
  obtain ⟨-, hcopying, hverifying, -⟩ := h
  refine fun b => ⟨fun hb => ?_, fun hb => ?_⟩
  · have hkind := (hcopying b hb).1
    rw [hw] at hkind
    cases hkind
  · have hkind := (hverifying b hb).1
    rw [hw] at hkind
    cases hkind

theorem State.Idle.workLaws (h : s.Idle) (hw : s.store.work = []) : s.WorkLaws :=
  ⟨by simp [hw], fun b hb => absurd hb (h b).1, fun b hb => absurd hb (h b).2, fun hne => absurd hw hne⟩

/-- The bank that long work runs on is the only one that is copied or verified (R149). -/
theorem State.WorkLaws.eq_of_busy (h : s.WorkLaws) (hb : s.store.workBank = some b) {d : BankIx}
    (hd : (s.bank d).state = .copying ∨ (s.bank d).state = .verifying) : d = b := by
  obtain ⟨-, hcopying, hverifying, -⟩ := h
  have hstaging {c : BankIx} (hc : (s.bank c).state = .copying ∨ (s.bank c).state = .verifying) :
      s.store.stagingBank = some c := hc.elim (fun hc => (hcopying c hc).2.1) fun hc => (hverifying c hc).2
  exact Option.some.inj ((hstaging hd).symm.trans (hstaging (State.workBank_state hb)))

/-- What one bank's change of state leaves. -/
theorem State.mark_iff (hbank : ∀ d, (t.bank d).state = if b = d then x else (s.bank d).state)
    (hb : (s.bank b).state ≠ y) (hx : x ≠ y) (d : BankIx) : (t.bank d).state = y ↔ (s.bank d).state = y := by
  rw [hbank]
  split
  next hbd => exact iff_of_false hx (hbd ▸ hb)
  · rfl

/-- When the bank of long work is marked as another, nothing is copied or verified any more. -/
theorem State.WorkLaws.idle_of_mark (h : s.WorkLaws) (hb : s.store.workBank = some b)
    (hbank : ∀ d, d ≠ b → (t.bank d).state = (s.bank d).state)
    (hx : (t.bank b).state ≠ .copying ∧ (t.bank b).state ≠ .verifying) : t.Idle := by
  intro d
  by_cases hd : d = b
  · rw [hd]
    exact hx
  · rw [hbank d hd]
    exact ⟨fun hc => hd (h.eq_of_busy hb (.inl hc)), fun hv => hd (h.eq_of_busy hb (.inr hv))⟩

/-- The staging bank is neither LIVE nor DRAINING (R144). -/
theorem State.Housed.staging_state (h : s.Housed) (hb : s.store.stagingBank = some b) :
    (s.bank b).state ≠ .live ∧ (s.bank b).state ≠ .draining := by
  cases hl : s.store.liveBank with
  | none => exact ⟨State.liveBank_eq_none.mp hl b, fun hd => h.beside b hd hl⟩
  | some l => exact State.stagingBank_state (by simp [hl]) hb

theorem State.workBank_unread (hb : s.store.workBank = some b) :
    (s.bank b).state ≠ .live ∧ (s.bank b).state ≠ .draining := by
  rcases State.workBank_state hb with h | h <;> rw [h] <;> exact ⟨nofun, nofun⟩

/-- The laws that the banks' states settle by which is LIVE and which DRAINING. -/
structure State.Stands (s : State) : Prop where
  housed : s.Housed
  drained : s.Drained

theorem State.TableLaws.stands (h : s.TableLaws) : s.Stands := ⟨h.housed, h.drained⟩

theorem State.Stands.of_banks (h : s.Stands) (hslot : ∀ i, t.slot i = s.slot i)
    (hlive : ∀ d, (t.bank d).state = .live ↔ (s.bank d).state = .live)
    (hdraining : ∀ d, (t.bank d).state = .draining ↔ (s.bank d).state = .draining) : t.Stands := by
  refine ⟨h.housed.of_states hlive hdraining fun i => hslot i ▸ .refl _, fun b hb => ?_⟩
  obtain ⟨i, hi⟩ := h.drained b ((hdraining b).mp hb)
  exact ⟨i, by rwa [hslot]⟩

theorem State.Stands.setWork (h : s.Stands) (ws : List Work) : (s.setWork ws).Stands :=
  h.of_banks (fun _ => rfl) (fun _ => Iff.rfl) fun _ => Iff.rfl

/-- A bank that is neither LIVE nor DRAINING, before and after, changes its state. -/
theorem State.Stands.of_mark (h : s.Stands) (hslot : ∀ i, t.slot i = s.slot i)
    (hbank : ∀ d, (t.bank d).state = if b = d then x else (s.bank d).state)
    (hb : (s.bank b).state ≠ .live ∧ (s.bank b).state ≠ .draining) (hlive : x ≠ .live) (hdraining : x ≠ .draining) :
    t.Stands :=
  h.of_banks hslot (State.mark_iff hbank hb.1 hlive) (State.mark_iff hbank hb.2 hdraining)

/-! ### The start of an operation (R149 to R151) -/

theorem TableStore.startOf_running {st : TableStore} {k : WorkKind} (h : st.startOf k = .running b x) :
    st.stagingBank = some b ∧ ((k = .copyLive ∧ x = .copying ∧ st.liveBank ≠ none) ∨ (k = .commit ∧ x = .verifying)) := by
  cases hb : st.stagingBank with
  | none =>
    rw [TableStore.startOf_none hb] at h
    cases h
  | some d =>
    cases k with
    | copyLive =>
      rw [TableStore.startOf_copyLive hb] at h
      split at h
      · cases h
      next hl =>
        cases h
        exact ⟨rfl, .inl ⟨rfl, rfl, hl⟩⟩
    | commit =>
      rw [TableStore.startOf_commit hb] at h
      split at h
      · cases h
      · cases h
        exact ⟨rfl, .inr ⟨rfl, rfl⟩⟩

/-- The head of a queue starts on banks that stand still; what fails at its start gives way to the next (R149). -/
theorem State.Stands.startWork {ws : List Work} (h : s.Stands) (hidle : s.Idle) (hlen : ws.length ≤ 2) :
    (State.startWork ws s).TableLaws := by
  induction ws generalizing s with
  | nil =>
    have hstands := h.setWork []
    exact ⟨hstands.housed, hstands.drained, State.Idle.workLaws (s := s.setWork []) hidle rfl⟩
  | cons w ws ih =>
    rcases State.startWork_cons w ws s with ⟨d, r, -, heq⟩ | ⟨b, x, hstart, hx, hwork, hbank⟩
    · rw [heq]
      refine ih ?_ ?_ (Nat.le_of_succ_le hlen)
      · exact h.of_banks (by simp) (by simp) (by simp)
      · exact fun d => by simpa using hidle d
    · obtain ⟨hstaging, hkind⟩ := TableStore.startOf_running hstart
      have hmark (d : BankIx) : ((State.startWork (w :: ws) s).bank d).state = if b = d then x else (s.bank d).state := by
        rw [hbank]
        split <;> rfl
      have hfree := h.housed.staging_state hstaging
      have hlive : x ≠ .live := by rcases hx with rfl | rfl <;> nofun
      have hdraining : x ≠ .draining := by rcases hx with rfl | rfl <;> nofun
      have hstands : (State.startWork (w :: ws) s).Stands := h.of_mark (by simp) hmark hfree hlive hdraining
      have hstill : (State.startWork (w :: ws) s).store.stagingBank = some b :=
        (State.stagingBank_congr (State.mark_iff hmark hfree.1 hlive) (State.mark_iff hmark hfree.2 hdraining)).trans hstaging
      have hlb : (State.startWork (w :: ws) s).store.liveBank = s.store.liveBank :=
        State.liveBank_congr (State.mark_iff hmark hfree.1 hlive)
      have honly {d : BankIx} (hd : ((State.startWork (w :: ws) s).bank d).state = .copying ∨
          ((State.startWork (w :: ws) s).bank d).state = .verifying) :
          b = d ∧ ((State.startWork (w :: ws) s).bank d).state = x := by
        rw [hmark] at hd ⊢
        split at hd
        next hbd => exact ⟨hbd, if_pos hbd⟩
        · exact absurd hd (not_or.mpr (hidle d))
      refine ⟨hstands.housed, hstands.drained, by rw [hwork]; exact hlen, fun d hd => ?_, fun d hd => ?_, fun _ hnone => ?_⟩
      · obtain ⟨rfl, hxd⟩ := honly (.inl hd)
        obtain ⟨hk, -, hl⟩ := hkind.resolve_right fun hk => by
          rw [hxd, hk.2] at hd
          cases hd
        rw [hwork, hlb]
        exact ⟨congrArg some hk, hstill, hl⟩
      · obtain ⟨rfl, hxd⟩ := honly (.inr hd)
        obtain ⟨hk, -⟩ := hkind.resolve_left fun hk => by
          rw [hxd, hk.2.1] at hd
          cases hd
        rw [hwork]
        exact ⟨congrArg some hk, hstill⟩
      · have hb := State.workBank_eq_none.mp hnone b
        rw [hmark, if_pos rfl] at hb
        exact hx.elim hb.1 hb.2

/-! ### The swap (R152) -/

theorem bankIx_other : ∀ b : BankIx, ∃ d, d ≠ b ∧ ∀ c, c ≠ b → c = d := by decide

/-- The promotion of the verified bank and the switch of every slot keep the laws (R147, R152). -/
theorem State.Housed.promoted (h : s.Housed) (hb : (s.bank b).state = .verifying) :
    (s.promote b).switchAll.Housed := by
  obtain ⟨d, hdb, honly⟩ := bankIx_other b
  obtain ⟨hpb, hpd⟩ := State.bank_promote (s := s) (by simp [hb]) hdb
  have hblive : ((s.promote b).bank b).state = .live := by rw [hpb]
  have hdstate : ((s.promote b).bank d).state ≠ .live ∧
      ((s.bank d).state = .live ∨ (s.bank d).state = .draining → ((s.promote b).bank d).state = .draining) := by
    rw [hpd]
    dsimp only
    split
    · exact ⟨nofun, fun _ => rfl⟩
    next hnot =>
      have hd : (s.bank d).state ≠ .live := fun hd =>
        hnot (State.liveBank_of_only hd fun c hc hlive => hc (h.oneLive c d hlive hd))
      exact ⟨hd, fun hor => hor.resolve_left hd⟩
  have hlb : (s.promote b).store.liveBank = some b :=
    State.liveBank_of_only hblive fun c hc => honly c hc ▸ hdstate.1
  have hslot (i : SlotIx) : (s.promote b).switchAll.slot i =
      { s.slot i with bank := switchedBank (some b) (s.slot i) } := by
    rw [State.slot_switchAll, hlb]
    have hsame : (s.promote b).slot i = s.slot i := by simp
    rw [hsame]
  obtain ⟨hslots, htags, -, -, -, hreads, -, -⟩ := h
  refine ⟨fun i => ?_, fun i j => ?_, fun c e hc he => ?_, fun c e hc he => ?_, fun c _ => ?_, fun i c hc => ?_,
    fun i hp => ?_, fun i hp hs => ?_⟩
  · rw [hslot]
    exact hslots i
  · rw [hslot, hslot]
    exact htags i j
  · have only {c : BankIx} (hc : ((s.promote b).bank c).state = .live) : c = b := by
      by_contra hne
      exact hdstate.1 (honly c hne ▸ hc)
    rw [only hc, only he]
  · have only {c : BankIx} (hc : ((s.promote b).bank c).state = .draining) : c = d := by
      refine honly c fun hcb => ?_
      rw [hcb, hblive] at hc
      cases hc
    rw [only hc, only he]
  · show (s.promote b).store.liveBank ≠ none
    rw [hlb]
    nofun
  · rw [hslot] at hc
    rcases switchedBank_cases (some b) (s.slot i) with ⟨-, hsw⟩ | ⟨-, hsw⟩ | ⟨-, -, hsw⟩ <;> simp only [hsw] at hc
    · cases hc
    · have hread := hreads i c hc
      have hcb : c ≠ b := fun hcb => by
        rw [hcb, hb] at hread
        rcases hread with h | h <;> cases h
      rw [honly c hcb] at hread ⊢
      exact .inr (hdstate.2 hread)
    · cases hc
      exact .inl hblive
  · rw [hslot] at hp ⊢
    have hunbound : (s.slot i).phase = .unbound := hp
    simp only [switchedBank, hunbound]
  · rw [hslot] at hp hs ⊢
    rcases switchedBank_cases (some b) (s.slot i) with ⟨hunbound, -⟩ | ⟨hsounding, -⟩ | ⟨-, -, hsw⟩
    · exact absurd hunbound hp
    · exact absurd hsounding hs
    · exact hsw.trans hlb.symm

theorem State.Housed.swap (h : s.Housed) (hb : (s.bank b).state = .verifying) : (s.swap b).Stands :=
  let hdrain := (h.promoted hb).drain
  ⟨hdrain.1, hdrain.2⟩

end

/-- SET_SLOT writes settings, and pending settings while the slot is SOUNDING (R7, R8). -/
theorem Slot.keeps_applySettings (x : Slot) (ps : List (Nat × Half)) : x.Keeps (x.applySettings ps) := by
  have one (y : Slot) (n : Nat) (v : Int) : y.Keeps (y.writeSetting n v) := by
    unfold Slot.writeSetting
    split
    next hp =>
      exact ⟨fun ⟨h1, h2, h3, h4, h5, h6, h7, _, h9⟩ => ⟨h1, h2, h3, h4, h5, h6, h7, .inl hp.2, h9⟩, rfl, rfl, id⟩
    · exact ⟨id, rfl, rfl, id⟩
  have all (y : Slot) (vs : List (Nat × Half)) : y.Keeps (y.writeSettings vs) := by
    unfold Slot.writeSettings
    induction vs generalizing y with
    | nil => exact .refl y
    | cons p vs ih => exact (one y _ _).trans (ih _)
  have fit (y : Slot) : y.Keeps (y.fitThreshold ps) := by
    unfold Slot.fitThreshold
    split <;> exact ⟨id, rfl, rfl, id⟩
  exact (all x ps).trans (fit _)

namespace State.TableLaws

variable {s t : State}

/-! ### Long work, request by request (R149 to R156) -/

theorem queueWork (h : s.TableLaws) (hfree : s.store.workRefusal = none) (w : Work) : (s.queueWork w).TableLaws := by
  unfold State.queueWork
  split
  next hempty => exact h.stands.startWork (h.work.idle (List.isEmpty_iff.mp hempty)) (by simp)
  next hbusy =>
    obtain ⟨hlen, hcopying, hverifying, hwork⟩ := h.work
    have hne : s.store.work ≠ [] := fun hnil => hbusy (List.isEmpty_iff.mpr hnil)
    have hroom : s.store.work.length < 2 := by
      unfold TableStore.workRefusal at hfree
      split at hfree
      · cases hfree
      · split at hfree
        · cases hfree
        next hroom => exact Nat.lt_of_not_le hroom
    have hhead : (s.store.work ++ [w]).head? = s.store.work.head? := List.head?_append_of_ne_nil _ hne
    have hstands := h.stands.setWork (s.store.work ++ [w])
    refine ⟨hstands.housed, hstands.drained, ?_, fun b hb => ?_, fun b hb => ?_, fun _ => hwork hne⟩
    · show (s.store.work ++ [w]).length ≤ 2
      rw [List.length_append]
      exact hroom
    · exact ⟨(congrArg (Option.map (·.kind)) hhead).trans (hcopying b hb).1, (hcopying b hb).2⟩
    · exact ⟨(congrArg (Option.map (·.kind)) hhead).trans (hverifying b hb).1, (hverifying b hb).2⟩

theorem advanceCopy (h : s.TableLaws) : s.advanceCopy.TableLaws := by
  obtain ⟨hslots, hwork⟩ : s.advanceCopy.slots = s.slots ∧ s.advanceCopy.store.work = s.store.work := by
    unfold State.advanceCopy
    split
    · split <;> exact ⟨rfl, rfl⟩
    · exact ⟨rfl, rfl⟩
  refine h.of_states s.advanceCopy_state hwork fun i => ?_
  have hslot : s.advanceCopy.slot i = s.slot i := congrArg (fun z : Vector Slot 8 => z[i]) hslots
  rw [hslot]
  exact .refl _

theorem abandonWork (h : s.TableLaws) : s.abandonWork.TableLaws := by
  have hadvance := h.advanceCopy
  unfold State.abandonWork
  generalize s.advanceCopy = a at hadvance
  dsimp only
  cases hb : a.store.workBank with
  | none =>
    have hidle : State.Idle (a.setWork []) := State.workBank_eq_none.mp hb
    have hstands := hadvance.stands.setWork []
    exact ⟨hstands.housed, hstands.drained, hidle.workLaws rfl⟩
  | some b =>
    have hmark (d : BankIx) : (((a.setBankState b .staged).setWork []).bank d).state =
        if b = d then .staged else (a.bank d).state := by
      refine (congrArg Bank.state (State.bank_setBankState a b d .staged)).trans ?_
      split <;> rfl
    have hstands : State.Stands ((a.setBankState b .staged).setWork []) :=
      hadvance.stands.of_mark (fun _ => rfl) hmark (State.workBank_unread hb) nofun nofun
    refine ⟨hstands.housed, hstands.drained, State.Idle.workLaws ?_ rfl⟩
    refine hadvance.work.idle_of_mark hb (fun d hd => ?_) ?_
    · rw [hmark, if_neg (Ne.symm hd)]
    · rw [hmark, if_pos rfl]
      exact ⟨nofun, nofun⟩

theorem warmRestart (h : s.TableLaws) : s.warmRestart.TableLaws := by
  have hslots := foldl (fun _ i h => h.restartSlot i) (h.abandonWork.voiceFlush true) (List.finRange 8)
  unfold State.warmRestart
  dsimp only
  generalize List.foldl State.restartSlot _ _ = u at hslots ⊢
  exact hslots.of_same rfl rfl

/-- A write makes an EMPTY bank STAGED and no other change of a bank's state (R146). -/
theorem state_writeBank (s : State) (b : BankIx) (i : Nat) (es : List TableEntry) (d : BankIx) :
    ((s.writeBank b i es).bank d).state =
      if b = d then (if (s.bank b).state = .empty then .staged else (s.bank b).state) else (s.bank d).state := by
  unfold State.writeBank
  rw [State.bank_setBank]
  split
  · simp only [Bank.writeEntries_state]
  · rfl

theorem writeBank (h : s.TableLaws) {b : BankIx} (hb : s.store.stagingBank = some b) (hw : s.store.work = [])
    (i : Nat) (es : List TableEntry) : (s.writeBank b i es).TableLaws := by
  have hidle := h.work.idle hw
  have hwork : (s.writeBank b i es).store.work = [] := hw
  have hslot (j : SlotIx) : (s.writeBank b i es).slot j = s.slot j := (s.writeBank_reads b i es).1 j
  have hmark (d : BankIx) := state_writeBank s b i es d
  generalize s.writeBank b i es = t at hwork hslot hmark ⊢
  have hfree := h.housed.staging_state hb
  have hstill {y : BankState} (hy : (s.bank b).state ≠ y) (hstaged : .staged ≠ y) :
      (if (s.bank b).state = .empty then .staged else (s.bank b).state) ≠ y := by
    split
    · exact hstaged
    · exact hy
  have hstands : t.Stands := h.stands.of_mark hslot hmark hfree (hstill hfree.1 nofun) (hstill hfree.2 nofun)
  refine ⟨hstands.housed, hstands.drained, State.Idle.workLaws (fun d => ?_) hwork⟩
  rw [hmark]
  split
  · exact ⟨hstill (hidle b).1 nofun, hstill (hidle b).2 nofun⟩
  · exact hidle d

theorem copyCompletes (h : s.TableLaws) : s.copyCompletes.TableLaws := by
  unfold State.copyCompletes
  split
  next w ws b l hw hb hl =>
    split
    next hk =>
      have hlen : ws.length ≤ 2 := by
        have hlen := h.work.1
        rw [hw, List.length_cons] at hlen
        exact Nat.le_of_succ_le hlen
      dsimp only
      have hmark (d : BankIx) : (((s.setBank b { copyPart bankEntries (s.bank l) (s.bank b) with state := .staged }).setWork
          ws).completeOk w b |>.bank d).state = if b = d then .staged else (s.bank d).state := by
        simp only [State.completeOk_reads, State.setWork_bank, State.bank_setBank]
        split <;> rfl
      refine State.Stands.startWork ?_ ?_ hlen
      · exact h.stands.of_mark (by simp) hmark (State.workBank_unread hb) nofun nofun
      · refine h.work.idle_of_mark hb (fun d hd => ?_) ?_
        · rw [hmark, if_neg (Ne.symm hd)]
        · rw [hmark, if_pos rfl]
          exact ⟨nofun, nofun⟩
    · exact h
  · exact h

theorem verificationCompletes (h : s.TableLaws) : s.verificationCompletes.TableLaws := by
  unfold State.verificationCompletes
  split
  next w ws b hw hb =>
    split
    next hk =>
      have hlen : ws.length ≤ 2 := by
        have hlen := h.work.1
        rw [hw, List.length_cons] at hlen
        exact Nat.le_of_succ_le hlen
      have hverifying : (s.bank b).state = .verifying := by
        refine (State.workBank_state hb).resolve_left fun hc => ?_
        have hkind := (h.work.2.1 b hc).1
        rw [hw] at hkind
        exact absurd (hk.symm.trans (Option.some.inj hkind)) nofun
      have hstaging := (h.work.2.2.1 b hverifying).2
      dsimp only
      split
      next r _ =>
        have hmark (d : BankIx) : (((s.setWork ws).setBankState b .staged).completeFail w (some b) r |>.bank d).state =
            if b = d then .staged else (s.bank d).state := by
          simp only [State.completeFail_reads, State.bank_setBankState, State.setWork_bank]
          split <;> rfl
        refine State.Stands.startWork ?_ ?_ hlen
        · exact h.stands.of_mark (by simp) hmark (State.workBank_unread hb) nofun nofun
        · refine h.work.idle_of_mark hb (fun d hd => ?_) ?_
          · rw [hmark, if_neg (Ne.symm hd)]
          · rw [hmark, if_pos rfl]
            exact ⟨nofun, nofun⟩
      · obtain ⟨d, hdb, honly⟩ := bankIx_other b
        have hd : (s.bank d).state ≠ .draining := by
          intro hdrain
          obtain ⟨l, hl⟩ := Option.ne_none_iff_exists'.mp (h.housed.beside d hdrain)
          have hdl : d ≠ l := fun heq => by
            have hstate := State.liveBank_state hl
            rw [← heq, hdrain] at hstate
            cases hstate
          rw [State.stagingBank_of_draining hl hdl hdrain] at hstaging
          cases hstaging
        have hswap : ((s.setWork ws).swap b).Stands := (h.stands.setWork ws).housed.swap hverifying
        obtain ⟨hlive, hother, -⟩ := State.swap_spec (s := s.setWork ws) (b := b) (d := d)
          (by rw [State.setWork_bank, hverifying]; nofun) hdb hd
        refine State.Stands.startWork (hswap.of_banks (by simp) (by simp) (by simp)) (fun c => ?_) hlen
        rw [(State.completeOk_reads _ _ _).2.2]
        by_cases hc : c = b
        · rw [hc, hlive]
          exact ⟨nofun, nofun⟩
        · rw [honly c hc, hother]
          dsimp only [State.otherState]
          split
          · split <;> exact ⟨nofun, nofun⟩
          · exact ⟨fun hcopy => hdb (h.work.eq_of_busy hb (.inl hcopy)), fun hver => hdb (h.work.eq_of_busy hb (.inr hver))⟩
    · exact h
  · exact h

/-! ### Every step -/

theorem of_answer {r : Request} (h : s.TableLaws) (k : Answer r s t) : t.TableLaws := by
  have reply {u : State} (hu : u.TableLaws) (st : Status) (pl : List Byte) : (u.reply r st pl).TableLaws :=
    hu.of_same (by simp) rfl
  cases k with
  | bind i t hzero hones hfree => exact reply (h.bind hzero hones hfree) _ _
  | unbind i => exact reply (h.unbind i) _ _
  | settings i ps st =>
    exact reply (h.modSlot (f := fun x => x.applySettings ps) ((s.slot i).keeps_applySettings ps)) _ _
  | write w b _ hstaging hidle => exact reply (h.writeBank hstaging hidle _ _) _ _
  | readTable pl => exact reply h.advanceCopy _ _
  | work k hfree => exact (reply h _ _).queueWork hfree _
  | abort w ws _ pl => exact reply (h.abandonWork.of_same (t := s.abandonWork.push _) rfl rfl) _ _
  | panic => exact reply (h.voiceFlush true) _ _
  | restart => exact reply h.warmRestart _ _
  | _ => exact h.of_same (by simp) (by simp)

theorem of_linkMoves (h : s.TableLaws) (k : LinkMoves s t) : t.TableLaws := by
  induction k with
  | refl => exact h
  | tail _ hmove ih =>
    cases hmove with
    | attach => exact ih.of_same (by simp) (by simp)
    | detach =>
      unfold State.detach
      dsimp only
      split
      · refine State.TableLaws.raise (State.TableLaws.voiceFlush ?_ false) _
        exact ih.of_same rfl rfl
      · exact ih
    | cut l => exact ih.raise _
    | _ => exact ih.of_same rfl rfl

theorem of_happens (h : s.TableLaws) (k : Happens s t) : t.TableLaws := by
  cases k with
  | powerOn =>
    obtain ⟨hslots, htags, -, -, -, hwork, hbanks, -⟩ := lawsHoldAtReset
    exact (State.tableLaws_iff.mpr ⟨hslots, htags, hbanks, hwork⟩).of_same rfl rfl
  | sense fields p i _ hroute => exact h.takePacket (State.route_bound hroute).1 p
  | served r x rest =>
    refine of_answer ?_ (carryOut_answer _ _)
    exact h.of_same rfl rfl
  | takes p rest x xs =>
    refine of_answer ?_ (carryOut_answer _ _)
    exact h.of_same rfl rfl
  | lossExpiry i => exact h.lossExpiry i
  | copyCompletes => exact h.copyCompletes
  | verificationCompletes => exact h.verificationCompletes
  | hears l xs => exact h.of_linkMoves (s.hearAll_moves l xs)
  | cut l xs => exact h.of_linkMoves (s.packetCut_moves l xs)
  | _ => exact h.of_same (by simp) (by simp)

end State.TableLaws

/-- Settles O57: a slot changes its bank by the switching rule alone, the drain is tested behind it, and a bank that
long work takes up is neither LIVE nor DRAINING. -/
theorem slotAndBankLawsKept : Obligations.SlotAndBankLawsKept := by
  unfold Obligations.SlotAndBankLawsKept
  intro s t hslots htags hbanks hwork hstep
  exact State.tableLaws_iff.mp (kept_of_happens (P := State.TableLaws) (Q := State.TableLaws)
    (fun _ _ h => h.of_same rfl rfl) (fun _ h => h) (fun _ _ h k => h.of_happens k)
    (State.tableLaws_iff.mpr ⟨hslots, htags, hbanks, hwork⟩) hstep)

end Sys2Proof.Machine

/-! What the queue holds for one voice, and the laws of the pool and the queue voice by voice (R103, R104, R106, R118,
R126, R128). -/

namespace Sys2Proof.Machine

open Sys2Proof

/-! ### The records of a voice -/

/-- A record without the values it carries, which a merge replaces (R126). -/
def VoiceRecord.bare : VoiceRecord → VoiceRecord
  | .start v g .. => .start v g 0 0 0 0 0
  | .retune v g _ => .retune v g 0
  | .level v g _ => .level v g 0
  | .stop v g k => .stop v g k
  | .allStop => .allStop

/-- The START of a voice at a generation, without its values. -/
def bareStart (v : VoiceIx) (g : Byte) : VoiceRecord := .start v g 0 0 0 0 0

@[simp] theorem VoiceRecord.bare_key (r : VoiceRecord) : r.bare.key = r.key := by cases r <;> rfl
@[simp] theorem VoiceRecord.bare_isStart (r : VoiceRecord) : r.bare.isStart = r.isStart := by cases r <;> rfl
@[simp] theorem VoiceRecord.bare_isLevel (r : VoiceRecord) : r.bare.isLevel = r.isLevel := by cases r <;> rfl
@[simp] theorem VoiceRecord.bare_isRetune (r : VoiceRecord) : r.bare.isRetune = r.isRetune := by cases r <;> rfl
@[simp] theorem VoiceRecord.bare_isUpdate (r : VoiceRecord) : r.bare.isUpdate = r.isUpdate := by cases r <;> rfl
@[simp] theorem VoiceRecord.bare_isTailStop (r : VoiceRecord) : r.bare.isTailStop = r.isTailStop := by cases r <;> rfl
@[simp] theorem VoiceRecord.bare_isFor (v : VoiceIx) (g : Byte) (r : VoiceRecord) : r.bare.isFor v g = r.isFor v g := by
  simp [VoiceRecord.isFor]

/-- The record names voice v. -/
def VoiceRecord.names (v : VoiceIx) (r : VoiceRecord) : Bool := r.key.map (·.1) == some v

@[simp] theorem VoiceRecord.bare_names (v : VoiceIx) (r : VoiceRecord) : r.bare.names v = r.names v := by
  simp [VoiceRecord.names]

theorem VoiceRecord.names_iff {v : VoiceIx} {r : VoiceRecord} : r.names v = true ↔ ∃ g, r.key = some (v, g) := by
  simp [VoiceRecord.names]

/-- What the queue holds for voice v, in order and without the values. -/
def recordsOf (v : VoiceIx) (q : List VoiceRecord) : List VoiceRecord := (q.map VoiceRecord.bare).filter (·.names v)

section
variable {v : VoiceIx} {q : List VoiceRecord} {p : VoiceRecord → Bool}

@[simp] theorem recordsOf_nil (v : VoiceIx) : recordsOf v [] = [] := rfl

theorem recordsOf_append (v : VoiceIx) (q q' : List VoiceRecord) :
    recordsOf v (q ++ q') = recordsOf v q ++ recordsOf v q' := by
  simp [recordsOf]

theorem recordsOf_cons (v : VoiceIx) (r : VoiceRecord) (q : List VoiceRecord) :
    recordsOf v (r :: q) = if r.names v = true then r.bare :: recordsOf v q else recordsOf v q := by
  simp [recordsOf, List.filter_cons]

theorem mem_recordsOf {r : VoiceRecord} : r ∈ recordsOf v q ↔ ∃ x ∈ q, x.bare = r ∧ x.names v = true := by
  unfold recordsOf
  rw [List.mem_filter, List.mem_map]
  constructor
  · rintro ⟨⟨x, hx, rfl⟩, hv⟩
    exact ⟨x, hx, rfl, by simpa using hv⟩
  · rintro ⟨x, hx, rfl, hv⟩
    exact ⟨⟨x, hx, rfl⟩, by simpa using hv⟩

theorem bare_mem_recordsOf {x : VoiceRecord} (hx : x ∈ q) {g : Byte} (hkey : x.key = some (v, g)) :
    x.bare ∈ recordsOf v q := mem_recordsOf.mpr ⟨x, hx, rfl, VoiceRecord.names_iff.mpr ⟨g, hkey⟩⟩

/-- A removal that looks at no value. -/
theorem recordsOf_filter (hp : ∀ r, p r.bare = p r) : recordsOf v (q.filter p) = (recordsOf v q).filter p := by
  unfold recordsOf
  have hmap : (q.filter p).map VoiceRecord.bare = (q.map VoiceRecord.bare).filter p := by
    rw [List.filter_map]
    congr 2
    funext r
    exact (hp r).symm
  rw [hmap, List.filter_filter, List.filter_filter]
  congr 1
  funext r
  exact Bool.and_comm _ _

theorem recordsOf_countP (hp : ∀ r, p r.bare = p r) :
    q.countP (fun r => p r && r.key.map (·.1) == some v) = (recordsOf v q).countP p := by
  unfold recordsOf
  rw [List.countP_filter, List.countP_map]
  congr 1
  funext r
  show _ = (p r.bare && r.bare.names v)
  rw [hp, VoiceRecord.bare_names]
  rfl

/-- A record that names a voice is one of the four kinds. -/
theorem VoiceRecord.bare_of_names {r : VoiceRecord} (h : r ∈ recordsOf v q) :
    ∃ g, r = bareStart v g ∨ r = .retune v g 0 ∨ r = .level v g 0 ∨ ∃ k, r = .stop v g k := by
  obtain ⟨x, -, rfl, hv⟩ := mem_recordsOf.mp h
  obtain ⟨g, hkey⟩ := VoiceRecord.names_iff.mp hv
  refine ⟨g, ?_⟩
  cases x <;> cases hkey
  · exact .inl rfl
  · exact .inr (.inl rfl)
  · exact .inr (.inr (.inl rfl))
  · exact .inr (.inr (.inr ⟨_, rfl⟩))

end

/-! ### The law of one voice -/

/-- What the queue may hold for a voice, by its dn state and its state (R118, R126, R128); `ended` says that an
ALL_STOP is queued or owed. -/
inductive Voice.Fits (x : Voice) (v : VoiceIx) (ended : Prop) (q : List VoiceRecord) : Prop where
  | idle (hdn : x.dn = .none) (hq : q = [])
  | cut (hdn : x.dn = .none) (hended : ¬ended) (g : Byte) (hq : q = [.stop v g .cut])
  | pending (hdn : x.dn = .pending) (hp : x.phase = .sounding) (hq : q = [bareStart v x.dnGeneration])
  | reused (hdn : x.dn = .pending) (hp : x.phase = .sounding) (hended : ¬ended) (g : Byte)
      (hq : q = [.stop v g .cut, bareStart v x.dnGeneration])
  | sounds (hdn : x.dn = .opened) (hp : x.phase = .sounding) (hended : ¬ended) (hnodup : q.Nodup)
      (hq : ∀ r ∈ q, r = .level v x.generation 0 ∨ r = .retune v x.generation 0)
  | rests (hdn : x.dn = .opened) (hp : x.phase ≠ .sounding) (hended : ¬ended) (hq : q = [])
  | stopped (hdn : x.dn = .opened) (hp : x.phase ≠ .sounding) (hended : ¬ended) (k : StopKind) (hk : k ≠ .cut)
      (hq : q = [.stop v x.dnGeneration k])
  | tail (hdn : x.dn = .tail) (hended : ¬ended) (hq : q = [])

/-- An ALL_STOP is queued or owed (R128). -/
def State.Ended (s : State) : Prop := s.port.allStopOwed = true ∨ VoiceRecord.allStop ∈ s.port.queue

/-- The laws of pool and queue, with the layer lists given apart from the slots: a release goes through a list entry by
entry (R103, R104, R106, R118, R126, R128, R140). -/
structure State.NoteLaws (L : SlotIx → List (Option VoiceIx)) (s : State) : Prop where
  pool : s.PoolLaws
  layers : ∀ (i : SlotIx) (k : Fin 4) (v : VoiceIx), (L i)[k.val]? = some (some v) ↔
    ((s.voice v).owner.any fun o => o.slot == i && o.layer == k) = true
  fits : ∀ v : VoiceIx, (s.voice v).Fits v s.Ended (recordsOf v s.port.queue)
  allStop : s.AllStopLaw
  bound : s.port.queue.length ≤ 64

theorem notesInOrder_map_bare (q : List VoiceRecord) : notesInOrder (q.map VoiceRecord.bare) = notesInOrder q := by
  have hone (r : VoiceRecord) : notesInOrder [r.bare] = notesInOrder [r] := by cases r <;> rfl
  have htwo (r r' : VoiceRecord) : notesInOrder [r.bare, r'.bare] = notesInOrder [r, r'] := by
    cases r with
    | stop v g k => cases k <;> cases r' <;> rfl
    | _ => cases r' <;> rfl
  have hmany (r r' r'' : VoiceRecord) (q : List VoiceRecord) : notesInOrder (r :: r' :: r'' :: q) = false := by
    cases r with
    | stop v g k => cases k <;> cases r' <;> rfl
    | _ => rfl
  match q with
  | [] => rfl
  | [r] => exact hone r
  | [r, r'] => exact htwo r r'
  | r :: r' :: r'' :: q => exact (hmany _ _ _ _).trans (hmany r r' r'' q).symm

/-- The START and STOP records that the queue holds for a voice (R128), without their values. -/
theorem State.noteRecords_bare (s : State) (v : VoiceIx) :
    notesInOrder (s.noteRecords v) = notesInOrder ((recordsOf v s.port.queue).filter fun r => !r.isUpdate) := by
  rw [← notesInOrder_map_bare]
  congr 1
  unfold State.noteRecords recordsOf
  rw [List.filter_filter, List.filter_map]
  congr 2
  funext r
  simp only [Function.comp, VoiceRecord.bare_isUpdate, VoiceRecord.bare_names]
  rfl

theorem notesInOrder_cases {q : List VoiceRecord} (h : notesInOrder q = true) :
    q = [] ∨ (∃ r, q = [r]) ∨ ∃ v g r, q = [.stop v g .cut, r] ∧ r.isStart = true := by
  unfold notesInOrder at h
  split at h
  · exact .inl rfl
  · exact .inr (.inl ⟨_, rfl⟩)
  · exact .inr (.inl ⟨_, rfl⟩)
  · exact .inr (.inr ⟨_, _, _, rfl, rfl⟩)
  · cases h

end Sys2Proof.Machine

/-! The laws of the pool and the queue are what they say of each voice (R106, R118, R126, R128). -/

namespace Sys2Proof.Machine

open Sys2Proof

section
variable {s : State} {v : VoiceIx}

/-! ### From the laws to one voice -/

/-- The laws of the queue, as far as they speak of the records of one voice. -/
structure State.VoiceFacts (s : State) (v : VoiceIx) : Prop where
  start : ∀ g, bareStart v g ∈ recordsOf v s.port.queue →
    (s.voice v).phase = .sounding ∧ (s.voice v).dn = .pending ∧ (s.voice v).dnGeneration = g
  stop : ∀ g k, k ≠ .cut → .stop v g k ∈ recordsOf v s.port.queue →
    (s.voice v).phase ≠ .sounding ∧ (s.voice v).dn = .opened ∧ (s.voice v).dnGeneration = g
  cut : ∀ g, .stop v g .cut ∈ recordsOf v s.port.queue → (s.voice v).dn = .none ∨ (s.voice v).dn = .pending
  update : ∀ r ∈ recordsOf v s.port.queue, r.isUpdate = true →
    (s.voice v).phase = .sounding ∧ (s.voice v).dn = .opened ∧
      (r = .level v (s.voice v).generation 0 ∨ r = .retune v (s.voice v).generation 0)
  single : (recordsOf v s.port.queue).countP VoiceRecord.isLevel ≤ 1 ∧
    (recordsOf v s.port.queue).countP VoiceRecord.isRetune ≤ 1
  queued : (s.voice v).dn = .pending → bareStart v (s.voice v).dnGeneration ∈ recordsOf v s.port.queue
  order : notesInOrder ((recordsOf v s.port.queue).filter fun r => !r.isUpdate) = true
  ended : s.Ended → ((s.voice v).dn = .none ∨ (s.voice v).dn = .pending) ∧
    ∀ r ∈ recordsOf v s.port.queue, r.isStart = true

theorem State.voiceFacts (hstarts : s.StartsPending) (hstops : s.StopsOpen) (hqueue : s.QueueLaws) (v : VoiceIx) :
    s.VoiceFacts v := by
  obtain ⟨hnotes, hupdates, hpending, -, hends⟩ := hqueue
  refine ⟨fun g hr => ?_, fun g k hk hr => ?_, fun g hr => ?_, fun r hr hup => ?_, ⟨?_, ?_⟩, fun hdn => ?_, ?_,
    fun he => ⟨(hends he).1 v, fun r hr => ?_⟩⟩
  · obtain ⟨x, hx, hbare, -⟩ := mem_recordsOf.mp hr
    have hkey : x.key = some (v, g) := by rw [← x.bare_key, hbare]; rfl
    exact hstarts.1 x hx (by rw [← x.bare_isStart, hbare]; rfl) v g hkey
  · obtain ⟨x, hx, hbare, -⟩ := mem_recordsOf.mp hr
    have hkey : x.key = some (v, g) := by rw [← x.bare_key, hbare]; rfl
    refine hstops.1 x hx ?_ v g hkey
    rw [← x.bare_isTailStop, hbare]
    cases k with
    | cut => exact absurd rfl hk
    | _ => rfl
  · obtain ⟨x, hx, hbare, -⟩ := mem_recordsOf.mp hr
    refine (hnotes v).2 g ?_
    cases x <;> cases hbare
    exact hx
  · obtain ⟨x, hx, rfl, hv⟩ := mem_recordsOf.mp hr
    obtain ⟨g, hkey⟩ := VoiceRecord.names_iff.mp hv
    rw [VoiceRecord.bare_isUpdate] at hup
    obtain ⟨hp, rfl, hdn⟩ := hupdates.1 x hx hup v g hkey
    refine ⟨hp, hdn, ?_⟩
    cases x <;> cases hup <;> cases hkey
    · exact .inr rfl
    · exact .inl rfl
  · rw [← recordsOf_countP VoiceRecord.bare_isLevel]
    exact (hupdates.2 v).1
  · rw [← recordsOf_countP VoiceRecord.bare_isRetune]
    exact (hupdates.2 v).2
  · obtain ⟨x, hx, hstart⟩ := hpending v hdn
    rw [Bool.and_eq_true] at hstart
    obtain ⟨hkind, hfor⟩ := hstart
    have hkey : x.key = some (v, (s.voice v).dnGeneration) := eq_of_beq hfor
    have hmem := bare_mem_recordsOf hx hkey
    cases x <;> cases hkind
    cases hkey
    exact hmem
  · rw [← s.noteRecords_bare]
    exact (hnotes v).1
  · obtain ⟨x, hx, rfl, hv⟩ := mem_recordsOf.mp hr
    rcases (hends he).2 x hx with rfl | hstart
    · cases hv
    · rwa [VoiceRecord.bare_isStart]

theorem filter_notes_eq_self {q : List VoiceRecord} (h : ∀ r ∈ q, r.isUpdate = false) :
    (q.filter fun r => !r.isUpdate) = q := List.filter_eq_self.mpr fun r hr => by simp [h r hr]

/-- What is queued for a voice with nothing downstream: nothing, or the CUT of a former note (R128). -/
theorem State.VoiceFacts.fits_of_none (h : s.VoiceFacts v) (hdn : (s.voice v).dn = .none) :
    (s.voice v).Fits v s.Ended (recordsOf v s.port.queue) := by
  have hall : ∀ r ∈ recordsOf v s.port.queue, ∃ g, r = .stop v g .cut := by
    intro r hr
    obtain ⟨g, rfl | rfl | rfl | ⟨k, rfl⟩⟩ := VoiceRecord.bare_of_names hr
    · exact absurd (hdn.symm.trans (h.start g hr).2.1) nofun
    · exact absurd (hdn.symm.trans (h.update _ hr rfl).2.1) nofun
    · exact absurd (hdn.symm.trans (h.update _ hr rfl).2.1) nofun
    · by_cases hk : k = .cut
      · exact ⟨g, by rw [hk]⟩
      · exact absurd (hdn.symm.trans (h.stop g k hk hr).2.1) nofun
  have horder := h.order
  have hended := h.ended
  generalize recordsOf v s.port.queue = q at *
  rw [filter_notes_eq_self fun r hr => by obtain ⟨g, rfl⟩ := hall r hr; rfl] at horder
  rcases notesInOrder_cases horder with rfl | ⟨r, rfl⟩ | ⟨w, g, r, rfl, hr⟩
  · exact .idle hdn rfl
  · obtain ⟨g, rfl⟩ := hall r List.mem_cons_self
    exact .cut hdn (fun he => absurd ((hended he).2 _ List.mem_cons_self) nofun) g rfl
  · obtain ⟨g', rfl⟩ := hall r (by simp)
    cases hr

/-- What is queued for a voice whose note is PENDING: its START, and the CUT of a former note ahead of it (R128). -/
theorem State.VoiceFacts.fits_of_pending (h : s.VoiceFacts v) (hdn : (s.voice v).dn = .pending) :
    (s.voice v).Fits v s.Ended (recordsOf v s.port.queue) := by
  have hall : ∀ r ∈ recordsOf v s.port.queue, r = bareStart v (s.voice v).dnGeneration ∨ ∃ g, r = .stop v g .cut := by
    intro r hr
    obtain ⟨g, rfl | rfl | rfl | ⟨k, rfl⟩⟩ := VoiceRecord.bare_of_names hr
    · exact .inl (by rw [(h.start g hr).2.2])
    · exact absurd (hdn.symm.trans (h.update _ hr rfl).2.1) nofun
    · exact absurd (hdn.symm.trans (h.update _ hr rfl).2.1) nofun
    · by_cases hk : k = .cut
      · exact .inr ⟨g, by rw [hk]⟩
      · exact absurd (hdn.symm.trans (h.stop g k hk hr).2.1) nofun
  have hstart := h.queued hdn
  have hp := (h.start _ hstart).1
  have horder := h.order
  have hended := h.ended
  generalize recordsOf v s.port.queue = q at *
  rw [filter_notes_eq_self fun r hr => by rcases hall r hr with rfl | ⟨g, rfl⟩ <;> rfl] at horder
  rcases notesInOrder_cases horder with rfl | ⟨r, rfl⟩ | ⟨w, g, r, rfl, hr⟩
  · cases hstart
  · rw [List.mem_singleton] at hstart
    exact .pending hdn hp (by rw [hstart])
  · have hfirst := hall (.stop w g .cut) List.mem_cons_self
    rcases hall r (by simp) with rfl | ⟨g', rfl⟩
    · refine .reused hdn hp (fun he => absurd ((hended he).2 _ List.mem_cons_self) nofun) g ?_
      rcases hfirst with hfirst | ⟨g', hfirst⟩ <;> cases hfirst
      rfl
    · cases hr

/-- What is queued for a voice whose note the rack holds: its updates while it is SOUNDING, its STOP after (R128). -/
theorem State.VoiceFacts.fits_of_opened (h : s.VoiceFacts v) (hdn : (s.voice v).dn = .opened) :
    (s.voice v).Fits v s.Ended (recordsOf v s.port.queue) := by
  have hended : ¬s.Ended := fun he => by
    rcases (h.ended he).1 with hno | hno <;> rw [hdn] at hno <;> cases hno
  have hcut (g : Byte) (hr : .stop v g .cut ∈ recordsOf v s.port.queue) : False := by
    rcases h.cut g hr with hno | hno <;> rw [hdn] at hno <;> cases hno
  by_cases hp : (s.voice v).phase = .sounding
  · have hall : ∀ r ∈ recordsOf v s.port.queue,
        r = .level v (s.voice v).generation 0 ∨ r = .retune v (s.voice v).generation 0 := by
      intro r hr
      obtain ⟨g, rfl | rfl | rfl | ⟨k, rfl⟩⟩ := VoiceRecord.bare_of_names hr
      · exact absurd (hdn.symm.trans (h.start g hr).2.1) nofun
      · exact (h.update _ hr rfl).2.2
      · exact (h.update _ hr rfl).2.2
      · by_cases hk : k = .cut
        · exact absurd (hk ▸ hr) (hcut g)
        · exact absurd hp (h.stop g k hk hr).1
    obtain ⟨hlevel, hretune⟩ := h.single
    refine .sounds hdn hp hended (List.nodup_iff_count_le_one.mpr fun r => ?_) hall
    by_cases hr : r ∈ recordsOf v s.port.queue
    · have hcount {p : VoiceRecord → Bool} (hpr : p r = true) :
          (recordsOf v s.port.queue).count r ≤ (recordsOf v s.port.queue).countP p := by
        rw [List.count]
        refine List.countP_mono_left fun x _ hx => ?_
        rw [eq_of_beq hx]
        exact hpr
      rcases hall r hr with rfl | rfl
      · exact (hcount rfl).trans hlevel
      · exact (hcount rfl).trans hretune
    · rw [List.count_eq_zero.mpr hr]
      exact Nat.zero_le _
  · have hall : ∀ r ∈ recordsOf v s.port.queue, ∃ k, k ≠ .cut ∧ r = .stop v (s.voice v).dnGeneration k := by
      intro r hr
      obtain ⟨g, rfl | rfl | rfl | ⟨k, rfl⟩⟩ := VoiceRecord.bare_of_names hr
      · exact absurd (h.start g hr).1 hp
      · exact absurd (h.update _ hr rfl).1 hp
      · exact absurd (h.update _ hr rfl).1 hp
      · have hk : k ≠ .cut := fun hk => hcut g (hk ▸ hr)
        exact ⟨k, hk, by rw [(h.stop g k hk hr).2.2]⟩
    have horder := h.order
    generalize recordsOf v s.port.queue = q at *
    rw [filter_notes_eq_self fun r hr => by obtain ⟨k, -, rfl⟩ := hall r hr; rfl] at horder
    rcases notesInOrder_cases horder with rfl | ⟨r, rfl⟩ | ⟨w, g, r, rfl, hr⟩
    · exact .rests hdn hp hended rfl
    · obtain ⟨k, hk, rfl⟩ := hall r List.mem_cons_self
      exact .stopped hdn hp hended k hk rfl
    · obtain ⟨k, -, rfl⟩ := hall r (by simp)
      cases hr

/-- Nothing is queued for a voice whose tail the rack holds (R128). -/
theorem State.VoiceFacts.fits_of_tail (h : s.VoiceFacts v) (hdn : (s.voice v).dn = .tail) :
    (s.voice v).Fits v s.Ended (recordsOf v s.port.queue) := by
  have hended : ¬s.Ended := fun he => by
    rcases (h.ended he).1 with hno | hno <;> rw [hdn] at hno <;> cases hno
  refine .tail hdn hended (List.eq_nil_iff_forall_not_mem.mpr fun r hr => ?_)
  obtain ⟨g, rfl | rfl | rfl | ⟨k, rfl⟩⟩ := VoiceRecord.bare_of_names hr
  · exact absurd (hdn.symm.trans (h.start g hr).2.1) nofun
  · exact absurd (hdn.symm.trans (h.update _ hr rfl).2.1) nofun
  · exact absurd (hdn.symm.trans (h.update _ hr rfl).2.1) nofun
  · by_cases hk : k = .cut
    · rcases h.cut g (hk ▸ hr) with hno | hno <;> rw [hdn] at hno <;> cases hno
    · exact absurd (hdn.symm.trans (h.stop g k hk hr).2.1) nofun

theorem State.VoiceFacts.fits (h : s.VoiceFacts v) : (s.voice v).Fits v s.Ended (recordsOf v s.port.queue) := by
  cases hdn : (s.voice v).dn with
  | none => exact h.fits_of_none hdn
  | pending => exact h.fits_of_pending hdn
  | opened => exact h.fits_of_opened hdn
  | tail => exact h.fits_of_tail hdn

theorem State.noteLaws_of_laws (hpool : s.PoolLaws) (hlayers : s.LayersAgree) (hstarts : s.StartsPending)
    (hstops : s.StopsOpen) (hbound : s.port.queue.length ≤ 64) (hqueue : s.QueueLaws) :
    s.NoteLaws fun i => (s.slot i).layers :=
  ⟨hpool, hlayers, fun v => (s.voiceFacts hstarts hstops hqueue v).fits, hqueue.2.2.2.1, hbound⟩

/-! ### From one voice to the laws -/

/-- What a queue holds for a voice, read off from the law of the voice. -/
theorem Voice.Fits.facts {x : Voice} {e : Prop} {q : List VoiceRecord} (h : x.Fits v e q) :
    (∀ r ∈ q, r.isStart = true → x.phase = .sounding ∧ x.dn = .pending ∧ r = bareStart v x.dnGeneration) ∧
      (∀ r ∈ q, r.isTailStop = true → x.phase ≠ .sounding ∧ x.dn = .opened ∧ ∃ k, r = .stop v x.dnGeneration k) ∧
      (∀ g, .stop v g .cut ∈ q → x.dn = .none ∨ x.dn = .pending) ∧
      (∀ r ∈ q, r.isUpdate = true → x.phase = .sounding ∧ x.dn = .opened ∧
        (r = .level v x.generation 0 ∨ r = .retune v x.generation 0)) := by
  rcases h with ⟨hdn, rfl⟩ | ⟨hdn, he, g, rfl⟩ | ⟨hdn, hp, rfl⟩ | ⟨hdn, hp, he, g, rfl⟩ | ⟨hdn, hp, he, hnodup, hq⟩ |
    ⟨hdn, hp, he, rfl⟩ | ⟨hdn, hp, he, k, hk, rfl⟩ | ⟨hdn, he, rfl⟩
  case sounds =>
    refine ⟨fun r hr hs => ?_, fun r hr hs => ?_, fun g hg => ?_, fun r hr _ => ⟨hp, hdn, hq r hr⟩⟩
    · rcases hq r hr with rfl | rfl <;> cases hs
    · rcases hq r hr with rfl | rfl <;> cases hs
    · rcases hq _ hg with h | h <;> cases h
  case stopped =>
    refine ⟨by simp [VoiceRecord.isStart], by simp [hp, hdn], fun g hg => ?_,
      by simp [VoiceRecord.isUpdate, VoiceRecord.isLevel, VoiceRecord.isRetune]⟩
    cases List.mem_singleton.mp hg
    exact absurd rfl hk
  all_goals
    simp_all [bareStart, VoiceRecord.isStart, VoiceRecord.isTailStop, VoiceRecord.isUpdate, VoiceRecord.isLevel,
      VoiceRecord.isRetune]

/-- A voice has at most one START, one tail STOP, one LEVEL and one RETUNE queued, in the order of R128. -/
theorem Voice.Fits.counts {x : Voice} {e : Prop} {q : List VoiceRecord} (h : x.Fits v e q) :
    q.countP VoiceRecord.isStart ≤ 1 ∧ q.countP VoiceRecord.isTailStop ≤ 1 ∧ q.countP VoiceRecord.isLevel ≤ 1 ∧
      q.countP VoiceRecord.isRetune ≤ 1 ∧ notesInOrder (q.filter fun r => !r.isUpdate) = true := by
  rcases h with ⟨-, rfl⟩ | ⟨-, -, g, rfl⟩ | ⟨-, -, rfl⟩ | ⟨-, -, -, g, rfl⟩ | ⟨-, -, -, hnodup, hq⟩ | ⟨-, -, -, rfl⟩ |
    ⟨-, -, -, k, hk, rfl⟩ | ⟨-, -, rfl⟩
  case sounds =>
    have hone {p : VoiceRecord → Bool} {r : VoiceRecord} (hp : ∀ y ∈ q, p y = true → y = r) : q.countP p ≤ 1 := by
      refine le_trans ?_ (List.nodup_iff_count_le_one.mp hnodup r)
      rw [List.count]
      exact List.countP_mono_left fun y hy hpy => beq_iff_eq.mpr (hp y hy hpy)
    have hnone {p : VoiceRecord → Bool} (hl : p (.level v x.generation 0) = false)
        (hr : p (.retune v x.generation 0) = false) : ∀ y ∈ q, p y = false := fun y hy => by
      rcases hq y hy with rfl | rfl
      · exact hl
      · exact hr
    refine ⟨?_, ?_, hone (r := .level v x.generation 0) fun y hy hp => ?_,
      hone (r := .retune v x.generation 0) fun y hy hp => ?_, ?_⟩
    · rw [List.countP_eq_zero.mpr fun y hy => by simp [hnone (p := VoiceRecord.isStart) rfl rfl y hy]]
      exact Nat.zero_le 1
    · rw [List.countP_eq_zero.mpr fun y hy => by simp [hnone (p := VoiceRecord.isTailStop) rfl rfl y hy]]
      exact Nat.zero_le 1
    · rcases hq y hy with rfl | rfl
      · rfl
      · cases hp
    · rcases hq y hy with rfl | rfl
      · cases hp
      · rfl
    · rw [List.filter_eq_nil_iff.mpr fun y hy => by
        simp [hnone (p := fun r => !r.isUpdate) rfl rfl y hy]]
      rfl
  case stopped => cases k <;> simp [VoiceRecord.isStart, VoiceRecord.isTailStop, VoiceRecord.isLevel, VoiceRecord.isRetune,
    VoiceRecord.isUpdate, notesInOrder]
  all_goals
    simp [bareStart, VoiceRecord.isStart, VoiceRecord.isTailStop, VoiceRecord.isUpdate, VoiceRecord.isLevel,
      VoiceRecord.isRetune, notesInOrder]

/-- While an ALL_STOP is queued or owed nothing but STARTs is queued for a voice (R128). -/
theorem Voice.Fits.of_ended {x : Voice} {e : Prop} {q : List VoiceRecord} (h : x.Fits v e q) (he : e) :
    (x.dn = .none ∧ q = []) ∨ (x.dn = .pending ∧ q = [bareStart v x.dnGeneration]) := by
  rcases h with ⟨hdn, hq⟩ | ⟨-, hn, -⟩ | ⟨hdn, -, hq⟩ | ⟨-, -, hn, -⟩ | ⟨-, -, hn, -⟩ | ⟨-, -, hn, -⟩ | ⟨-, -, hn, -⟩ |
    ⟨-, hn, -⟩
  · exact .inl ⟨hdn, hq⟩
  · exact absurd he hn
  · exact .inr ⟨hdn, hq⟩
  all_goals exact absurd he hn

/-- A voice whose note is PENDING has its START queued (R106). -/
theorem Voice.Fits.of_pending {x : Voice} {e : Prop} {q : List VoiceRecord} (h : x.Fits v e q) (hdn : x.dn = .pending) :
    bareStart v x.dnGeneration ∈ q := by
  rcases h with ⟨hno, -⟩ | ⟨hno, -⟩ | ⟨-, -, rfl⟩ | ⟨-, -, -, g, rfl⟩ | ⟨hno, -⟩ | ⟨hno, -⟩ | ⟨hno, -⟩ | ⟨hno, -⟩
  case pending => exact List.mem_cons_self
  case reused => simp
  all_goals exact absurd (hdn.symm.trans hno) nofun

namespace State.NoteLaws

variable {L : SlotIx → List (Option VoiceIx)}

theorem startsPending (h : s.NoteLaws L) : s.StartsPending := by
  refine ⟨fun r hr hs v g hkey => ?_, fun v => ?_⟩
  · obtain ⟨hp, hdn, heq⟩ := (h.fits v).facts.1 _ (bare_mem_recordsOf hr hkey) (by simpa using hs)
    rw [← r.bare_key, heq] at hkey
    cases hkey
    exact ⟨hp, hdn, rfl⟩
  · rw [recordsOf_countP VoiceRecord.bare_isStart]
    exact (h.fits v).counts.1

theorem stopsOpen (h : s.NoteLaws L) : s.StopsOpen := by
  refine ⟨fun r hr hs v g hkey => ?_, fun v => ?_⟩
  · obtain ⟨hp, hdn, k, heq⟩ := (h.fits v).facts.2.1 _ (bare_mem_recordsOf hr hkey) (by simpa using hs)
    rw [← r.bare_key, heq] at hkey
    cases hkey
    exact ⟨hp, hdn, rfl⟩
  · rw [recordsOf_countP VoiceRecord.bare_isTailStop]
    exact (h.fits v).counts.2.1

theorem notesInOrder (h : s.NoteLaws L) : s.NotesInOrder := by
  refine fun v => ⟨?_, fun g hg => ?_⟩
  · rw [s.noteRecords_bare]
    exact (h.fits v).counts.2.2.2.2
  · exact (h.fits v).facts.2.2.1 g (bare_mem_recordsOf (x := .stop v g .cut) hg rfl)

theorem updatesSounding (h : s.NoteLaws L) : s.UpdatesSounding := by
  refine ⟨fun r hr hs v g hkey => ?_, fun v => ⟨?_, ?_⟩⟩
  · obtain ⟨hp, hdn, heq⟩ := (h.fits v).facts.2.2.2 _ (bare_mem_recordsOf hr hkey) (by simpa using hs)
    rw [← r.bare_key] at hkey
    rcases heq with heq | heq <;> rw [heq] at hkey <;> cases hkey <;> exact ⟨hp, rfl, hdn⟩
  · rw [recordsOf_countP VoiceRecord.bare_isLevel]
    exact (h.fits v).counts.2.2.1
  · rw [recordsOf_countP VoiceRecord.bare_isRetune]
    exact (h.fits v).counts.2.2.2.1

theorem pendingQueued (h : s.NoteLaws L) : s.PendingQueued := by
  intro v hdn
  obtain ⟨x, hx, hbare, -⟩ := mem_recordsOf.mp ((h.fits v).of_pending hdn)
  refine ⟨x, hx, ?_⟩
  rw [← x.bare_isStart, ← x.bare_isFor, hbare]
  simp [bareStart, VoiceRecord.isStart, VoiceRecord.isFor, VoiceRecord.key]

theorem allStopEnds (h : s.NoteLaws L) : s.AllStopEnds := by
  intro he
  refine ⟨fun v => ((h.fits v).of_ended he).imp And.left And.left, fun r hr => ?_⟩
  cases hkey : r.key with
  | none =>
    cases r <;> cases hkey
    exact .inl rfl
  | some vg =>
    refine .inr ?_
    have hmem := bare_mem_recordsOf hr hkey
    rw [← r.bare_isStart]
    rcases (h.fits vg.1).of_ended he with ⟨-, hq⟩ | ⟨-, hq⟩ <;> rw [hq] at hmem
    · cases hmem
    · rw [List.mem_singleton.mp hmem]
      rfl

/-- The laws of the pool and the queue, as O58 states them. -/
theorem laws (h : s.NoteLaws fun i => (s.slot i).layers) :
    s.PoolLaws ∧ s.LayersAgree ∧ s.StartsPending ∧ s.StopsOpen ∧ s.QueueLaws :=
  ⟨h.pool, h.layers, h.startsPending, h.stopsOpen, h.notesInOrder, h.updatesSounding, h.pendingQueued, h.allStop,
    h.allStopEnds⟩

end State.NoteLaws

end

end Sys2Proof.Machine

/-! How the law of a voice and its records survives: removals, evictions and appends (R125 to R129). -/

namespace Sys2Proof.Machine

open Sys2Proof

/-! ### A voice that stands as it did -/

/-- Two voice records that differ in the values last queued and the refreshes owed alone. -/
structure Voice.Alike (x y : Voice) : Prop where
  phase : y.phase = x.phase
  owner : y.owner = x.owner
  generation : y.generation = x.generation
  dn : y.dn = x.dn
  dnGeneration : y.dnGeneration = x.dnGeneration
  releaseTimer : y.releaseTimer = x.releaseTimer

theorem Voice.Alike.refl (x : Voice) : x.Alike x := ⟨rfl, rfl, rfl, rfl, rfl, rfl⟩

theorem Voice.Alike.trans {x y z : Voice} (h : x.Alike y) (k : y.Alike z) : x.Alike z :=
  ⟨k.phase.trans h.phase, k.owner.trans h.owner, k.generation.trans h.generation, k.dn.trans h.dn,
    k.dnGeneration.trans h.dnGeneration, k.releaseTimer.trans h.releaseTimer⟩

theorem Voice.OwesAlike.alike {x y : Voice} (h : x.OwesAlike y) : y.Alike x := by
  obtain ⟨p, l, rfl⟩ := h
  exact ⟨rfl, rfl, rfl, rfl, rfl, rfl⟩

theorem Voice.Alike.ok {x y : Voice} (h : x.Alike y) (hok : x.Ok) : y.Ok := by
  rw [Voice.Ok, h.phase, h.owner, h.generation, h.dn, h.dnGeneration, h.releaseTimer]
  exact hok

/-- Records of which at most updates have left. -/
structure Thinned (q q' : List VoiceRecord) : Prop where
  sublist : q'.Sublist q
  notes : (q'.filter fun r => !r.isUpdate) = q.filter fun r => !r.isUpdate

theorem Thinned.refl (q : List VoiceRecord) : Thinned q q := ⟨.refl q, rfl⟩

theorem Thinned.trans {q q' q'' : List VoiceRecord} (h : Thinned q q') (k : Thinned q' q'') : Thinned q q'' :=
  ⟨k.sublist.trans h.sublist, k.notes.trans h.notes⟩

theorem Thinned.eq_of_notes {q q' : List VoiceRecord} (h : Thinned q q') (hq : ∀ r ∈ q, r.isUpdate = false) : q' = q := by
  have hq' : ∀ r ∈ q', r.isUpdate = false := fun r hr => hq r (h.sublist.subset hr)
  rw [← filter_notes_eq_self hq', ← filter_notes_eq_self hq]
  exact h.notes

theorem Voice.Fits.of_alike {x y : Voice} {v : VoiceIx} {e e' : Prop} {q q' : List VoiceRecord} (h : x.Fits v e q)
    (ha : x.Alike y) (hq : Thinned q q') (he : e' → e) : y.Fits v e' q' := by
  have hsame (hnotes : ∀ r ∈ q, r.isUpdate = false) : q' = q := hq.eq_of_notes hnotes
  rcases h with ⟨hdn, rfl⟩ | ⟨hdn, hn, g, rfl⟩ | ⟨hdn, hp, rfl⟩ | ⟨hdn, hp, hn, g, rfl⟩ | ⟨hdn, hp, hn, hnodup, hall⟩ |
    ⟨hdn, hp, hn, rfl⟩ | ⟨hdn, hp, hn, k, hk, rfl⟩ | ⟨hdn, hn, rfl⟩
  case idle => exact .idle (ha.dn.trans hdn) (hsame nofun)
  case cut => exact .cut (ha.dn.trans hdn) (mt he hn) g (hsame (by simp [VoiceRecord.isUpdate, VoiceRecord.isLevel,
    VoiceRecord.isRetune]))
  case pending =>
    exact .pending (ha.dn.trans hdn) (ha.phase.trans hp) (by rw [ha.dnGeneration]; exact hsame (by
      simp [bareStart, VoiceRecord.isUpdate, VoiceRecord.isLevel, VoiceRecord.isRetune]))
  case reused =>
    exact .reused (ha.dn.trans hdn) (ha.phase.trans hp) (mt he hn) g (by rw [ha.dnGeneration]; exact hsame (by
      simp [bareStart, VoiceRecord.isUpdate, VoiceRecord.isLevel, VoiceRecord.isRetune]))
  case sounds =>
    refine .sounds (ha.dn.trans hdn) (ha.phase.trans hp) (mt he hn) (hnodup.sublist hq.sublist) fun r hr => ?_
    rw [ha.generation]
    exact hall r (hq.sublist.subset hr)
  case rests => exact .rests (ha.dn.trans hdn) (by rwa [ha.phase]) (mt he hn) (hsame nofun)
  case stopped =>
    exact .stopped (ha.dn.trans hdn) (by rwa [ha.phase]) (mt he hn) k hk (by rw [ha.dnGeneration]; exact hsame (by
      simp [VoiceRecord.isUpdate, VoiceRecord.isLevel, VoiceRecord.isRetune]))
  case tail => exact .tail (ha.dn.trans hdn) (mt he hn) (hsame nofun)

/-- From s to t voice u stands as it did, and at most updates of it have left the queue. -/
structure State.Leaves (u : VoiceIx) (s t : State) : Prop where
  alike : (s.voice u).Alike (t.voice u)
  thinned : Thinned (recordsOf u s.port.queue) (recordsOf u t.port.queue)

namespace State.Leaves

variable {s t w : State} {u : VoiceIx}

theorem refl (u : VoiceIx) (s : State) : s.Leaves u s := ⟨.refl _, .refl _⟩

theorem trans (h : s.Leaves u t) (k : t.Leaves u w) : s.Leaves u w := ⟨h.alike.trans k.alike, h.thinned.trans k.thinned⟩

theorem of_same (hvoice : t.voice u = s.voice u) (hqueue : t.port.queue = s.port.queue) : s.Leaves u t :=
  ⟨hvoice ▸ .refl _, hqueue ▸ .refl _⟩

end State.Leaves

/-! ### Room in the queue (R128, R129) -/

/-- An eviction takes one update (R129). -/
theorem evictFrom_splits {q r : List VoiceRecord} {x : VoiceRecord} (h : evictFrom q = some (x, r)) :
    x.isUpdate = true ∧ ∃ a b, q = a ++ x :: b ∧ r = a ++ b := by
  obtain ⟨-, hl | ⟨-, hr⟩⟩ := evictFrom_eq_some h
  · obtain ⟨a, b, hq, hr, hx, -⟩ := takeFirst_eq_some.mp hl
    exact ⟨by simp [VoiceRecord.isUpdate, hx], a, b, hq, hr⟩
  · obtain ⟨a, b, hq, hr, hx, -⟩ := takeFirst_eq_some.mp hr
    exact ⟨by simp [VoiceRecord.isUpdate, hx], a, b, hq, hr⟩

theorem Thinned.of_eviction (u : VoiceIx) {q r : List VoiceRecord} {x : VoiceRecord} (h : evictFrom q = some (x, r)) :
    Thinned (recordsOf u q) (recordsOf u r) := by
  obtain ⟨hx, a, b, rfl, rfl⟩ := evictFrom_splits h
  rw [recordsOf_append, recordsOf_append, recordsOf_cons]
  split
  · refine ⟨List.Sublist.append_left (List.sublist_cons_self _ _) _, ?_⟩
    rw [List.filter_append, List.filter_append, List.filter_cons_of_neg (by simp [hx])]
  · exact .refl _

theorem State.makeRoom_leaves (s : State) (u : VoiceIx) : s.Leaves u s.makeRoom := by
  refine ⟨((State.Requeues.makeRoom s).voice u).alike, ?_⟩
  rcases s.makeRoom_cases with ⟨-, h⟩ | ⟨-, ⟨-, h⟩ | ⟨r, q, hevict, h⟩⟩ <;> rw [h]
  · exact .refl _
  · exact .refl _
  · rw [State.noteEviction_port]
    exact .of_eviction u hevict

/-- A queue holds the records of the voices, and ALL_STOPs. -/
theorem length_eq_sum_records (q : List VoiceRecord) :
    q.length = q.countP (· == .allStop) + ∑ v : VoiceIx, (recordsOf v q).length := by
  induction q with
  | nil => simp
  | cons r q ih =>
    have hlength (v : VoiceIx) :
        (recordsOf v (r :: q)).length = (recordsOf v q).length + if r.names v = true then 1 else 0 := by
      rw [recordsOf_cons]
      split <;> simp
    simp only [hlength, Finset.sum_add_distrib]
    rw [List.length_cons, List.countP_cons, ih]
    cases hkey : r.key with
    | none =>
      have hr : r = .allStop := by
        cases r with
        | allStop => rfl
        | _ => cases hkey
      have hnames (v : VoiceIx) : r.names v = false := by rw [hr]; rfl
      simp only [hnames, Bool.false_eq_true, if_false, Finset.sum_const_zero]
      rw [hr, if_pos (beq_self_eq_true _)]
      omega
    | some vg =>
      have hr : (r == .allStop) = false := by
        rw [beq_eq_false_iff_ne]
        rintro rfl
        cases hkey
      have hnames (v : VoiceIx) : r.names v = true ↔ vg.1 = v := by simp [VoiceRecord.names, hkey]
      simp only [hnames, hr, Finset.sum_ite_eq, Finset.mem_univ, Bool.false_eq_true, if_true, if_false]
      omega

/-- A voice with no updates queued has at most two records queued, and one beside an ALL_STOP (R128). -/
theorem Voice.Fits.length_le {x : Voice} {v : VoiceIx} {e : Prop} {q : List VoiceRecord} (h : x.Fits v e q)
    (hq : ∀ r ∈ q, r.isUpdate = false) : q.length ≤ 2 ∧ (e → q.length ≤ 1) := by
  refine ⟨?_, fun he => ?_⟩
  · rcases h with ⟨-, rfl⟩ | ⟨-, -, g, rfl⟩ | ⟨-, -, rfl⟩ | ⟨-, -, -, g, rfl⟩ | ⟨-, -, -, -, hall⟩ | ⟨-, -, -, rfl⟩ |
      ⟨-, -, -, k, hk, rfl⟩ | ⟨-, -, rfl⟩
    case sounds =>
      have hnil : q = [] := List.eq_nil_iff_forall_not_mem.mpr fun r hr => by
        have hno := hq r hr
        rcases hall r hr with rfl | rfl <;> cases hno
      simp [hnil]
    all_goals simp
  · rcases h.of_ended he with ⟨-, rfl⟩ | ⟨-, rfl⟩ <;> simp

section
variable {s t : State} {v : VoiceIx}

theorem AllStopLaw.count_le (h : s.AllStopLaw) :
    s.port.queue.countP (· == .allStop) ≤ 1 ∧ (¬s.Ended → s.port.queue.countP (· == .allStop) = 0) := by
  refine ⟨?_, fun he => ?_⟩
  · obtain ⟨htail, -⟩ := h
    cases hq : s.port.queue with
    | nil => simp
    | cons r q =>
      rw [hq] at htail
      rw [List.countP_cons, List.countP_eq_zero.mpr]
      · split <;> simp
      · intro y hy heq
        exact htail (eq_of_beq heq ▸ hy)
  · rw [List.countP_eq_zero]
    intro y hy heq
    exact he (.inr (eq_of_beq heq ▸ hy))

/-- Room is found for a record of a voice that has at most one queued (R128). -/
theorem State.makeRoom_room (hstop : s.AllStopLaw) (hbound : s.port.queue.length ≤ 64)
    (hfits : ∀ u, u ≠ v → (s.voice u).Fits u s.Ended (recordsOf u s.port.queue))
    (hv : (recordsOf v s.port.queue).length ≤ 1 ∨ ∃ r ∈ recordsOf v s.port.queue, r.isUpdate = true) :
    s.makeRoom.port.queue.length < 64 := by
  rcases s.makeRoom_cases with ⟨hroom, h⟩ | ⟨hfull, ⟨hnone, h⟩ | ⟨r, q, hevict, h⟩⟩
  · rw [h]
    exact hroom
  · exfalso
    rw [evictFrom_eq_none] at hnone
    have hnotes (u : VoiceIx) : ∀ r ∈ recordsOf u s.port.queue, r.isUpdate = false := fun r hr => by
      obtain ⟨x, hx, rfl, -⟩ := mem_recordsOf.mp hr
      rw [VoiceRecord.bare_isUpdate]
      exact hnone x hx
    have hv : (recordsOf v s.port.queue).length ≤ 1 := hv.resolve_right fun ⟨r, hr, hup⟩ => by
      rw [hnotes v r hr] at hup
      cases hup
    have hsum (n : Nat) (hn : ∀ u, u ≠ v → (recordsOf u s.port.queue).length ≤ n) :
        ∑ u : VoiceIx, (recordsOf u s.port.queue).length ≤ 1 + 31 * n := by
      rw [← Finset.add_sum_erase Finset.univ _ (Finset.mem_univ v)]
      refine Nat.add_le_add hv ?_
      have hcard := Finset.sum_le_card_nsmul (Finset.univ.erase v) (fun u => (recordsOf u s.port.queue).length) n
        fun u hu => hn u (Finset.ne_of_mem_erase hu)
      rwa [Finset.card_erase_of_mem (Finset.mem_univ v), Finset.card_univ, Fintype.card_fin, smul_eq_mul] at hcard
    have hlength := length_eq_sum_records s.port.queue
    obtain ⟨hone, hzero⟩ := AllStopLaw.count_le hstop
    have hfull : 64 ≤ s.port.queue.length := hfull
    by_cases he : s.Ended
    · have := hsum 1 fun u hu => ((hfits u hu).length_le (hnotes u)).2 he
      omega
    · have := hsum 2 fun u hu => ((hfits u hu).length_le (hnotes u)).1
      have := hzero he
      omega
  · rw [h, State.noteEviction_port]
    have := (evictFrom_eq_some hevict).1
    show q.length < 64
    omega

/-- A record appended with room found joins the records of its voice, and of no other. -/
theorem State.enqueue_records (r : VoiceRecord) (hroom : s.makeRoom.port.queue.length < 64) (u : VoiceIx) :
    recordsOf u (s.enqueue r).port.queue =
      recordsOf u s.makeRoom.port.queue ++ if r.names u = true then [r.bare] else [] := by
  rw [State.enqueue_queue, if_pos (show s.makeRoom.port.queue.length < queueCapacity from hroom),
    recordsOf_append, recordsOf_cons, recordsOf_nil]

theorem State.enqueue_leaves (r : VoiceRecord) {u : VoiceIx} (hu : r.names u = false) : s.Leaves u (s.enqueue r) := by
  refine (s.makeRoom_leaves u).trans ⟨?_, ?_⟩
  · unfold State.enqueue
    dsimp only
    split <;> exact .refl _
  · rw [State.enqueue_queue]
    split
    · rw [recordsOf_append, recordsOf_cons, recordsOf_nil, hu, if_neg (by simp), List.append_nil]
      exact .refl _
    · exact .refl _

/-! ### Removals (R127) -/

theorem recordsOf_cancelStart (u : VoiceIx) (g : Byte) (q : List VoiceRecord) :
    recordsOf u (cancelStart v g q) = cancelStart v g (recordsOf u q) := recordsOf_filter fun r => by simp

theorem recordsOf_removeUpdates (u : VoiceIx) (g : Byte) (q : List VoiceRecord) :
    recordsOf u (removeUpdates v g q) = removeUpdates v g (recordsOf u q) := recordsOf_filter fun r => by simp

theorem recordsOf_removeAll (u : VoiceIx) (g : Byte) (q : List VoiceRecord) :
    recordsOf u (removeAll v g q) = removeAll v g (recordsOf u q) := recordsOf_filter fun r => by simp

theorem isFor_of_recordsOf {u : VoiceIx} (hu : u ≠ v) {g : Byte} {q : List VoiceRecord} {r : VoiceRecord}
    (hr : r ∈ recordsOf u q) : r.isFor v g = false := by
  obtain ⟨x, -, rfl, hx⟩ := mem_recordsOf.mp hr
  obtain ⟨g', hkey⟩ := VoiceRecord.names_iff.mp hx
  simp [VoiceRecord.isFor, hkey, hu]

/-- The removals leave the records of every other voice (R127). -/
theorem recordsOf_removed {u : VoiceIx} (hu : u ≠ v) (g : Byte) (q : List VoiceRecord) :
    recordsOf u (cancelStart v g q) = recordsOf u q ∧ recordsOf u (removeUpdates v g q) = recordsOf u q ∧
      recordsOf u (removeAll v g q) = recordsOf u q := by
  rw [recordsOf_cancelStart, recordsOf_removeUpdates, recordsOf_removeAll]
  refine ⟨List.filter_eq_self.mpr ?_, List.filter_eq_self.mpr ?_, List.filter_eq_self.mpr ?_⟩ <;>
    exact fun r hr => by simp [isFor_of_recordsOf hu hr]

/-! ### The laws, when one voice moves -/

theorem State.Queues.ended (h : s.Queues t) : t.Ended → s.Ended := Or.imp (fun ho => h.owed ▸ ho) h.mem

theorem State.Queues.allStopLaw (h : s.Queues t) (hs : s.AllStopLaw) : t.AllStopLaw := by
  obtain ⟨htail, howed⟩ := hs
  refine ⟨mt h.tail htail, fun ho => ?_⟩
  obtain ⟨hnone, hdown⟩ := howed (h.owed ▸ ho)
  exact ⟨mt h.mem hnone, h.attached.trans hdown⟩

/-- A list of voices in which at most the place of voice v has changed, and which holds it exactly if b. -/
structure Trades (v : VoiceIx) (l l' : List VoiceIx) (b : Prop) : Prop where
  nodup : l'.Nodup
  others : ∀ u, u ≠ v → (u ∈ l' ↔ u ∈ l)
  own : v ∈ l' ↔ b

theorem Trades.same {l : List VoiceIx} {b : Prop} (h : l.Nodup) (hv : v ∈ l ↔ b) : Trades v l l b :=
  ⟨h, fun _ _ => Iff.rfl, hv⟩

theorem Trades.erase {l : List VoiceIx} {b : Prop} (h : l.Nodup) (hb : ¬b) : Trades v l (l.erase v) b :=
  ⟨h.erase v, fun _ hu => List.mem_erase_of_ne hu, iff_of_false h.not_mem_erase hb⟩

theorem Trades.append {l : List VoiceIx} {b : Prop} (h : l.Nodup) (hv : v ∉ l) (hb : b) : Trades v l (l ++ [v]) b := by
  refine ⟨List.nodup_append.mpr ⟨h, List.nodup_singleton v, ?_⟩, fun u hu => ?_, iff_of_true (by simp) hb⟩
  · intro a ha c hc
    rw [List.mem_singleton.mp hc]
    exact fun heq => hv (heq ▸ ha)
  · simp [hu]

theorem Trades.trans {l l' l'' : List VoiceIx} {b c : Prop} (h : Trades v l l' b) (k : Trades v l' l'' c) :
    Trades v l l'' c := ⟨k.nodup, fun u hu => (k.others u hu).trans (h.others u hu), k.own⟩

/-- The laws hold again when they hold of the port and of the one voice that moved. -/
theorem State.NoteLaws.of_voice_of_port {L L' : SlotIx → List (Option VoiceIx)} (h : s.NoteLaws L) (v : VoiceIx)
    (hothers : ∀ u, u ≠ v → s.Leaves u t) (hended : t.Ended → s.Ended) (hstop : t.AllStopLaw)
    (hbound : t.port.queue.length ≤ 64) (hok : (t.voice v).Ok)
    (hfits : (t.voice v).Fits v t.Ended (recordsOf v t.port.queue))
    (hage : Trades v s.pool.ageList t.pool.ageList ((t.voice v).phase = .sounding))
    (hrelease : Trades v s.pool.releaseList t.pool.releaseList ((t.voice v).phase = .releasing))
    (hlayers : ∀ (i : SlotIx) (k : Fin 4) (u : VoiceIx), u ≠ v →
      ((L' i)[k.val]? = some (some u) ↔ (L i)[k.val]? = some (some u)))
    (hown : ∀ (i : SlotIx) (k : Fin 4), (L' i)[k.val]? = some (some v) ↔
      ((t.voice v).owner.any fun o => o.slot == i && o.layer == k) = true) : t.NoteLaws L' := by
  obtain ⟨⟨-, -, hsounding, hreleasing, hoks⟩, hagree, hfit, -, -⟩ := h
  have hcases (P : VoiceIx → Prop) (hv : P v) (hrest : ∀ u, u ≠ v → P u) (u : VoiceIx) : P u := by
    by_cases hu : u = v
    · exact hu ▸ hv
    · exact hrest u hu
  refine ⟨⟨hage.nodup, hrelease.nodup, hcases _ hage.own fun u hu => ?_, hcases _ hrelease.own fun u hu => ?_,
    hcases _ hok fun u hu => (hothers u hu).alike.ok (hoks u)⟩, fun i k u => ?_, hcases _ hfits fun u hu => ?_,
    hstop, hbound⟩
  · rw [hage.others u hu, hsounding u, (hothers u hu).alike.phase]
  · rw [hrelease.others u hu, hreleasing u, (hothers u hu).alike.phase]
  · by_cases hu : u = v
    · rw [hu]
      exact hown i k
    · rw [hlayers i k u hu, hagree i k u, (hothers u hu).alike.owner]
  · exact (hfit u).of_alike (hothers u hu).alike (hothers u hu).thinned hended

theorem State.NoteLaws.of_voice {L L' : SlotIx → List (Option VoiceIx)} (h : s.NoteLaws L) (v : VoiceIx)
    (hothers : ∀ u, u ≠ v → s.Leaves u t) (hqueues : s.Queues t) (hok : (t.voice v).Ok)
    (hfits : (t.voice v).Fits v t.Ended (recordsOf v t.port.queue))
    (hage : Trades v s.pool.ageList t.pool.ageList ((t.voice v).phase = .sounding))
    (hrelease : Trades v s.pool.releaseList t.pool.releaseList ((t.voice v).phase = .releasing))
    (hlayers : ∀ (i : SlotIx) (k : Fin 4) (u : VoiceIx), u ≠ v →
      ((L' i)[k.val]? = some (some u) ↔ (L i)[k.val]? = some (some u)))
    (hown : ∀ (i : SlotIx) (k : Fin 4), (L' i)[k.val]? = some (some v) ↔
      ((t.voice v).owner.any fun o => o.slot == i && o.layer == k) = true) : t.NoteLaws L' :=
  h.of_voice_of_port v hothers hqueues.ended (hqueues.allStopLaw h.allStop) (hqueues.length h.bound) hok hfits hage
    hrelease hlayers hown

/-- The laws hold again when they hold of the port and no voice moved. -/
theorem State.NoteLaws.of_leaves_of_port {L L' : SlotIx → List (Option VoiceIx)} (h : s.NoteLaws L)
    (hvoices : ∀ u, s.Leaves u t) (hended : t.Ended → s.Ended) (hstop : t.AllStopLaw)
    (hbound : t.port.queue.length ≤ 64) (hage : t.pool.ageList = s.pool.ageList)
    (hrelease : t.pool.releaseList = s.pool.releaseList)
    (hlayers : ∀ (i : SlotIx) (k : Fin 4) (u : VoiceIx),
      (L' i)[k.val]? = some (some u) ↔ (L i)[k.val]? = some (some u)) : t.NoteLaws L' := by
  obtain ⟨⟨hnodup, hnodup', hsounding, hreleasing, hoks⟩, hagree, hfit, -, -⟩ := h
  refine ⟨⟨hage ▸ hnodup, hrelease ▸ hnodup', fun u => ?_, fun u => ?_, fun u => (hvoices u).alike.ok (hoks u)⟩,
    fun i k u => ?_, fun u => (hfit u).of_alike (hvoices u).alike (hvoices u).thinned hended,
    hstop, hbound⟩
  · rw [hage, hsounding u, (hvoices u).alike.phase]
  · rw [hrelease, hreleasing u, (hvoices u).alike.phase]
  · rw [hlayers i k u, hagree i k u, (hvoices u).alike.owner]

theorem State.NoteLaws.of_leaves {L L' : SlotIx → List (Option VoiceIx)} (h : s.NoteLaws L)
    (hvoices : ∀ u, s.Leaves u t) (hqueues : s.Queues t) (hage : t.pool.ageList = s.pool.ageList)
    (hrelease : t.pool.releaseList = s.pool.releaseList)
    (hlayers : ∀ (i : SlotIx) (k : Fin 4) (u : VoiceIx),
      (L' i)[k.val]? = some (some u) ↔ (L i)[k.val]? = some (some u)) : t.NoteLaws L' :=
  h.of_leaves_of_port hvoices hqueues.ended (hqueues.allStopLaw h.allStop) (hqueues.length h.bound) hage hrelease hlayers

end

end Sys2Proof.Machine

/-! Releases keep the laws of the pool and the queue (R114, R115). -/

namespace Sys2Proof.Machine

open Sys2Proof

/-! ### A record for a voice that is on its way -/

/-- The laws of the queue for every voice but one. -/
structure State.AllBut (v : VoiceIx) (s : State) : Prop where
  fits : ∀ u, u ≠ v → (s.voice u).Fits u s.Ended (recordsOf u s.port.queue)
  allStop : s.AllStopLaw
  bound : s.port.queue.length ≤ 64

section
variable {s t : State} {v : VoiceIx} {L L' : SlotIx → List (Option VoiceIx)}

theorem State.NoteLaws.allBut (h : s.NoteLaws L) (v : VoiceIx) : s.AllBut v := ⟨fun u _ => h.fits u, h.allStop, h.bound⟩

theorem State.AllBut.of_leaves (h : s.AllBut v) (hothers : ∀ u, u ≠ v → s.Leaves u t) (hqueues : s.Queues t) :
    t.AllBut v :=
  ⟨fun u hu => (h.fits u hu).of_alike (hothers u hu).alike (hothers u hu).thinned hqueues.ended,
    hqueues.allStopLaw h.allStop, hqueues.length h.bound⟩

/-- The queue takes a record of a voice that has at most one queued, and no update (R128). -/
theorem State.AllBut.enqueue_own (h : s.AllBut v) {r : VoiceRecord} (hr : r.names v = true)
    (hlen : (recordsOf v s.port.queue).length ≤ 1) (hnotes : ∀ y ∈ recordsOf v s.port.queue, y.isUpdate = false) :
    recordsOf v (s.enqueue r).port.queue = recordsOf v s.port.queue ++ [r.bare] := by
  rw [State.enqueue_records r (State.makeRoom_room h.allStop h.bound h.fits (.inl hlen)), if_pos hr,
    (s.makeRoom_leaves v).thinned.eq_of_notes hnotes]

theorem VoiceRecord.names_of_key {r : VoiceRecord} {u : VoiceIx} {g : Byte} (hkey : r.key = some (v, g)) (hu : u ≠ v) :
    r.names u = false := by
  simp [VoiceRecord.names, hkey, Ne.symm hu]

/-! ### One release (R114, R115) -/

/-- What releases leave of the layers: voice v is named no more. -/
def Unnamed (v : VoiceIx) (L L' : SlotIx → List (Option VoiceIx)) : Prop :=
  ∀ (i : SlotIx) (k : Fin 4) (u : VoiceIx),
    (L' i)[k.val]? = some (some u) ↔ u ≠ v ∧ (L i)[k.val]? = some (some u)

theorem Unnamed.others (h : Unnamed v L L') (i : SlotIx) (k : Fin 4) (u : VoiceIx) (hu : u ≠ v) :
    (L' i)[k.val]? = some (some u) ↔ (L i)[k.val]? = some (some u) := by
  rw [h i k u]
  exact and_iff_right hu

theorem Unnamed.own (h : Unnamed v L L') (i : SlotIx) (k : Fin 4) : ¬(L' i)[k.val]? = some (some v) := by
  rw [h i k v]
  exact fun hv => hv.1 rfl

theorem cancelStart_bareStart (g : Byte) : cancelStart v g [bareStart v g] = [] := by
  simp [cancelStart, bareStart, VoiceRecord.isStart, VoiceRecord.isFor, VoiceRecord.key]

theorem cancelStart_append (g : Byte) (q q' : List VoiceRecord) :
    cancelStart v g (q ++ q') = cancelStart v g q ++ cancelStart v g q' := List.filter_append q q'

theorem cancelStart_cut (g g' : Byte) : cancelStart v g [.stop v g' .cut] = [.stop v g' .cut] := by
  simp [cancelStart, VoiceRecord.isStart]

/-- What is left of a PENDING note's records when its START is cancelled (R127). -/
theorem Voice.Fits.cancelled {x : Voice} {e : Prop} {q : List VoiceRecord} (h : x.Fits v e q) (hdn : x.dn = .pending) :
    cancelStart v x.dnGeneration q = [] ∨ ¬e ∧ ∃ g, cancelStart v x.dnGeneration q = [.stop v g .cut] := by
  rcases h with ⟨hno, -⟩ | ⟨hno, -⟩ | ⟨-, -, rfl⟩ | ⟨-, -, he, g, rfl⟩ | ⟨hno, -⟩ | ⟨hno, -⟩ | ⟨hno, -⟩ | ⟨hno, -⟩
  case pending => exact .inl (cancelStart_bareStart _)
  case reused =>
    refine .inr ⟨he, g, ?_⟩
    refine (cancelStart_append x.dnGeneration [.stop v g .cut] [bareStart v x.dnGeneration]).trans ?_
    rw [cancelStart_bareStart, cancelStart_cut]
    rfl
  all_goals exact absurd (hdn.symm.trans hno) nofun

/-- Nothing is left of a sounding note's updates when they are removed (R127). -/
theorem Voice.Fits.cleaned {x : Voice} {e : Prop} {q : List VoiceRecord} (h : x.Fits v e q) (hdn : x.dn = .opened)
    (hp : x.phase = .sounding) : ¬e ∧ removeUpdates v x.generation q = [] := by
  rcases h with ⟨hno, -⟩ | ⟨hno, -⟩ | ⟨hno, -⟩ | ⟨hno, -⟩ | ⟨-, -, he, -, hall⟩ | ⟨-, hno, -⟩ | ⟨-, hno, -⟩ | ⟨hno, -⟩
  case sounds =>
    refine ⟨he, List.filter_eq_nil_iff.mpr fun r hr => ?_⟩
    rcases hall r hr with rfl | rfl <;>
      simp [VoiceRecord.isUpdate, VoiceRecord.isLevel, VoiceRecord.isRetune, VoiceRecord.isFor, VoiceRecord.key]
  case rests => exact absurd hp hno
  case stopped => exact absurd hp hno
  all_goals exact absurd (hdn.symm.trans hno) nofun

/-- A cancelled START leaves the voice FREE with nothing downstream (R114). -/
theorem State.NoteLaws.cancel (h : s.NoteLaws L) (hp : (s.voice v).phase = .sounding) (hdn : (s.voice v).dn = .pending)
    {k : StopKind} (hL : Unnamed v L L') : (s.releaseVoice v k).NoteLaws L' := by
  obtain ⟨⟨hnodup, hnodup', -, hreleasing, hoks⟩, -, hfits, -, -⟩ := id h
  obtain ⟨-, htimer, hboth, -, -⟩ := hoks v
  have hgen : (s.voice v).dnGeneration = (s.voice v).generation := (hboth hp).2
  have hqueues : s.Queues (s.releaseVoice v k) := (s.releaseVoice_settles v k).moves.queues
  have hcancelled := (hfits v).cancelled hdn
  rw [State.releaseVoice_of_pending hdn] at hqueues ⊢
  generalize hu : (((s.setQueue (cancelStart v (s.voice v).generation s.port.queue)).setAgeList
    (s.pool.ageList.erase v)).setVoice v (s.voice v).cancelled).settleStall = t at hqueues
  have hvoice : t.voice v = (s.voice v).cancelled := by
    rw [← hu, (State.settleStall_reads _).2.1]
    exact State.voice_setVoice_same _ _ _
  have hqueue : t.port.queue = cancelStart v (s.voice v).generation s.port.queue := by
    rw [← hu]
    rfl
  refine h.of_voice v (fun u hu' => ⟨?_, ?_⟩) hqueues ?_ ?_ ?_ ?_ hL.others fun i k => ?_
  · rw [← hu, (State.settleStall_reads _).2.1, State.voice_setVoice_ne _ _ (Ne.symm hu')]
    exact .refl _
  · rw [hqueue, (recordsOf_removed hu' _ _).1]
    exact .refl _
  · rw [hvoice]
    exact ⟨iff_of_false nofun nofun, iff_of_false (fun ht => absurd (hp.symm.trans (htimer.mp ht)) nofun) nofun, nofun,
      nofun, fun _ => nofun⟩
  · rw [hvoice, hqueue, recordsOf_cancelStart, ← hgen]
    rcases hcancelled with hnil | ⟨he, g, hcut⟩
    · exact .idle rfl hnil
    · exact .cut rfl (mt hqueues.ended he) g hcut
  · rw [hvoice, ← hu]
    exact .erase hnodup nofun
  · rw [hvoice, ← hu]
    exact .same hnodup' (iff_of_false (fun hmem => absurd (hp.symm.trans ((hreleasing v).mp hmem)) nofun) nofun)
  · rw [hvoice]
    exact iff_of_false (hL.own i k) nofun

/-- A STOP leaves the voice RELEASING (R115). -/
theorem State.NoteLaws.stop (h : s.NoteLaws L) (hp : (s.voice v).phase = .sounding) (hdn : (s.voice v).dn = .opened)
    {k : StopKind} (hk : k ≠ .cut) (hL : Unnamed v L L') : (s.releaseVoice v k).NoteLaws L' := by
  obtain ⟨⟨hnodup, hnodup', -, hreleasing, hoks⟩, -, hfits, -, -⟩ := id h
  have hgen : (s.voice v).dnGeneration = (s.voice v).generation := ((hoks v).2.2.1 hp).2
  have hqueues : s.Queues (s.releaseVoice v k) := (s.releaseVoice_settles v k).moves.queues
  obtain ⟨hended, hclean⟩ := (hfits v).cleaned hdn hp
  rw [State.releaseVoice_of_opened hdn] at hqueues ⊢
  set q := removeUpdates v (s.voice v).generation s.port.queue with hq
  have hothers (u : VoiceIx) (hu : u ≠ v) : s.Leaves u (s.setQueue q) := by
    refine ⟨.refl _, ?_⟩
    rw [show (s.setQueue q).port.queue = q from rfl, hq, (recordsOf_removed hu _ _).2.1]
    exact .refl _
  have hthin : s.Queues (s.setQueue q) :=
    Moves.queues (.single (Move.thin_of_sublist s (removals_sublist v _ s.port.queue).2.1))
  have hnone : recordsOf v (s.setQueue q).port.queue = [] := by
    rw [show (s.setQueue q).port.queue = q from rfl, hq, recordsOf_removeUpdates]
    exact hclean
  have hown := ((h.allBut v).of_leaves hothers hthin).enqueue_own (r := .stop v (s.voice v).generation k)
    (VoiceRecord.names_iff.mpr ⟨_, rfl⟩) (by rw [hnone]; exact Nat.zero_le 1) (by rw [hnone]; exact nofun)
  have hrest (u : VoiceIx) (hu : u ≠ v) := (hothers u hu).trans (State.enqueue_leaves (.stop v (s.voice v).generation k)
    (VoiceRecord.names_of_key rfl hu))
  rw [hnone, List.nil_append] at hown
  generalize (s.setQueue q).enqueue (.stop v (s.voice v).generation k) = w at hown hrest hqueues
  generalize ht : (((w.setAgeList (s.pool.ageList.erase v)).setReleaseList (s.pool.releaseList ++ [v])).setVoice v
    ((s.voice v).stopped s.responder.engine.releaseTimeout)).settleStall = t at hqueues
  have hvoice : t.voice v = (s.voice v).stopped s.responder.engine.releaseTimeout := by
    rw [← ht, (State.settleStall_reads _).2.1]
    exact State.voice_setVoice_same _ _ _
  have hqueue : t.port.queue = w.port.queue := by
    rw [← ht]
    rfl
  refine h.of_voice v (fun u hu => ⟨?_, ?_⟩) hqueues ?_ ?_ ?_ ?_ hL.others fun i k => ?_
  · rw [← ht, (State.settleStall_reads _).2.1, State.voice_setVoice_ne _ _ (Ne.symm hu)]
    exact (hrest u hu).alike
  · rw [hqueue]
    exact (hrest u hu).thinned
  · rw [hvoice]
    exact ⟨iff_of_false nofun nofun, iff_of_true rfl rfl, nofun, fun _ => ⟨.inl hdn, hgen⟩, nofun⟩
  · rw [hvoice, hqueue, hown]
    exact .stopped hdn nofun (mt hqueues.ended hended) k hk (by rw [Voice.stopped, hgen]; rfl)
  · rw [hvoice, ← ht]
    exact .erase hnodup nofun
  · rw [hvoice, ← ht]
    exact .append hnodup' (fun hmem => absurd (hp.symm.trans ((hreleasing v).mp hmem)) nofun) rfl
  · rw [hvoice]
    exact iff_of_false (hL.own i k) nofun

theorem State.NoteLaws.releaseVoice (h : s.NoteLaws L) (hp : (s.voice v).phase = .sounding) {k : StopKind}
    (hk : k ≠ .cut) (hL : Unnamed v L L') : (s.releaseVoice v k).NoteLaws L' := by
  obtain ⟨⟨-, -, -, -, hoks⟩, -, -, -, -⟩ := id h
  obtain ⟨-, -, hboth, -, -⟩ := hoks v
  rcases (hboth hp).1 with hdn | hdn
  · exact h.cancel hp hdn hL
  · exact h.stop hp hdn hk hL

/-! ### The voices of a layer list (R12, R17, R85, R91) -/

theorem State.NoteLaws.owner_iff (h : s.NoteLaws L) (i : SlotIx) (k : Fin 4) (v : VoiceIx) :
    (L i)[k.val]? = some (some v) ↔ ∃ o, (s.voice v).owner = some o ∧ o.slot = i ∧ o.layer = k := by
  rw [h.layers i k v]
  cases (s.voice v).owner with
  | none => simp
  | some o => simp

theorem State.NoteLaws.sounding_of_layer (h : s.NoteLaws L) {i : SlotIx} {k : Fin 4} (hv : (L i)[k.val]? = some (some v)) :
    (s.voice v).phase = .sounding := by
  obtain ⟨o, ho, -⟩ := (h.owner_iff i k v).mp hv
  exact h.pool.sounding_of_owner ho

/-- A voice is named in one entry of one layer list (R103). -/
theorem State.NoteLaws.entry_unique (h : s.NoteLaws L) {i j : SlotIx} {k l : Fin 4} (hv : (L i)[k.val]? = some (some v))
    (hv' : (L j)[l.val]? = some (some v)) : i = j ∧ k = l := by
  obtain ⟨o, ho, rfl, rfl⟩ := (h.owner_iff i k v).mp hv
  obtain ⟨o', ho', rfl, rfl⟩ := (h.owner_iff j l v).mp hv'
  obtain rfl : o = o' := Option.some.inj (ho.symm.trans ho')
  exact ⟨rfl, rfl⟩

theorem State.NoteLaws.congr (h : s.NoteLaws L) (hL : ∀ (i : SlotIx) (k : Fin 4) (u : VoiceIx),
    (L' i)[k.val]? = some (some u) ↔ (L i)[k.val]? = some (some u)) : s.NoteLaws L' :=
  h.of_leaves (fun u => .refl u s) (.refl s) rfl rfl hL

/-- The releases of a layer list go through it entry by entry, with the entries behind them absent. -/
theorem State.NoteLaws.releaseLayers {i : SlotIx} {k : StopKind} (hk : k ≠ .cut) {es : List (Option VoiceIx)} (n : Nat)
    (h : s.NoteLaws L) (hes : L i = List.replicate n none ++ es) (hlen : (L i).length ≤ 4) :
    (State.releaseLayers k es s).NoteLaws (Function.update L i []) := by
  induction es generalizing n s L with
  | nil =>
    refine h.congr fun j l u => ?_
    by_cases hj : j = i
    · subst hj
      rw [Function.update_self, hes, List.append_nil]
      refine iff_of_false (by simp) fun hu => ?_
      have hmem := List.eq_of_mem_replicate (List.mem_of_getElem? hu)
      cases hmem
    · rw [Function.update_of_ne hj]
  | cons e es ih =>
    have hmore : List.replicate n none ++ none :: es = List.replicate (n + 1) none ++ es := by
      rw [List.replicate_succ', List.append_assoc]
      rfl
    cases e with
    | none => exact ih (n + 1) h (hes.trans hmore) hlen
    | some v =>
      have hn : n < 4 := by
        have hl := hlen
        rw [hes, List.length_append, List.length_replicate, List.length_cons] at hl
        omega
      have hentry : (L i)[n]? = some (some v) := by
        rw [hes, List.getElem?_append_right (by simp)]
        simp
      have hstep : Unnamed v L (Function.update L i (List.replicate n none ++ none :: es)) := by
        intro j l u
        by_cases hj : j = i
        · subst hj
          rw [Function.update_self, hes]
          by_cases hl : l.val = n
          · rw [hl]
            refine iff_of_false ?_ ?_
            · rw [List.getElem?_append_right (by simp)]
              simp
            · rintro ⟨hu, hsome⟩
              rw [← hes, hentry] at hsome
              exact hu (Option.some.inj (Option.some.inj hsome)).symm
          · have hsame : (List.replicate n none ++ none :: es)[l.val]? = (List.replicate n none ++ some v :: es)[l.val]? := by
              rcases Nat.lt_or_gt_of_ne hl with hlt | hgt
              · rw [List.getElem?_append_left (by simpa using hlt), List.getElem?_append_left (by simpa using hlt)]
              · rw [List.getElem?_append_right (by simp; omega), List.getElem?_append_right (by simp; omega),
                  List.length_replicate, show l.val - n = (l.val - n - 1) + 1 by omega]
                rfl
            rw [hsame, ← hes]
            refine (and_iff_right_of_imp fun hu heq => ?_).symm
            subst heq
            exact hl (congrArg Fin.val (h.entry_unique (k := l) (l := ⟨n, hn⟩) hu hentry).2)
        · rw [Function.update_of_ne hj]
          refine (and_iff_right_of_imp fun hu heq => ?_).symm
          subst heq
          exact hj (h.entry_unique (k := l) (l := ⟨n, hn⟩) hu hentry).1
      have hreleased := h.releaseVoice (h.sounding_of_layer (k := ⟨n, hn⟩) hentry) hk hstep
      have hrest := ih (n + 1) hreleased (by rw [Function.update_self]; exact hmore)
        (by rw [Function.update_self, ← List.length_replicate (n := n) (a := (none : Option VoiceIx))]
            rw [hes] at hlen
            simpa using hlen)
      rwa [Function.update_idem] at hrest

end

end Sys2Proof.Machine

/-! Offered records and allocations keep the laws of the pool and the queue (R108 to R113, R126). -/

namespace Sys2Proof.Machine

open Sys2Proof

section
variable {s t : State} {v : VoiceIx} {L L' : SlotIx → List (Option VoiceIx)}

/-! ### Offered records (R126) -/

/-- Every voice stands as it did but for its last queued values and the refreshes it owes. -/
def State.AlikeVoices (s t : State) : Prop := ∀ u, (s.voice u).Alike (t.voice u)

theorem State.AlikeVoices.trans {w : State} (h : s.AlikeVoices t) (k : t.AlikeVoices w) : s.AlikeVoices w :=
  fun u => (h u).trans (k u)

theorem State.alikeVoices_setVoice {x : Voice} (hx : (s.voice v).Alike x) : s.AlikeVoices (s.setVoice v x) := by
  intro u
  by_cases hu : u = v
  · subst hu
    rw [State.voice_setVoice_same]
    exact hx
  · rw [State.voice_setVoice_ne _ _ (Ne.symm hu)]
    exact .refl _

/-- The values last queued and the refreshes owed are no matter of these laws, nor is the stall timer. -/
theorem State.NoteLaws.setVoice_alike (h : s.NoteLaws L) {x : Voice} (hx : (s.voice v).Alike x) :
    (s.setVoice v x).NoteLaws L :=
  h.of_leaves (fun u => ⟨State.alikeVoices_setVoice hx u, .refl _⟩) (.of_port rfl) rfl rfl fun _ _ _ => Iff.rfl

theorem State.NoteLaws.settleStall (h : s.NoteLaws L) : s.settleStall.NoteLaws L :=
  h.of_leaves (fun u => .of_same ((State.settleStall_reads s).2.1 u) rfl) (Moves.queues (.single (.settle s))) rfl rfl
    fun _ _ _ => Iff.rfl

theorem State.NoteLaws.of_same (h : s.NoteLaws L) (hpool : t.pool = s.pool) (hport : t.port = s.port) : t.NoteLaws L :=
  h.of_leaves (fun u => .of_same (by unfold State.voice; rw [hpool]) (by rw [hport])) (.of_port hport) (by rw [hpool])
    (by rw [hpool]) fun _ _ _ => Iff.rfl

/-- A queue in which values alone have been replaced. -/
theorem State.NoteLaws.setQueue_bare (h : s.NoteLaws L) {q : List VoiceRecord}
    (hq : q.map VoiceRecord.bare = s.port.queue.map VoiceRecord.bare) (hqueues : s.Queues (s.setQueue q)) :
    (s.setQueue q).NoteLaws L := by
  refine h.of_leaves (fun u => ⟨.refl _, ?_⟩) hqueues rfl rfl fun _ _ _ => Iff.rfl
  have hsame : recordsOf u q = recordsOf u s.port.queue := by
    unfold recordsOf
    rw [hq]
  rw [show (s.setQueue q).port.queue = q from rfl, hsame]
  exact .refl _

theorem map_bare_of_map {q : List VoiceRecord} {f : VoiceRecord → VoiceRecord} (hf : ∀ r, (f r).bare = r.bare) :
    (q.map f).map VoiceRecord.bare = q.map VoiceRecord.bare := by
  rw [List.map_map]
  exact List.map_congr_left fun r _ => hf r

theorem mergeRetune_bare {g : Byte} {n : Nat} {q q' : List VoiceRecord} (h : mergeRetune v g n q = some q') :
    q'.map VoiceRecord.bare = q.map VoiceRecord.bare := by
  unfold mergeRetune at h
  split at h
  · rw [← Option.some.inj h]
    refine map_bare_of_map fun r => ?_
    cases r with
    | start v' g' c pg pc vel l =>
      dsimp only
      split <;> rfl
    | _ => rfl
  · split at h
    · rw [← Option.some.inj h]
      refine map_bare_of_map fun r => ?_
      split
      next hr =>
        rw [Bool.and_eq_true] at hr
        obtain ⟨hkind, hfor⟩ := hr
        cases r <;> cases hkind
        cases eq_of_beq hfor
        rfl
      · rfl
    · cases h

theorem mergeLevel_bare {g : Byte} {n : Nat} {q q' : List VoiceRecord} (h : mergeLevel v g n q = some q') :
    q'.map VoiceRecord.bare = q.map VoiceRecord.bare := by
  unfold mergeLevel at h
  split at h
  · rw [← Option.some.inj h]
    refine map_bare_of_map fun r => ?_
    cases r with
    | start v' g' c pg pc vel l =>
      dsimp only
      split <;> rfl
    | _ => rfl
  · split at h
    · rw [← Option.some.inj h]
      refine map_bare_of_map fun r => ?_
      split
      next hr =>
        rw [Bool.and_eq_true] at hr
        obtain ⟨hkind, hfor⟩ := hr
        cases r <;> cases hkind
        cases eq_of_beq hfor
        rfl
      · rfl
    · cases h

/-- The dn generation of a sounding voice is its generation (R106). -/
theorem State.NoteLaws.generation (h : s.NoteLaws L) (hp : (s.voice v).phase = .sounding) :
    ((s.voice v).dn = .pending ∨ (s.voice v).dn = .opened) ∧ (s.voice v).dnGeneration = (s.voice v).generation := by
  obtain ⟨⟨-, -, -, -, hoks⟩, -, -, -, -⟩ := h
  obtain ⟨-, -, hboth, -, -⟩ := hoks v
  exact hboth hp

/-- A voice whose START is not queued is OPEN: its updates join the queue (R126 case 3). -/
theorem State.NoteLaws.opened_of_unmerged (h : s.NoteLaws L) (hp : (s.voice v).phase = .sounding)
    (hno : ∀ y ∈ s.port.queue, (y.isStart && y.isFor v (s.voice v).generation) = false) : (s.voice v).dn = .opened := by
  obtain ⟨hdn, hgen⟩ := h.generation hp
  refine hdn.resolve_left fun hpending => ?_
  obtain ⟨x, hx, hstart⟩ := h.pendingQueued v hpending
  rw [hgen, hno x hx] at hstart
  cases hstart

/-- An update that is not queued yet joins the updates of a voice that is OPEN (R126 case 3). -/
theorem State.NoteLaws.enqueue_update (h : s.NoteLaws L) (hp : (s.voice v).phase = .sounding)
    (hdn : (s.voice v).dn = .opened) {r : VoiceRecord}
    (hr : r.bare = .level v (s.voice v).generation 0 ∨ r.bare = .retune v (s.voice v).generation 0)
    (hnew : r.bare ∉ recordsOf v s.port.queue) (hqueues : s.Queues (s.enqueue r)) : (s.enqueue r).NoteLaws L := by
  obtain ⟨⟨hnodup, hnodup', hsounding, hreleasing, hoks⟩, hagree, hfits, hstop, hbound⟩ := id h
  have hkey : r.key = some (v, (s.voice v).generation) := by
    rw [← r.bare_key]
    rcases hr with hr | hr <;> rw [hr] <;> rfl
  have hrequeues := State.Requeues.enqueue s r
  have halike := (hrequeues.voice v).alike
  rcases hfits v with ⟨hno, -⟩ | ⟨hno, -⟩ | ⟨hno, -⟩ | ⟨hno, -⟩ | ⟨-, -, hended, hold, hall⟩ | ⟨-, hno, -⟩ | ⟨-, hno, -⟩ |
    ⟨hno, -⟩
  case sounds =>
    have hmany : (recordsOf v s.port.queue).length ≤ 1 ∨ ∃ y ∈ recordsOf v s.port.queue, y.isUpdate = true := by
      cases hq : recordsOf v s.port.queue with
      | nil => exact .inl (Nat.zero_le 1)
      | cons y ys =>
        refine .inr ⟨y, List.mem_cons_self, ?_⟩
        rcases hall y (by rw [hq]; exact List.mem_cons_self) with rfl | rfl <;> rfl
    have hrecords := State.enqueue_records r (State.makeRoom_room hstop hbound (fun u _ => hfits u) hmany) v
    rw [if_pos (VoiceRecord.names_iff.mpr ⟨_, hkey⟩)] at hrecords
    have hsub := (s.makeRoom_leaves v).thinned.sublist
    refine h.of_voice v (fun u hu => State.enqueue_leaves r (VoiceRecord.names_of_key hkey hu)) hqueues
      (halike.ok (hoks v)) ?_ ?_ ?_ (fun _ _ _ _ => Iff.rfl) fun i k => ?_
    · refine .sounds (halike.dn.trans hdn) (halike.phase.trans hp) (mt hqueues.ended hended) ?_ fun y hy => ?_
      · rw [hrecords]
        refine List.nodup_append.mpr ⟨hold.sublist hsub, List.nodup_singleton _, fun a ha c hc heq => ?_⟩
        rw [heq, List.mem_singleton.mp hc] at ha
        exact hnew (hsub.subset ha)
      · rw [halike.generation]
        rw [hrecords, List.mem_append, List.mem_singleton] at hy
        rcases hy with hy | rfl
        · exact hall y (hsub.subset hy)
        · exact hr
    · rw [hrequeues.ageList, halike.phase]
      exact .same hnodup (hsounding v)
    · rw [hrequeues.releaseList, halike.phase]
      exact .same hnodup' (hreleasing v)
    · rw [halike.owner]
      exact hagree i k v
  case rests => exact absurd hp hno
  case stopped => exact absurd hp hno
  all_goals exact absurd (hdn.symm.trans hno) nofun

/-- A record of a kind that the queue does not hold for the voice is not among its records. -/
theorem bare_notMem_recordsOf {r : VoiceRecord} {g : Byte} {q : List VoiceRecord} (hkey : r.key = some (v, g))
    {p : VoiceRecord → Bool} (hp : ∀ y, p y.bare = p y) (hr : p r = true) (hno : ∀ y ∈ q, (p y && y.isFor v g) = false) :
    r.bare ∉ recordsOf v q := by
  intro hmem
  obtain ⟨x, hx, hbare, -⟩ := mem_recordsOf.mp hmem
  have hpx : p x = true := by rw [← hp x, hbare, hp r, hr]
  have hfor : x.isFor v g = true := by
    rw [← x.bare_isFor, hbare, r.bare_isFor]
    exact beq_iff_eq.mpr hkey
  have hfalse := hno x hx
  rw [hpx, hfor] at hfalse
  cases hfalse

theorem State.NoteLaws.noted (h : s.NoteLaws L) {x : Voice} (hx : (s.voice v).Alike x) :
    (s.setVoice v x).settleStall.NoteLaws L ∧ s.AlikeVoices (s.setVoice v x).settleStall := by
  refine ⟨(h.setVoice_alike hx).settleStall, fun u => ?_⟩
  rw [(State.settleStall_reads _).2.1]
  exact State.alikeVoices_setVoice hx u

theorem State.NoteLaws.offerRetune (h : s.NoteLaws L) (hp : (s.voice v).phase = .sounding) (n : Nat) :
    (s.offerRetune v n).NoteLaws L ∧ s.AlikeVoices (s.offerRetune v n) := by
  cases hmerge : mergeRetune v (s.voice v).generation n s.port.queue with
  | some q =>
    rw [State.offerRetune_of_merge hmerge]
    obtain ⟨f, rfl, hf⟩ := mergeRetune_map hmerge
    exact (h.setQueue_bare (mergeRetune_bare hmerge) (Moves.queues (.single (Move.thin_of_map s hf)))).noted
      ⟨rfl, rfl, rfl, rfl, rfl, rfl⟩
  | none =>
    rw [State.offerRetune_of_none hmerge]
    have hno := mergeRetune_eq_none.mp hmerge
    have hdn := h.opened_of_unmerged hp fun y hy => by
      have hy := hno y hy
      cases hs : y.isStart <;> simp_all
    have henq := h.enqueue_update hp hdn (r := .retune v (s.voice v).generation n) (.inr rfl)
      (bare_notMem_recordsOf rfl VoiceRecord.bare_isRetune rfl fun y hy => by
        have hy := hno y hy
        cases hs : y.isRetune <;> simp_all)
      (s.enqueue_moves (r := .retune v (s.voice v).generation n) nofun).queues
    have hall : s.AlikeVoices (s.enqueue (.retune v (s.voice v).generation n)) := fun u =>
      ((State.Requeues.enqueue s _).voice u).alike
    obtain ⟨hlaws, halike⟩ := henq.noted (v := v)
      (x := { (s.enqueue (.retune v (s.voice v).generation n)).voice v with lastPitch := n }) ⟨rfl, rfl, rfl, rfl, rfl, rfl⟩
    exact ⟨hlaws, hall.trans halike⟩

theorem State.NoteLaws.offerLevel (h : s.NoteLaws L) (hp : (s.voice v).phase = .sounding) (n : Nat) :
    (s.offerLevel v n).NoteLaws L ∧ s.AlikeVoices (s.offerLevel v n) := by
  cases hmerge : mergeLevel v (s.voice v).generation n s.port.queue with
  | some q =>
    rw [State.offerLevel_of_merge hmerge]
    obtain ⟨f, rfl, hf⟩ := mergeLevel_map hmerge
    exact (h.setQueue_bare (mergeLevel_bare hmerge) (Moves.queues (.single (Move.thin_of_map s hf)))).noted
      ⟨rfl, rfl, rfl, rfl, rfl, rfl⟩
  | none =>
    rw [State.offerLevel_of_none hmerge]
    have hno := mergeLevel_eq_none.mp hmerge
    have hdn := h.opened_of_unmerged hp fun y hy => by
      have hy := hno y hy
      cases hs : y.isStart <;> simp_all
    have henq := h.enqueue_update hp hdn (r := .level v (s.voice v).generation n) (.inl rfl)
      (bare_notMem_recordsOf rfl VoiceRecord.bare_isLevel rfl fun y hy => by
        have hy := hno y hy
        cases hs : y.isLevel <;> simp_all)
      (s.enqueue_moves (r := .level v (s.voice v).generation n) nofun).queues
    have hall : s.AlikeVoices (s.enqueue (.level v (s.voice v).generation n)) := fun u =>
      ((State.Requeues.enqueue s _).voice u).alike
    obtain ⟨hlaws, halike⟩ := henq.noted (v := v)
      (x := { (s.enqueue (.level v (s.voice v).generation n)).voice v with lastLevel := n }) ⟨rfl, rfl, rfl, rfl, rfl, rfl⟩
    exact ⟨hlaws, hall.trans halike⟩

/-! ### Updates of sounding layers (R54 to R56, R90) -/

theorem State.NoteLaws.produceRetune (h : s.NoteLaws L) (hp : (s.voice v).phase = .sounding) (n : Nat) :
    (s.produceRetune v n).NoteLaws L ∧ s.AlikeVoices (s.produceRetune v n) := by
  rw [State.produceRetune_eq]
  split
  · have halike : (s.voice v).Alike { s.voice v with pitchOwed := false } := ⟨rfl, rfl, rfl, rfl, rfl, rfl⟩
    obtain ⟨hlaws, hall⟩ := (h.setVoice_alike halike).offerRetune (v := v) (by rw [State.voice_setVoice_same]; exact hp) n
    exact ⟨hlaws, (State.alikeVoices_setVoice halike).trans hall⟩
  · exact ⟨h, fun _ => .refl _⟩

theorem State.NoteLaws.produceLevel (h : s.NoteLaws L) (hp : (s.voice v).phase = .sounding) (n : Nat) :
    (s.produceLevel v n).NoteLaws L ∧ s.AlikeVoices (s.produceLevel v n) := by
  rw [State.produceLevel_eq]
  split
  · have halike : (s.voice v).Alike { s.voice v with levelOwed := false } := ⟨rfl, rfl, rfl, rfl, rfl, rfl⟩
    obtain ⟨hlaws, hall⟩ := (h.setVoice_alike halike).offerLevel (v := v) (by rw [State.voice_setVoice_same]; exact hp) n
    exact ⟨hlaws, (State.alikeVoices_setVoice halike).trans hall⟩
  · exact ⟨h, fun _ => .refl _⟩

theorem State.NoteLaws.raise (h : s.NoteLaws L) (c : Capture) : (s.raise c).NoteLaws L := h.of_same (by simp) (by simp)

theorem State.NoteLaws.raiseIf (h : s.NoteLaws L) (b : Bool) (c : Capture) : (s.raiseIf b c).NoteLaws L :=
  h.of_same (by simp) (by simp)

theorem State.NoteLaws.retuneLayer (h : s.NoteLaws L) (hp : (s.voice v).phase = .sounding) (i : SlotIx) (pk : Packet)
    (r : Resolution) (k : Nat) (l : Layer) :
    (s.retuneLayer i pk r k l v).NoteLaws L ∧ s.AlikeVoices (s.retuneLayer i pk r k l v) := by
  obtain ⟨hlaws, hall⟩ := (h.raiseIf (pitchOutOfRange (pk.pitch r l)) (.clamp i k (pk.pitch r l))).produceRetune (v := v)
    (by rw [(State.raiseIf_reads _ _ _).2.1]; exact hp) (pitchCode (pk.pitch r l))
  refine ⟨hlaws, fun u => ?_⟩
  have hu := hall u
  rwa [(State.raiseIf_reads _ _ _).2.1] at hu

/-- Every voice that a layer list names is SOUNDING. -/
def State.AllSound (s : State) (es : List (Option VoiceIx)) : Prop := ∀ v, some v ∈ es → (s.voice v).phase = .sounding

theorem State.AllSound.of_alike {es : List (Option VoiceIx)} (h : s.AllSound es) (k : s.AlikeVoices t) : t.AllSound es :=
  fun v hv => (k v).phase.trans (h v hv)

theorem State.NoteLaws.retuneLayers (i : SlotIx) (pk : Packet) (r : Resolution) (k : Nat) (ls : List Layer)
    (es : List (Option VoiceIx)) (h : s.NoteLaws L) (hes : s.AllSound es) :
    (State.retuneLayers i pk r k ls es s).NoteLaws L := by
  induction ls generalizing s k es with
  | nil => exact h
  | cons l ls ih =>
    match es, hes with
    | [], _ => exact h
    | none :: es, hes => exact ih (k + 1) es h fun v hv => hes v (List.mem_cons_of_mem _ hv)
    | some v :: es, hes =>
      obtain ⟨hlaws, hall⟩ := h.retuneLayer (hes v List.mem_cons_self) i pk r k l
      exact ih (k + 1) es hlaws (State.AllSound.of_alike (fun v hv => hes v (List.mem_cons_of_mem _ hv)) hall)

theorem State.NoteLaws.updateLayers (i : SlotIx) (pk : Packet) (r : Resolution) (out k : Nat) (ls : List Layer)
    (es : List (Option VoiceIx)) (h : s.NoteLaws L) (hes : s.AllSound es) :
    (State.updateLayers i pk r out k ls es s).NoteLaws L := by
  induction ls generalizing s k es with
  | nil => exact h
  | cons l ls ih =>
    match es, hes with
    | [], _ => exact h
    | none :: es, hes => exact ih (k + 1) es h fun v hv => hes v (List.mem_cons_of_mem _ hv)
    | some v :: es, hes =>
      obtain ⟨hlaws, hall⟩ := h.retuneLayer (hes v List.mem_cons_self) i pk r k l
      obtain ⟨hlaws', hall'⟩ := hlaws.produceLevel ((hall v).phase.trans (hes v List.mem_cons_self))
        (layerLevel out l.trim)
      exact ih (k + 1) es hlaws'
        (State.AllSound.of_alike (fun v hv => hes v (List.mem_cons_of_mem _ hv)) (hall.trans hall'))

/-- The voices of a layer list of at most four entries are SOUNDING (R103). -/
theorem State.NoteLaws.allSound (h : s.NoteLaws L) {i : SlotIx} (hlen : (L i).length ≤ 4) : s.AllSound (L i) := by
  intro v hv
  obtain ⟨n, hn, hget⟩ := List.mem_iff_getElem.mp hv
  exact h.sounding_of_layer (i := i) (k := ⟨n, hn.trans_le hlen⟩) (by rw [List.getElem?_eq_getElem hn, hget])

end

end Sys2Proof.Machine

/-! Allocations keep the laws of the pool and the queue (R108 to R113). -/

namespace Sys2Proof.Machine

open Sys2Proof

section
variable {s t : State} {v : VoiceIx}

/-! ### A voice taken from its former use (R112) -/

/-- From s to u voice v is taken from its former use: no list and no layer names it, and of its records at most a CUT is
queued (R112). -/
structure State.TakenFrom (v : VoiceIx) (s u : State) : Prop where
  others : ∀ w, w ≠ v → s.Leaves w u
  queues : s.Queues u
  timer : (u.voice v).releaseTimer = none
  records : recordsOf v u.port.queue = [] ∨ ¬s.Ended ∧ ∃ g, recordsOf v u.port.queue = [.stop v g .cut]
  age : Trades v s.pool.ageList u.pool.ageList False
  release : Trades v s.pool.releaseList u.pool.releaseList False
  layers : Unnamed v (fun i => (s.slot i).layers) fun i => (u.slot i).layers

theorem State.TakenFrom.of_same {u u' : State} (h : s.TakenFrom v u) (hvoice : ∀ w, u'.voice w = u.voice w)
    (hage : u'.pool.ageList = u.pool.ageList) (hrelease : u'.pool.releaseList = u.pool.releaseList)
    (hport : u'.port = u.port) (hslot : ∀ i, u'.slot i = u.slot i) : s.TakenFrom v u' := by
  refine ⟨fun w hw => (h.others w hw).trans (.of_same (hvoice w) (by rw [hport])), h.queues.trans (.of_port hport), ?_, ?_,
    ?_, ?_, fun i k w => ?_⟩
  · rw [hvoice]
    exact h.timer
  · rw [hport]
    exact h.records
  · rw [hage]
    exact h.age
  · rw [hrelease]
    exact h.release
  · dsimp only
    rw [hslot]
    exact h.layers i k w

/-- Nothing is left of the records of a note that the rack holds when its voice is reallocated (R127). -/
theorem Voice.Fits.removed {x : Voice} {e : Prop} {q : List VoiceRecord} (h : x.Fits v e q)
    (hdn : x.dn = .opened ∨ x.dn = .tail) (hgen : x.phase = .sounding → x.dnGeneration = x.generation) :
    ¬e ∧ removeAll v x.dnGeneration q = [] := by
  have hfor {r : VoiceRecord} (hr : r.key = some (v, x.dnGeneration)) : ¬(!r.isFor v x.dnGeneration) = true := by
    simp [VoiceRecord.isFor, hr]
  rcases h with ⟨hno, -⟩ | ⟨hno, -⟩ | ⟨hno, -⟩ | ⟨hno, -⟩ | ⟨-, hp, he, -, hall⟩ | ⟨-, -, he, rfl⟩ | ⟨-, -, he, k, -, rfl⟩ |
    ⟨-, he, rfl⟩
  case sounds =>
    refine ⟨he, List.filter_eq_nil_iff.mpr fun r hr => hfor ?_⟩
    rw [hgen hp]
    rcases hall r hr with rfl | rfl <;> rfl
  case rests => exact ⟨he, rfl⟩
  case stopped => exact ⟨he, List.filter_eq_nil_iff.mpr fun r hr => hfor (List.mem_singleton.mp hr ▸ rfl)⟩
  case tail => exact ⟨he, rfl⟩
  all_goals rcases hdn with hdn | hdn <;> exact absurd (hdn.symm.trans hno) nofun

/-- A cut leaves one CUT of the voice's records, and every other voice's as they were (R112). -/
theorem State.AllBut.cutFormer (h : s.AllBut v)
    (hnone : removeAll v (s.voice v).dnGeneration (recordsOf v s.port.queue) = []) :
    (∀ u, u ≠ v → s.Leaves u (s.cutFormer v)) ∧ s.Requeues (s.cutFormer v) ∧
      recordsOf v (s.cutFormer v).port.queue = [.stop v (s.voice v).dnGeneration .cut] := by
  unfold State.cutFormer
  dsimp only
  have hqueue (q : List VoiceRecord) : (s.setQueue q).port.queue = q := rfl
  have hthin : s.Queues (s.setQueue (removeAll v (s.voice v).dnGeneration s.port.queue)) :=
    Moves.queues (.single (Move.thin_of_sublist s (removals_sublist v _ s.port.queue).2.2))
  have hothers (u : VoiceIx) (hu : u ≠ v) :
      s.Leaves u (s.setQueue (removeAll v (s.voice v).dnGeneration s.port.queue)) := by
    refine ⟨.refl _, ?_⟩
    rw [hqueue, (recordsOf_removed hu _ _).2.2]
    exact .refl _
  have hempty : recordsOf v (s.setQueue (removeAll v (s.voice v).dnGeneration s.port.queue)).port.queue = [] := by
    rw [hqueue, recordsOf_removeAll]
    exact hnone
  have hown := (h.of_leaves hothers hthin).enqueue_own (r := .stop v (s.voice v).dnGeneration .cut)
    (VoiceRecord.names_iff.mpr ⟨_, rfl⟩) (by rw [hempty]; exact Nat.zero_le 1) (by rw [hempty]; exact nofun)
  rw [hempty, List.nil_append] at hown
  exact ⟨fun u hu => (hothers u hu).trans (State.enqueue_leaves _ (VoiceRecord.names_of_key rfl hu)),
    (State.Requeues.setQueue s _).trans (.enqueue _ _), hown⟩

/-- A voice that no slot owns is named in no layer list (R103). -/
theorem State.NoteLaws.unnamed (h : s.NoteLaws fun i => (s.slot i).layers) (ho : (s.voice v).owner = none)
    (hslots : t.slots = s.slots) : Unnamed v (fun i => (s.slot i).layers) fun i => (t.slot i).layers := by
  intro i k u
  have hslot : t.slot i = s.slot i := congrArg (fun z : Vector Slot 8 => z[i]) hslots
  dsimp only
  rw [hslot]
  refine (and_iff_right_of_imp fun hu heq => ?_).symm
  obtain ⟨o, ho', -⟩ := (h.owner_iff i k v).mp (heq ▸ hu)
  rw [ho] at ho'
  cases ho'

/-- A FREE voice is in neither list, is owned by no slot, and has no release timer running (R102 to R104). -/
theorem State.PoolLaws.of_free (h : s.PoolLaws) (hp : (s.voice v).phase = .free) :
    v ∉ s.pool.ageList ∧ v ∉ s.pool.releaseList ∧ (s.voice v).owner = none ∧ (s.voice v).releaseTimer = none := by
  obtain ⟨-, -, hsounding, hreleasing, hoks⟩ := h
  obtain ⟨howner, htimer, -⟩ := hoks v
  rw [hsounding, hreleasing, ← Option.not_isSome_iff_eq_none, ← Option.not_isSome_iff_eq_none, howner, htimer, hp]
  exact ⟨nofun, nofun, nofun, nofun⟩

theorem State.NoteLaws.taken_class1 (h : s.NoteLaws fun i => (s.slot i).layers) (hv : (s.voice v).isClass1 = true) :
    s.TakenFrom v s := by
  obtain ⟨hp, hdn⟩ := isClass1_iff.mp hv
  obtain ⟨hage, hrelease, howner, htimer⟩ := h.pool.of_free hp
  refine ⟨fun w _ => .refl w s, .refl s, htimer, ?_, .same h.pool.1 (iff_of_false hage nofun),
    .same h.pool.2.1 (iff_of_false hrelease nofun), h.unnamed howner rfl⟩
  rcases h.fits v with ⟨-, hq⟩ | ⟨-, he, g, hq⟩ | ⟨hno, -⟩ | ⟨hno, -⟩ | ⟨hno, -⟩ | ⟨hno, -⟩ | ⟨hno, -⟩ | ⟨hno, -⟩
  case idle => exact .inl hq
  case cut => exact .inr ⟨he, g, hq⟩
  all_goals exact absurd (hdn.symm.trans hno) nofun

/-- A cut on a state that differs from s in the voice and its lists alone. -/
theorem State.NoteLaws.taken_cut (h : s.NoteLaws fun i => (s.slot i).layers) {w : State} (hport : w.port = s.port)
    (hothers : ∀ u, u ≠ v → w.voice u = s.voice u) (hgen : (w.voice v).dnGeneration = (s.voice v).dnGeneration)
    (htimer : (w.voice v).releaseTimer = none) (hdn : (s.voice v).dn = .opened ∨ (s.voice v).dn = .tail)
    (hage : Trades v s.pool.ageList w.pool.ageList False)
    (hrelease : Trades v s.pool.releaseList w.pool.releaseList False)
    (hlayers : Unnamed v (fun i => (s.slot i).layers) fun i => (w.slot i).layers) : s.TakenFrom v (w.cutFormer v) := by
  have hleaves (u : VoiceIx) (hu : u ≠ v) : s.Leaves u w := .of_same (hothers u hu) (by rw [hport])
  obtain ⟨hended, hnone⟩ := (h.fits v).removed hdn fun hp => (h.generation hp).2
  obtain ⟨hrest, hrequeues, hcut⟩ := ((h.allBut v).of_leaves hleaves (.of_port hport)).cutFormer (by
    rw [hgen, hport]
    exact hnone)
  refine ⟨fun u hu => (hleaves u hu).trans (hrest u hu), (State.Queues.of_port hport).trans (w.cutFormer_moves v).queues,
    (hrequeues.voice v).alike.releaseTimer.trans htimer, .inr ⟨hended, _, hcut⟩, ?_, ?_, fun i k u => ?_⟩
  · rw [hrequeues.ageList]
    exact hage
  · rw [hrequeues.releaseList]
    exact hrelease
  · dsimp only
    rw [(w.cutFormer_reads v).1]
    exact hlayers i k u

theorem State.NoteLaws.taken_class2 (h : s.NoteLaws fun i => (s.slot i).layers) (hv : (s.voice v).isClass2 = true) :
    s.TakenFrom v (s.cutFormer v) := by
  obtain ⟨hp, hdn⟩ := isClass2_iff.mp hv
  obtain ⟨hage, hrelease, howner, htimer⟩ := h.pool.of_free hp
  exact h.taken_cut rfl (fun _ _ => rfl) rfl htimer hdn (.same h.pool.1 (iff_of_false hage nofun))
    (.same h.pool.2.1 (iff_of_false hrelease nofun)) (h.unnamed howner rfl)

theorem State.NoteLaws.taken_class3 (h : s.NoteLaws fun i => (s.slot i).layers) (hv : v ∈ s.pool.releaseList) :
    s.TakenFrom v (((s.setReleaseList (s.pool.releaseList.erase v)).modVoice v
      fun x => { x with releaseTimer := none }).cutFormer v) := by
  obtain ⟨hnodup, hnodup', hsounding, hreleasing, hoks⟩ := h.pool
  have hp := (hreleasing v).mp hv
  obtain ⟨howner, -, -, hdn, -⟩ := hoks v
  have hage : v ∉ s.pool.ageList := fun hmem => absurd (hp.symm.trans ((hsounding v).mp hmem)) nofun
  have hnone : (s.voice v).owner = none := by
    rw [← Option.not_isSome_iff_eq_none, howner, hp]
    nofun
  have hsame : ((s.setReleaseList (s.pool.releaseList.erase v)).modVoice v fun x => { x with releaseTimer := none }).voice v =
      { s.voice v with releaseTimer := none } := State.voice_setVoice_same _ _ _
  refine h.taken_cut rfl (fun u hu => State.voice_setVoice_ne _ _ (Ne.symm hu)) ?_ ?_ (hdn hp).1
    (.same hnodup (iff_of_false hage nofun)) (.erase hnodup' nofun) (h.unnamed hnone rfl) <;> rw [hsame]

/-- A voice that its slot owns leaves the age list and its layer entry (R93, R112). -/
theorem State.NoteLaws.robbed (h : s.NoteLaws fun i => (s.slot i).layers) {o : Owner} (ho : (s.voice v).owner = some o) :
    Unnamed v (fun i => (s.slot i).layers) fun i => ((s.robbed v o).slot i).layers := by
  intro i k u
  have hslot : (s.robbed v o).slot i = if o.slot = i then dropVoice v (s.slot o.slot) else s.slot i :=
    State.slot_setSlot _ _ _ _
  dsimp only
  rw [hslot]
  split
  next hi =>
    rw [(dropVoice_layers v _).2, hi]
    cases (s.slot i).layers[k.val]? with
    | none => simp
    | some e =>
      by_cases he : e = some v
      · simp [he]
        exact fun h1 h2 => h1 h2.symm
      · simp only [Option.map_some, if_neg he, Option.some.injEq]
        exact (and_iff_right_of_imp fun hu heq => he (hu.trans (congrArg some heq))).symm
  next hi =>
    refine (and_iff_right_of_imp fun hu heq => ?_).symm
    obtain ⟨o', ho', hs, -⟩ := (h.owner_iff i k v).mp (heq ▸ hu)
    exact hi (Option.some.inj (ho.symm.trans ho') ▸ hs)

theorem State.NoteLaws.taken_class4 (h : s.NoteLaws fun i => (s.slot i).layers) {o : Owner} (ho : (s.voice v).owner = some o)
    (i : SlotIx) : s.TakenFrom v (s.steal v i) := by
  obtain ⟨hnodup, hnodup', hsounding, hreleasing, hoks⟩ := h.pool
  have hp := h.pool.sounding_of_owner ho
  obtain ⟨hdn, hgen⟩ := h.generation hp
  have hrelease : v ∉ s.pool.releaseList := fun hmem => absurd (hp.symm.trans ((hreleasing v).mp hmem)) nofun
  have htimer : (s.voice v).releaseTimer = none := by
    rw [← Option.not_isSome_iff_eq_none, (hoks v).2.1, hp]
    nofun
  have hown : (s.robbed v o).voice v = { s.voice v with owner := none } := State.voice_setVoice_same _ _ _
  have hother (u : VoiceIx) (hu : u ≠ v) : (s.robbed v o).voice u = s.voice u := State.voice_setVoice_ne _ _ (Ne.symm hu)
  have hsilenced : s.TakenFrom v (s.silenced v o) := by
    unfold State.silenced
    rcases hdn with hdn | hdn
    · rw [if_neg (by rw [hdn]; nofun), if_pos hdn]
      refine ⟨fun w hw => ⟨hother w hw ▸ .refl _, ?_⟩, ?_, ?_, ?_, .erase hnodup nofun,
        .same hnodup' (iff_of_false hrelease nofun), h.robbed ho⟩
      · show Thinned _ (recordsOf w (cancelStart v (s.voice v).generation s.port.queue))
        rw [(recordsOf_removed hw _ _).1]
        exact .refl _
      · exact Moves.queues (.tail (.single (.inside (t := s.robbed v o) ⟨rfl, rfl, rfl, rfl, rfl⟩))
          (Move.thin_of_sublist (s.robbed v o) (removals_sublist v _ s.port.queue).1))
      · show ((s.robbed v o).voice v).releaseTimer = none
        rw [hown]
        exact htimer
      · show recordsOf v (cancelStart v (s.voice v).generation s.port.queue) = [] ∨ _
        have hcancelled := (h.fits v).cancelled hdn
        rw [hgen, ← recordsOf_cancelStart] at hcancelled
        exact hcancelled
    · rw [if_pos hdn]
      exact h.taken_cut rfl hother (by rw [hown]) (by rw [hown]; exact htimer) (.inl hdn) (.erase hnodup nofun)
        (.same hnodup' (iff_of_false hrelease nofun)) (h.robbed ho)
  have hraised : s.TakenFrom v ((s.silenced v o).raise (.steal v o.slot i)) :=
    hsilenced.of_same ((s.silenced v o).raise_reads _).2.1 (by simp) (by simp) (by simp)
      ((s.silenced v o).raise_reads _).1
  rw [State.steal_of_owner ho]
  split
  · exact hraised.of_same (fun _ => rfl) rfl rfl rfl fun _ => rfl
  · exact hraised

/-- A victim is a voice that a slot owns (R109). -/
theorem State.PoolLaws.owner_of_victim (h : s.PoolLaws) {mode : StealMode} {π : Fin 4}
    (hv : s.pool.victim mode π = some v) : ∃ o, (s.voice v).owner = some o := by
  cases mode with
  | fixed =>
    obtain ⟨o, ho, -⟩ := h.mem_lowest.mp (List.mem_of_head? (l := s.pool.lowest π) hv)
    exact ⟨o, ho⟩
  | rotating =>
    unfold Pool.victim at hv
    dsimp only at hv
    split at hv
    · obtain ⟨o, ho, -⟩ := h.mem_considered.mp (List.mem_of_find?_eq_some hv)
      exact ⟨o, ho⟩
    · cases hv

/-- Whatever candidate an allocation takes, it is taken from its former use (R108, R112). -/
theorem State.NoteLaws.takeVoice (h : s.NoteLaws fun i => (s.slot i).layers) {c : AllocClass} {mode : StealMode}
    {π : Fin 4} (hc : s.pool.candidate mode π = some (c, v)) (i : SlotIx) : s.TakenFrom v (s.takeVoice c v i) := by
  have hfinds := Pool.candidate_iff.mp hc
  cases c with
  | class1 => exact h.taken_class1 hfinds.1
  | class2 => exact h.taken_class2 hfinds.2.1
  | class3 => exact h.taken_class3 (List.mem_of_head? hfinds.2.2)
  | class4 =>
    obtain ⟨o, ho⟩ := h.pool.owner_of_victim hfinds.2.2.2
    exact h.taken_class4 ho i

end

end Sys2Proof.Machine

/-! Starts of notes keep the laws of the pool and the queue (R81, R113). -/

namespace Sys2Proof.Machine

open Sys2Proof

section
variable {s t : State} {i : SlotIx} {k : Fin 4}

/-! ### One layer (R113) -/

/-- A granted voice is named in the entry of its layer alone. -/
theorem layerEntry_iff {es : List (Option VoiceIx)} {v w : VoiceIx} {l : Fin 4} (hk : es[k.val]? = some none)
    (hes : ∀ u, es[l.val]? = some (some u) → u ≠ v) :
    (es.set k.val (some v))[l.val]? = some (some w) ↔ if w = v then l = k else es[l.val]? = some (some w) := by
  have hlen : k.val < es.length := by
    rw [List.getElem?_eq_some_iff] at hk
    exact hk.1
  rw [List.getElem?_set]
  by_cases hl : k.val = l.val
  · obtain rfl : k = l := Fin.ext hl
    rw [if_pos rfl, if_pos hlen]
    split
    next hw => simp [hw]
    next hw =>
      rw [hk]
      exact iff_of_false (fun h => hw (Option.some.inj (Option.some.inj h)).symm) nofun
  · rw [if_neg hl]
    split
    next hw =>
      refine iff_of_false (fun h => hes w h hw) fun h => hl (congrArg Fin.val h).symm
    · rfl

/-- A voice taken from its former use is given to a layer whose entry is absent, and its START joins the queue (R113). -/
theorem State.TakenFrom.grant {v : VoiceIx} {u : State} {π : Fin 4} {p : Int} {l : Layer} {velocity level : Nat}
    (htaken : s.TakenFrom v u) (h : s.NoteLaws fun j => (s.slot j).layers) (hk : (u.slot i).layers[k.val]? = some none)
    (hqueues : s.Queues (u.layerPlaced i k π v p l velocity level)) :
    (u.layerPlaced i k π v p l velocity level).NoteLaws fun j =>
      ((u.layerPlaced i k π v p l velocity level).slot j).layers := by
  obtain ⟨hothers, htook, htimer, hrecords, hage, hrelease, hlayers⟩ := htaken
  have hslot (j : SlotIx) : (u.layerPlaced i k π v p l velocity level).slot j =
      if i = j then { u.slot i with layers := (u.slot i).layers.set k (some v) } else u.slot j := by
    unfold State.layerPlaced
    rw [(State.settleStall_reads _).1, State.setVoice_slot, (State.enqueue_reads _ _).1, (State.raiseIf_reads _ _ _).1]
    exact State.slot_setSlot _ _ _ _
  set r : VoiceRecord := .start v ((u.voice v).generation + 1) l.channel l.program (pitchCode p) velocity level with hr
  have hkey : r.key = some (v, (u.voice v).generation + 1) := rfl
  set w := (u.givenAway i k π v).raiseIf (pitchOutOfRange p) (.clamp i k p) with hw
  have hport : w.port = u.port := by
    rw [hw, ((u.givenAway i k π v).raiseIf_frame _ _).2.2.1]
    rfl
  have hpool : w.pool = (u.givenAway i k π v).pool := by
    rw [hw, ((u.givenAway i k π v).raiseIf_frame _ _).2.1]
  have hleaves (x : VoiceIx) (hx : x ≠ v) : s.Leaves x w := by
    refine (hothers x hx).trans (.of_same ?_ (by rw [hport]))
    show w.pool.voices[x] = _
    rw [hpool]
    exact State.voice_setVoice_ne _ _ (Ne.symm hx)
  have hqueue : recordsOf v w.port.queue = recordsOf v u.port.queue := by rw [hport]
  have hown := ((h.allBut v).of_leaves hleaves (htook.trans (.of_port hport))).enqueue_own (r := r)
    (VoiceRecord.names_iff.mpr ⟨_, hkey⟩)
    (by rw [hqueue]; rcases hrecords with hq | ⟨-, g, hq⟩ <;> rw [hq] <;> simp)
    (by rw [hqueue]; rcases hrecords with hq | ⟨-, g, hq⟩ <;> rw [hq] <;>
        simp [VoiceRecord.isUpdate, VoiceRecord.isLevel, VoiceRecord.isRetune])
  rw [hqueue] at hown
  have hrequeues := State.Requeues.enqueue w r
  have hrest (x : VoiceIx) (hx : x ≠ v) := (hleaves x hx).trans (State.enqueue_leaves r (VoiceRecord.names_of_key hkey hx))
  have hdef : u.layerPlaced i k π v p l velocity level =
      ((w.enqueue r).setVoice v (((u.voice v).givenTo ⟨i, k, π⟩).queuedAt (pitchCode p) level)).settleStall := rfl
  generalize u.layerPlaced i k π v p l velocity level = t at *
  have hvoice : t.voice v = ((u.voice v).givenTo ⟨i, k, π⟩).queuedAt (pitchCode p) level := by
    rw [hdef, (State.settleStall_reads _).2.1]
    exact State.voice_setVoice_same _ _ _
  have htqueue : t.port.queue = (w.enqueue r).port.queue := by rw [hdef]; rfl
  have htage : t.pool.ageList = u.pool.ageList ++ [v] := by
    rw [hdef]
    show (w.enqueue r).pool.ageList = _
    rw [hrequeues.ageList, hpool]
    rfl
  have htrelease : t.pool.releaseList = u.pool.releaseList := by
    rw [hdef]
    show (w.enqueue r).pool.releaseList = _
    rw [hrequeues.releaseList, hpool]
    rfl
  have hentry (j : SlotIx) (m : Fin 4) (x : VoiceIx) : (t.slot j).layers[m.val]? = some (some x) ↔
      if x = v then i = j ∧ m = k else (s.slot j).layers[m.val]? = some (some x) := by
    have hnot (x : VoiceIx) (hx : (u.slot j).layers[m.val]? = some (some x)) : x ≠ v := ((hlayers j m x).mp hx).1
    have hsame : (u.slot j).layers[m.val]? = some (some x) ↔ x ≠ v ∧ (s.slot j).layers[m.val]? = some (some x) :=
      hlayers j m x
    rw [hslot]
    by_cases hij : i = j
    · subst hij
      rw [if_pos rfl, layerEntry_iff hk hnot]
      split
      next => simp
      next hx => rw [hsame, and_iff_right hx]
    · rw [if_neg hij, hsame]
      split
      next hx => exact iff_of_false (fun hno => hno.1 hx) fun hno => hij hno.1
      next hx => exact and_iff_right hx
  refine h.of_voice v (fun x hx => ⟨?_, ?_⟩) hqueues ?_ ?_ ?_ ?_ (fun j m x hx => ?_) fun j m => ?_
  · rw [hdef, (State.settleStall_reads _).2.1, State.voice_setVoice_ne _ _ (Ne.symm hx)]
    exact (hrest x hx).alike
  · rw [htqueue]
    exact (hrest x hx).thinned
  · rw [hvoice]
    refine ⟨iff_of_true rfl rfl, iff_of_false ?_ nofun, fun _ => ⟨.inl rfl, rfl⟩, nofun, nofun⟩
    show ¬(u.voice v).releaseTimer.isSome = true
    rw [htimer]
    nofun
  · rw [hvoice, htqueue, hown]
    rcases hrecords with hq | ⟨he, g, hq⟩
    · exact .pending rfl rfl (by rw [hq]; rfl)
    · exact .reused rfl rfl (mt hqueues.ended he) g (by rw [hq]; rfl)
  · rw [hvoice, htage]
    exact hage.trans (.append hage.nodup (fun hmem => hage.own.mp hmem) rfl)
  · rw [hvoice, htrelease]
    exact ⟨hrelease.nodup, hrelease.others, hrelease.own.trans (iff_of_false id nofun)⟩
  · rw [hentry, if_neg hx]
  · rw [hentry, if_pos rfl, hvoice]
    show _ ↔ (i == j && k == m) = true
    rw [Bool.and_eq_true, beq_iff_eq, beq_iff_eq, @eq_comm _ m k]

theorem State.NoteLaws.startLayer (h : s.NoteLaws fun j => (s.slot j).layers) (pk : Packet) (r : Resolution)
    (vc : Voicing) (l : Layer) (hk : (s.slot i).layers[k.val]? = some none) :
    (s.startLayer i pk r vc k l).NoteLaws fun j => ((s.startLayer i pk r vc k l).slot j).layers := by
  cases hc : s.pool.candidate s.responder.engine.stealMode pk.settings.priority with
  | none =>
    rw [State.startLayer_of_none hc]
    exact h
  | some cv =>
    obtain ⟨c, v⟩ := cv
    have hqueues := (s.startLayer_settles i pk r vc k l).moves.queues
    rw [State.startLayer_of_some hc] at hqueues ⊢
    refine (h.takeVoice hc i).grant h ?_ hqueues
    obtain ⟨-, -, hentries⟩ := s.takeVoice_robs c v i i
    rcases hentries k.val with hsame | hnone
    · exact hsame.trans hk
    · exact hnone

/-- An entry behind the layer that is started is not filled by it. -/
theorem State.startLayer_entry (pk : Packet) (r : Resolution) (vc : Voicing) (n m : Nat) (l : Layer) (hm : n ≠ m)
    (hnone : (s.slot i).layers[m]? = some none) : ((s.startLayer i pk r vc n l).slot i).layers[m]? = some none := by
  rcases s.startLayer_slot i pk r vc n l i with hslot | ⟨c, v, -, hslot⟩ <;> rw [hslot]
  · exact hnone
  · rw [if_pos rfl]
    dsimp only
    rw [List.getElem?_set_ne hm]
    obtain ⟨-, -, hentries⟩ := s.takeVoice_robs c v i i
    rcases hentries m with hsame | hrobbed
    · exact hsame.trans hnone
    · exact hrobbed

theorem State.NoteLaws.startLayers (pk : Packet) (r : Resolution) (vc : Voicing) (ls : List Layer) (n : Nat)
    (h : s.NoteLaws fun j => (s.slot j).layers) (hn : n + ls.length ≤ 4)
    (hnone : ∀ m, n ≤ m → m < n + ls.length → (s.slot i).layers[m]? = some none) :
    (State.startLayers i pk r vc n ls s).NoteLaws fun j => ((State.startLayers i pk r vc n ls s).slot j).layers := by
  induction ls generalizing s n with
  | nil => exact h
  | cons l ls ih =>
    rw [List.length_cons] at hn hnone
    have hfirst := h.startLayer (k := ⟨n, by omega⟩) pk r vc l (hnone n le_rfl (by omega))
    refine ih (n + 1) hfirst (by omega) fun m hm hlt => ?_
    exact State.startLayer_entry pk r vc n m l (by omega) (hnone m (by omega) (by omega))

/-! ### A note (R81) -/

/-- The laws of the pool and the queue, with what they need of the slots: layers while SOUNDING alone, four at most, and
voicings of at most four layers (R68, R77). -/
structure State.Voiced (s : State) : Prop where
  notes : s.NoteLaws fun j => (s.slot j).layers
  silent : ∀ j : SlotIx, (s.slot j).phase = .sounding ∨ (s.slot j).layers = []
  short : ∀ j : SlotIx, (s.slot j).layers.length ≤ 4
  shallow : ∀ (b : BankIx) (j : VoicingIx), (s.bank b).voicings[j].layers.length ≤ 4

namespace State.Voiced

theorem voicing (h : s.Voiced) (i : SlotIx) (r : Resolution) : (s.voicingOf i r).layers.length ≤ 4 := by
  unfold State.voicingOf
  split
  · exact h.shallow _ _
  · exact Nat.zero_le 4

theorem silent_of_ne (h : s.Voiced) (hp : (s.slot i).phase ≠ .sounding) : (s.slot i).layers = [] :=
  (h.silent i).resolve_left hp

/-- Slots that keep their layers, and are SOUNDING if they have any. -/
theorem of_slots (h : s.Voiced) (hpool : t.pool = s.pool) (hport : t.port = s.port)
    (hbank : ∀ b, (t.bank b).voicings = (s.bank b).voicings)
    (hslot : ∀ j, (t.slot j).layers = (s.slot j).layers ∧
      ((s.slot j).phase = .sounding → (t.slot j).phase = .sounding ∨ (s.slot j).layers = [])) : t.Voiced := by
  refine ⟨?_, fun j => ?_, fun j => ?_, fun b j => ?_⟩
  · exact (h.notes.of_same hpool hport).congr fun j k u => by rw [(hslot j).1]
  · rw [(hslot j).1]
    rcases h.silent j with hp | hnil
    · exact (hslot j).2 hp
    · exact .inr hnil
  · rw [(hslot j).1]
    exact h.short j
  · rw [hbank]
    exact h.shallow b j

theorem modSlot (h : s.Voiced) {f : Slot → Slot} (hf : (f (s.slot i)).layers = (s.slot i).layers)
    (hp : (s.slot i).phase = .sounding → (f (s.slot i)).phase = .sounding) : (s.modSlot i f).Voiced := by
  refine h.of_slots rfl rfl (fun _ => rfl) fun j => ?_
  rw [State.slot_modSlot]
  split
  next hij => exact hij ▸ ⟨hf, .inl ∘ hp⟩
  · exact ⟨rfl, .inl⟩

theorem drain (h : s.Voiced) : s.drain.Voiced := by
  have hports := s.drain_samePorts
  refine h.of_slots (by simp) hports.port (fun b => ?_) fun j => ?_
  · rw [State.bank_drain]
    split <;> rfl
  · rw [(s.drain_reads).1]
    exact ⟨rfl, .inl⟩

theorem switchBank (h : s.Voiced) : (s.switchBank i).Voiced :=
  (h.modSlot (f := fun x => { x with bank := switchedBank s.store.liveBank x }) rfl id).drain

theorem raise (h : s.Voiced) (c : Capture) : (s.raise c).Voiced := by
  refine h.of_slots (by simp) (by simp) (fun b => by simp) fun j => ?_
  rw [(s.raise_reads c).1]
  exact ⟨rfl, .inl⟩

/-- The voices of a slot are released and its layer list is emptied (R12, R17, R85, R91). -/
theorem released (h : s.Voiced) {k : StopKind} (hk : k ≠ .cut) {f : Slot → Slot} (hf : (f (s.slot i)).layers = []) :
    ((State.releaseLayers k (s.slot i).layers s).modSlot i f).Voiced := by
  obtain ⟨hslots, hbanks⟩ := s.releaseLayers_reads k (s.slot i).layers
  have hlaws := h.notes.releaseLayers (i := i) hk (es := (s.slot i).layers) 0 rfl (h.short i)
  generalize State.releaseLayers k (s.slot i).layers s = u at *
  have hslot (j : SlotIx) : (u.modSlot i f).slot j = if i = j then f (s.slot i) else s.slot j := by
    rw [State.slot_modSlot, hslots, hslots]
  refine ⟨(hlaws.of_same (t := u.modSlot i f) rfl rfl).congr fun j m w => ?_, fun j => ?_, fun j => ?_, fun b j => ?_⟩
  · rw [hslot]
    by_cases hij : i = j
    · rw [if_pos hij, hf, ← hij, Function.update_self]
    · rw [if_neg hij, Function.update_of_ne (Ne.symm hij)]
  · rw [hslot]
    split
    · exact .inr hf
    · exact h.silent j
  · rw [hslot]
    split
    · rw [hf]
      exact Nat.zero_le 4
    · exact h.short j
  · rw [State.modSlot_bank, hbanks]
    exact h.shallow b j

theorem startNote (h : s.Voiced) (pk : Packet) (r : Resolution) (hempty : (s.slot i).layers = []) :
    (s.startNote i pk r).Voiced := by
  have hn := h.voicing i r
  have hbank (b : BankIx) : (s.startNote i pk r).bank b = s.bank b := by simp
  have hown := s.startNote_own i pk r
  have hrobs {j : SlotIx} (hj : j ≠ i) := s.startNote_robs i pk r hj
  refine ⟨?_, fun j => ?_, fun j => ?_, fun b j => by rw [hbank]; exact h.shallow b j⟩
  · have hslot (j : SlotIx) : (s.modSlot i fun x =>
        { x with phase := .sounding, layers := List.replicate (s.voicingOf i r).layers.length none }).slot j =
        if i = j then { s.slot i with
          phase := .sounding, layers := List.replicate (s.voicingOf i r).layers.length none } else s.slot j :=
      State.slot_modSlot _ _ _ _
    have hopen := (h.notes.of_same (t := s.modSlot i fun x =>
      { x with phase := .sounding, layers := List.replicate (s.voicingOf i r).layers.length none }) rfl rfl).congr
        (L' := fun j => ((s.modSlot i fun x => { x with
          phase := .sounding, layers := List.replicate (s.voicingOf i r).layers.length none }).slot j).layers)
        fun j m w => by
          rw [hslot]
          split
          next hij =>
            rw [← hij, hempty]
            refine iff_of_false (fun hmem => ?_) nofun
            have hnone := List.eq_of_mem_replicate (List.mem_of_getElem? hmem)
            cases hnone
          · rfl
    have hstarted := State.NoteLaws.startLayers (i := i) pk r (s.voicingOf i r) (s.voicingOf i r).layers 0 hopen
      (by omega) fun m _ hm => by
        rw [hslot, if_pos rfl]
        exact List.getElem?_replicate_of_lt (by omega)
    unfold State.startNote
    dsimp only
    refine (hstarted.raiseIf _ _).congr fun j m w => ?_
    rw [(State.raiseIf_reads _ _ _).1]
  · by_cases hj : j = i
    · exact .inl (hj ▸ s.startNote_phase i pk r)
    · obtain ⟨hrest, hlen, -⟩ := hrobs hj
      rcases h.silent j with hp | hnil
      · exact .inl (by rw [hrest]; exact hp)
      · exact .inr (List.eq_nil_of_length_eq_zero (by rw [hlen, hnil]; rfl))
  · by_cases hj : j = i
    · rw [hj, hown.2]
      exact hn
    · rw [(hrobs hj).2.1]
      exact h.short j

end State.Voiced

end

end Sys2Proof.Machine

/-! A packet keeps the laws of the pool and the queue (R4, R78). -/

namespace Sys2Proof.Machine

open Sys2Proof

namespace State.Voiced

variable {s t : State} {i : SlotIx}

/-- The pool and the port change, and the slots and the banks stay. -/
theorem of_notes (h : s.Voiced) (hslot : ∀ j, t.slot j = s.slot j) (hbank : ∀ b, t.bank b = s.bank b)
    (hlaws : t.NoteLaws fun j => (s.slot j).layers) : t.Voiced := by
  refine ⟨hlaws.congr fun j k u => ?_, fun j => ?_, fun j => ?_, fun b j => ?_⟩
  · rw [hslot]
  · rw [hslot]
    exact h.silent j
  · rw [hslot]
    exact h.short j
  · rw [hbank]
    exact h.shallow b j

theorem allSound (h : s.Voiced) (i : SlotIx) : s.AllSound (s.slot i).layers := h.notes.allSound (h.short i)

/-! ### Stage 4 -/

theorem refreshResolution (h : s.Voiced) (i : SlotIx) : (s.refreshResolution i).Voiced := h.modSlot rfl id

theorem legatoRetune (h : s.Voiced) (pk : Packet) (r : Resolution) : (s.legatoRetune i pk r).Voiced := by
  have hset : (s.modSlot i fun x => { x with resolution := some r }).Voiced := h.modSlot rfl id
  obtain ⟨hslots, hbanks⟩ := State.retuneLayers_reads (s.modSlot i fun x => { x with resolution := some r }) i pk r 0
    ((s.modSlot i fun x => { x with resolution := some r }).voicingOf i r).layers
    ((s.modSlot i fun x => { x with resolution := some r }).slot i).layers
  exact hset.of_notes hslots hbanks (hset.notes.retuneLayers i pk r 0 _ _ (hset.allSound i))

theorem changeFingering (h : s.Voiced) (pk : Packet) : (s.changeFingering i pk).Voiced := by
  unfold State.changeFingering
  split
  · exact h
  next r _ =>
    split
    · exact h
    · exact h.legatoRetune pk r
    · refine (h.released (k := .release) nofun (f := fun x => { x with layers := [], resolution := some r }) rfl).startNote
        pk r ?_
      rw [State.slot_modSlot_same]

theorem confirm (h : s.Voiced) (pk : Packet) (first gap : Bool) (ks : KeySet) : (s.confirm i pk first gap ks).Voiced := by
  have hcount (x : Slot) : (x.countRun gap ks).layers = x.layers ∧ (x.countRun gap ks).phase = x.phase := by
    unfold Slot.countRun
    split <;> exact ⟨rfl, rfl⟩
  obtain ⟨hlayers, hphase⟩ := hcount (s.slot i)
  unfold State.confirm
  split
  · exact State.Voiced.refreshResolution (h.modSlot rfl id) i
  · split
    · have hcounted : (s.modSlot i fun x => x.countRun gap ks).Voiced := h.modSlot hlayers hphase.trans
      unfold State.confirmSounding
      dsimp only
      split
      · exact State.Voiced.changeFingering (hcounted.modSlot rfl id) pk
      · exact hcounted
    · have hcounted : ((s.modSlot i fun x => x.confirmQuiet gap ks).refreshResolution i).Voiced :=
        State.Voiced.refreshResolution (h.modSlot hlayers hphase.trans) i
      unfold State.stalledStart
      split
      next hp _ => exact hcounted.startNote pk _ (hcounted.silent_of_ne (by simp [hp]))
      · exact hcounted

/-! ### Samples -/

theorem onset (h : s.Voiced) (hp : (s.slot i).phase = .quiet) (pk : Packet) (q e : Nat) : (s.onset i pk q e).Voiced := by
  have hempty := h.silent_of_ne (i := i) (by simp [hp])
  unfold State.onset
  dsimp only
  split
  next r _ =>
    refine State.Voiced.startNote (State.Voiced.modSlot (h.modSlot rfl id) rfl id) pk r ?_
    simpa using hempty
  · refine (State.Voiced.switchBank (State.Voiced.modSlot (h.modSlot rfl id) rfl fun hsounding => ?_)).raise _
    rw [State.slot_modSlot_same] at hsounding
    exact absurd (hp.symm.trans hsounding) nofun

theorem releaseNote (h : s.Voiced) : (s.releaseNote i).Voiced := by
  refine (h.released (k := .release) nofun ?_).switchBank.refreshResolution i
  rw [Slot.applyPending_eq]

theorem abandonOnset (h : s.Voiced) (hp : (s.slot i).phase = .stalled) : (s.abandonOnset i).Voiced :=
  State.Voiced.switchBank (h.modSlot rfl fun hsounding => absurd (hp.symm.trans hsounding) nofun)

theorem testSample (h : s.Voiced) (pk : Packet) (q e : Nat) : (s.testSample i pk q e).Voiced := by
  unfold State.testSample
  split
  next hp =>
    split
    · split
      · exact h.modSlot rfl id
      · exact h
    · split
      · exact h.onset hp pk q e
      · exact h
  next hp =>
    split
    · exact h.abandonOnset hp
    · exact h
  · split
    · exact h.releaseNote
    · exact h
  · exact h

theorem sample (h : s.Voiced) (pk : Packet) (a : Nat) : (State.sample i pk s a).Voiced := by
  unfold State.sample
  exact State.Voiced.modSlot (h.testSample pk _ _) rfl id

theorem samples (h : s.Voiced) (pk : Packet) (as : List Nat) : (as.foldl (State.sample i pk) s).Voiced := by
  induction as generalizing s with
  | nil => exact h
  | cons a as ih => exact ih (h.sample pk a)

/-! ### Stage 6 and the packet -/

theorem perPacket (h : s.Voiced) (pk : Packet) (e : Nat) : (s.perPacket i pk e).Voiced := by
  have hout : (s.modSlot i fun x => x.updateOut pk.settings.slew e).Voiced := h.modSlot rfl id
  unfold State.perPacket
  generalize s.modSlot i (fun x => x.updateOut pk.settings.slew e) = u at hout
  dsimp only
  split
  next r _ _ =>
    obtain ⟨hslots, hbanks⟩ := State.updateLayers_reads u i pk r (u.slot i).outLevel 0 (u.voicingOf i r).layers
      (u.slot i).layers
    exact hout.of_notes hslots hbanks (hout.notes.updateLayers i pk r _ 0 _ _ (hout.allSound i))
  · exact hout

theorem processPacket (h : s.Voiced) (first gap : Bool) (p : Sense) : (s.processPacket i first gap p).Voiced :=
  ((h.confirm _ first gap _).samples _ p.samples).perPacket _ _

theorem takePacket (h : s.Voiced) (p : Sense) : (s.takePacket i p).Voiced := by
  unfold State.takePacket
  dsimp only
  split
  next ha =>
    refine State.Voiced.processPacket (State.Voiced.switchBank (h.modSlot rfl fun hsounding => ?_)) true false p
    exact absurd (ha.symm.trans hsounding) nofun
  · have haccepted : (s.modSlot i fun x => x.accept p.sequence).Voiced := h.modSlot rfl id
    split
    · exact haccepted.processPacket false false p
    · split
      · exact (haccepted.raise _).processPacket false true p
      · exact h.raise _

/-! ### Binding and the loss of a controller (R11, R12, R17) -/

theorem unbind (h : s.Voiced) (i : SlotIx) : (s.unbind i).Voiced := (h.released (k := .flush) nofun rfl).switchBank

theorem bind (h : s.Voiced) (i : SlotIx) (t : Half) : (s.bind i t).Voiced := by
  have key {u : State} (hu : u.Voiced) (hp : (u.slot i).phase = .unbound) :
      ((u.modSlot i fun x => x.bound t).switchBank i).Voiced := by
    refine State.Voiced.switchBank (hu.modSlot (hu.silent_of_ne (by simp [hp])).symm fun hsounding => ?_)
    exact absurd (hp.symm.trans hsounding) nofun
  unfold State.bind
  dsimp only
  split
  next hp => exact key h hp
  · refine key (h.unbind i) ?_
    rw [State.TableLaws.slot_unbind, if_pos rfl]

theorem lossExpiry (h : s.Voiced) (i : SlotIx) : (s.lossExpiry i).Voiced := by
  unfold State.lossExpiry
  split
  · exact h
  · refine (h.released (k := .lost) nofun ?_).switchBank.raise _
    unfold Slot.lostController
    rw [Slot.applyPending_eq]

end State.Voiced

end Sys2Proof.Machine

/-! The events of the pool, the voice link and the flush keep the laws of the pool and the queue (R116, R119, R121,
R130, R136). -/

namespace Sys2Proof.Machine

open Sys2Proof

section
variable {s t : State} {v : VoiceIx} {L L' : SlotIx → List (Option VoiceIx)}

/-! ### Expiries of release timers and FREED reports (R116, R119) -/

/-- A voice that is not SOUNDING may change its state: what the queue may hold for it depends on its dn state alone. -/
theorem Voice.Fits.of_silent {x y : Voice} {e : Prop} {q : List VoiceRecord} (h : x.Fits v e q) (hx : x.phase ≠ .sounding)
    (hy : y.phase ≠ .sounding) (hdn : y.dn = x.dn) (hg : y.dnGeneration = x.dnGeneration) : y.Fits v e q := by
  cases h with
  | idle hno hq => exact .idle (hdn.trans hno) hq
  | cut hno he g hq => exact .cut (hdn.trans hno) he g hq
  | pending hno hp => exact absurd hp hx
  | reused hno hp => exact absurd hp hx
  | sounds hno hp => exact absurd hp hx
  | rests hno hp he hq => exact .rests (hdn.trans hno) hy he hq
  | stopped hno hp he k hk hq => exact .stopped (hdn.trans hno) hy he k hk (hg ▸ hq)
  | tail hno he hq => exact .tail (hdn.trans hno) he hq

/-- A voice that no slot owns becomes FREE, its records staying as they are (R116, R119). -/
theorem State.NoteLaws.freeVoice (h : s.NoteLaws L) (hp : (s.voice v).phase ≠ .sounding) {x : Voice}
    (hx : x.phase = .free) (howner : x.owner = (s.voice v).owner) (htimer : x.releaseTimer = none) (hdn : x.dn ≠ .pending)
    (hfits : x.Fits v s.Ended (recordsOf v s.port.queue)) :
    ((s.setReleaseList (s.pool.releaseList.erase v)).setVoice v x).NoteLaws L := by
  obtain ⟨hnodup, hnodup', hsounding, -, hoks⟩ := h.pool
  have hsame : ((s.setReleaseList (s.pool.releaseList.erase v)).setVoice v x).voice v = x := State.voice_setVoice_same _ _ _
  have hnone : (s.voice v).owner = none := by
    obtain ⟨hown, -⟩ := hoks v
    exact Option.not_isSome_iff_eq_none.mp (mt hown.mp hp)
  refine h.of_voice v (fun u hu => .of_same (State.voice_setVoice_ne _ _ (Ne.symm hu)) rfl) (.of_port rfl) ?_ ?_ ?_ ?_
    (fun _ _ _ _ => Iff.rfl) fun i k => ?_ <;> rw [hsame]
  · refine ⟨iff_of_false ?_ ?_, iff_of_false ?_ ?_, ?_, ?_, fun _ => hdn⟩ <;> simp [hx, howner, hnone, htimer]
  · exact hfits
  · exact .same hnodup ((hsounding v).trans (iff_of_false hp (by simp [hx])))
  · exact .erase hnodup' (by simp [hx])
  · rw [h.layers i k v, howner]

theorem State.NoteLaws.releaseExpiry (h : s.NoteLaws L) (v : VoiceIx) : (s.releaseExpiry v).NoteLaws L := by
  unfold State.releaseExpiry
  split
  · exact h
  next hrun =>
    obtain ⟨-, -, -, -, hoks⟩ := h.pool
    obtain ⟨-, htimer, -, hdn, -⟩ := hoks v
    have hp : (s.voice v).phase = .releasing := htimer.mp (by simpa [Option.isSome_iff_ne_none] using hrun)
    have hsilent : (s.voice v).phase ≠ .sounding := by simp [hp]
    refine h.freeVoice hsilent (x := { s.voice v with phase := .free, releaseTimer := none }) rfl rfl rfl ?_
      ((h.fits v).of_silent hsilent nofun rfl rfl)
    rcases (hdn hp).1 with hno | hno <;> simp [hno]

theorem State.NoteLaws.freedReport (h : s.NoteLaws L) (v : VoiceIx) (g : Byte) : (s.freedReport v g).NoteLaws L := by
  unfold State.freedReport
  dsimp only
  split
  next hmatch =>
    obtain ⟨hdn, hg⟩ : (s.voice v).dn = .tail ∧ (s.voice v).dnGeneration = g := by
      simpa [Voice.freedMatches] using hmatch
    obtain ⟨hnodup, hnodup', hsounding, hreleasing, hoks⟩ := h.pool
    obtain ⟨howner, htimer, hboth, hrel, hfree⟩ := hoks v
    have hp : (s.voice v).phase ≠ .sounding := fun hp => by
      rcases (hboth hp).1 with hno | hno <;> exact absurd (hdn.symm.trans hno) nofun
    have hempty : recordsOf v s.port.queue = [] := by
      rcases h.fits v with ⟨hno, -⟩ | ⟨hno, -⟩ | ⟨hno, -⟩ | ⟨hno, -⟩ | ⟨hno, -⟩ | ⟨hno, -⟩ | ⟨hno, -⟩ | ⟨-, -, hq⟩
      case tail => exact hq
      all_goals exact absurd (hdn.symm.trans hno) nofun
    split
    · exact h.freeVoice hp rfl rfl rfl nofun (.idle rfl hempty)
    next hother =>
      have hphase : (s.voice v).phase = .free := by
        cases hph : (s.voice v).phase with
        | free => rfl
        | sounding => exact absurd hph hp
        | releasing => exact absurd ⟨hph, (hrel hph).2.symm.trans hg⟩ hother
      have hsame : (s.setVoice v { s.voice v with dn := .none }).voice v = { s.voice v with dn := .none } :=
        State.voice_setVoice_same _ _ _
      refine h.of_voice v (fun u hu => .of_same (State.voice_setVoice_ne _ _ (Ne.symm hu)) rfl) (.of_port rfl) ?_ ?_ ?_ ?_
        (fun _ _ _ _ => Iff.rfl) fun i k => ?_ <;> rw [hsame]
      · exact ⟨howner, htimer, fun hno => absurd hno hp, fun hno => absurd (hphase.symm.trans hno) nofun, nofun⟩
      · exact .idle rfl hempty
      · exact .same hnodup (hsounding v)
      · exact .same hnodup' (hreleasing v)
      · exact h.layers i k v
  · exact h.raise _

/-! ### Transmission (R118, R130) -/

theorem recordsOf_cons_other {r : VoiceRecord} {q : List VoiceRecord} (hr : r.names v = false) :
    recordsOf v (r :: q) = recordsOf v q := by
  rw [recordsOf_cons, hr, if_neg nofun]

theorem recordsOf_cons_own {r : VoiceRecord} {q : List VoiceRecord} {g : Byte} (hkey : r.key = some (v, g)) :
    recordsOf v (r :: q) = r.bare :: recordsOf v q := by
  rw [recordsOf_cons, if_pos (VoiceRecord.names_iff.mpr ⟨g, hkey⟩)]

/-- What the port that sends its head leaves queued and owed (R130). -/
structure State.Sends (r : VoiceRecord) (s t : State) : Prop where
  queue : s.port.queue = r :: t.port.queue
  owed : t.port.allStopOwed = s.port.allStopOwed
  attached : t.port.attached = s.port.attached
  canSend : s.port.attached = true

namespace State.Sends

variable {r : VoiceRecord}

theorem ended (k : s.Sends r t) (he : t.Ended) : s.Ended := by
  rcases he with ho | hm
  · exact .inl (k.owed ▸ ho)
  · exact .inr (k.queue ▸ List.mem_cons_of_mem _ hm)

/-- An ALL_STOP stands at the head of the queue, and none is owed while ATTACHED: what is left is not ended by one. -/
theorem not_ended (k : s.Sends r t) (hstop : s.AllStopLaw) : ¬t.Ended := by
  obtain ⟨htail, howed⟩ := hstop
  rw [k.queue] at htail
  rintro (ho | hm)
  · exact absurd (k.canSend.symm.trans (howed (k.owed ▸ ho)).2) nofun
  · exact htail hm

theorem allStopLaw (k : s.Sends r t) (hstop : s.AllStopLaw) : t.AllStopLaw := by
  have hnot := k.not_ended hstop
  exact ⟨fun hm => hnot (.inr (List.mem_of_mem_tail hm)), fun ho => absurd (.inl ho) hnot⟩

theorem bound (k : s.Sends r t) (hbound : s.port.queue.length ≤ 64) : t.port.queue.length ≤ 64 := by
  rw [k.queue, List.length_cons] at hbound
  exact Nat.le_of_succ_le hbound

theorem leaves (k : s.Sends r t) {u : VoiceIx} (hu : r.names u = false) (hvoice : t.voice u = s.voice u) :
    s.Leaves u t := by
  refine ⟨hvoice ▸ .refl _, ?_⟩
  rw [k.queue, recordsOf_cons_other hu]
  exact .refl _

end State.Sends

/-- Of the voice whose record is sent at most the dn state has moved, and of no other voice anything (R118). -/
theorem State.NoteLaws.of_sends {r : VoiceRecord} {g : Byte} (h : s.NoteLaws L) (k : s.Sends r t)
    (hkey : r.key = some (v, g)) (hage : t.pool.ageList = s.pool.ageList)
    (hrelease : t.pool.releaseList = s.pool.releaseList) (hothers : ∀ u, u ≠ v → t.voice u = s.voice u) {d : DnState}
    (hvoice : t.voice v = { s.voice v with dn := d })
    (hok : (t.voice v).Ok) (hfits : (t.voice v).Fits v t.Ended (recordsOf v t.port.queue)) : t.NoteLaws L := by
  obtain ⟨hnodup, hnodup', hsounding, hreleasing, -⟩ := h.pool
  refine h.of_voice_of_port v (fun u hu => k.leaves (VoiceRecord.names_of_key hkey hu) (hothers u hu)) k.ended
    (k.allStopLaw h.allStop) (k.bound h.bound) hok hfits ?_ ?_ (fun _ _ _ _ => Iff.rfl) fun i k => ?_
  · rw [hage, hvoice]
    exact .same hnodup (hsounding v)
  · rw [hrelease, hvoice]
    exact .same hnodup' (hreleasing v)
  · rw [hvoice]
    exact h.layers i k v

/-- A RETUNE or LEVEL that is sent moves no dn state (R118). -/
theorem State.NoteLaws.of_update_sent {r : VoiceRecord} {g : Byte} (h : s.NoteLaws L) (k : s.Sends r t)
    (hkey : r.key = some (v, g)) (hup : r.isUpdate = true) (hpool : t.pool = s.pool) : t.NoteLaws L := by
  have hvoice (u : VoiceIx) : t.voice u = s.voice u := by unfold State.voice; rw [hpool]
  refine h.of_leaves_of_port (fun u => ?_) k.ended (k.allStopLaw h.allStop) (k.bound h.bound) (by rw [hpool])
    (by rw [hpool]) fun _ _ _ => Iff.rfl
  by_cases hu : u = v
  · subst hu
    refine ⟨hvoice u ▸ .refl _, ?_⟩
    rw [k.queue, recordsOf_cons_own hkey]
    refine ⟨List.sublist_cons_self _ _, ?_⟩
    rw [List.filter_cons_of_neg (by simp [VoiceRecord.bare_isUpdate, hup])]
  · exact k.leaves (VoiceRecord.names_of_key hkey hu) (hvoice u)

/-- The START that is sent is the one its PENDING note waits for (R118, R128). -/
theorem Voice.Fits.of_start_sent {x : Voice} {e e' : Prop} {g : Byte} {q : List VoiceRecord}
    (h : x.Fits v e (bareStart v g :: q)) (he : ¬e') :
    x.dn = .pending ∧ x.phase = .sounding ∧ x.dnGeneration = g ∧ Voice.Fits { x with dn := .opened } v e' q := by
  rcases h with ⟨-, hq⟩ | ⟨-, -, _, hq⟩ | ⟨hdn, hp, hq⟩ | ⟨-, -, -, _, hq⟩ | ⟨-, -, -, -, hq⟩ | ⟨-, -, -, hq⟩ |
    ⟨-, -, -, _, -, hq⟩ | ⟨-, -, hq⟩
  case pending =>
    obtain ⟨hhead, rfl⟩ := List.cons.inj hq
    refine ⟨hdn, hp, ?_, .sounds rfl hp he .nil nofun⟩
    cases hhead
    rfl
  case sounds => rcases hq _ List.mem_cons_self with hno | hno <;> cases hno
  all_goals cases hq

/-- The STOP that is sent is that of the voice's OPEN note (R118, R128). -/
theorem Voice.Fits.of_stop_sent {x : Voice} {e e' : Prop} {g : Byte} {k : StopKind} {q : List VoiceRecord}
    (h : x.Fits v e (.stop v g k :: q)) (hk : k ≠ .cut) (he : ¬e') :
    x.dn = .opened ∧ x.phase ≠ .sounding ∧ x.dnGeneration = g ∧ Voice.Fits { x with dn := .tail } v e' q := by
  rcases h with ⟨-, hq⟩ | ⟨-, -, _, hq⟩ | ⟨-, -, hq⟩ | ⟨-, -, -, _, hq⟩ | ⟨-, -, -, -, hq⟩ | ⟨-, -, -, hq⟩ |
    ⟨hdn, hp, -, _, -, hq⟩ | ⟨-, -, hq⟩
  case stopped =>
    obtain ⟨hhead, rfl⟩ := List.cons.inj hq
    refine ⟨hdn, hp, ?_, .tail rfl he rfl⟩
    cases hhead
    rfl
  case sounds => rcases hq _ List.mem_cons_self with hno | hno <;> cases hno
  case cut => cases hq; exact absurd rfl hk
  case reused => cases hq; exact absurd rfl hk
  all_goals cases hq

/-- A CUT that is sent leaves the voice as it is, with the START behind it if there is one (R118, R128). -/
theorem Voice.Fits.of_cut_sent {x : Voice} {e e' : Prop} {g : Byte} {q : List VoiceRecord}
    (h : x.Fits v e (.stop v g .cut :: q)) : x.Fits v e' q := by
  rcases h with ⟨-, hq⟩ | ⟨hdn, -, _, hq⟩ | ⟨-, -, hq⟩ | ⟨hdn, hp, -, _, hq⟩ | ⟨-, -, -, -, hq⟩ | ⟨-, -, -, hq⟩ |
    ⟨-, -, -, _, hk, hq⟩ | ⟨-, -, hq⟩
  case cut => exact .idle hdn (List.cons.inj hq).2
  case reused => exact .pending hdn hp (List.cons.inj hq).2
  case sounds => rcases hq _ List.mem_cons_self with hno | hno <;> cases hno
  case stopped => cases hq; exact absurd rfl hk
  all_goals cases hq

/-- The head record has left the queue, and the pool has been told of it (R118, R130). -/
theorem State.NoteLaws.transmitted {r : VoiceRecord} (h : s.NoteLaws L) (k : s.Sends r t) (hpool : t.pool = s.pool) :
    (t.transmitted r).NoteLaws L := by
  obtain ⟨-, -, -, -, hoks⟩ := h.pool
  have hvoice (u : VoiceIx) : t.voice u = s.voice u := by unfold State.voice; rw [hpool]
  have hage : t.pool.ageList = s.pool.ageList := by rw [hpool]
  have hrelease : t.pool.releaseList = s.pool.releaseList := by rw [hpool]
  have hended := k.not_ended h.allStop
  cases r with
  | allStop =>
    exact h.of_leaves_of_port (fun u => k.leaves rfl (hvoice u)) k.ended (k.allStopLaw h.allStop) (k.bound h.bound)
      hage hrelease fun _ _ _ => Iff.rfl
  | level v g n => exact h.of_update_sent k rfl rfl hpool
  | retune v g n => exact h.of_update_sent k rfl rfl hpool
  | start v g c p n x l =>
    have hfits := h.fits v
    rw [k.queue, recordsOf_cons_own rfl] at hfits
    obtain ⟨hdn, hp, hg, hopened⟩ := hfits.of_start_sent hended
    have hsent : (t.transmitted (.start v g c p n x l)) = t.setVoice v { s.voice v with dn := .opened } := by
      unfold State.transmitted State.modVoice
      dsimp only
      rw [hvoice, if_pos ⟨hdn, hg⟩]
    have hsame : (t.setVoice v { s.voice v with dn := .opened }).voice v = { s.voice v with dn := .opened } :=
      State.voice_setVoice_same _ _ _
    obtain ⟨howner, htimer, hboth, -, -⟩ := hoks v
    rw [hsent]
    refine h.of_sends (t := t.setVoice v { s.voice v with dn := .opened }) ⟨k.queue, k.owed, k.attached, k.canSend⟩ rfl
      hage hrelease (fun u hu => (State.voice_setVoice_ne _ _ (Ne.symm hu)).trans (hvoice u)) hsame ?_ ?_ <;> rw [hsame]
    · exact ⟨howner, htimer, fun _ => ⟨.inr rfl, (hboth hp).2⟩, fun hno => absurd (hp.symm.trans hno) nofun, nofun⟩
    · exact hopened
  | stop v g kind =>
    have hfits := h.fits v
    rw [k.queue, recordsOf_cons_own rfl] at hfits
    by_cases hk : kind = .cut
    · subst hk
      refine h.of_sends (t := t) (d := (s.voice v).dn) k rfl hage hrelease (fun u _ => hvoice u) (hvoice v) ?_ ?_ <;>
        rw [hvoice]
      · exact hoks v
      · exact hfits.of_cut_sent
    · obtain ⟨hdn, hp, hg, htail⟩ := hfits.of_stop_sent hk hended
      have hsent : (t.transmitted (.stop v g kind)) = t.setVoice v { s.voice v with dn := .tail } := by
        unfold State.transmitted State.modVoice
        dsimp only
        rw [if_neg hk, hvoice, if_pos ⟨hdn, hg⟩]
      have hsame : (t.setVoice v { s.voice v with dn := .tail }).voice v = { s.voice v with dn := .tail } :=
        State.voice_setVoice_same _ _ _
      obtain ⟨howner, htimer, -, hrel, -⟩ := hoks v
      rw [hsent]
      refine h.of_sends (t := t.setVoice v { s.voice v with dn := .tail }) ⟨k.queue, k.owed, k.attached, k.canSend⟩ rfl
        hage hrelease (fun u hu => (State.voice_setVoice_ne _ _ (Ne.symm hu)).trans (hvoice u)) hsame ?_ ?_ <;> rw [hsame]
      · exact ⟨howner, htimer, fun hno => absurd hno hp, fun hr => ⟨.inr rfl, (hrel hr).2⟩, nofun⟩
      · exact htail

theorem State.NoteLaws.transmit (h : s.NoteLaws L) : s.transmit.NoteLaws L := by
  unfold State.transmit
  split
  next r q hcan hq =>
    have hattached : s.port.attached = true := by
      unfold VoicePort.canSend at hcan
      simp only [Bool.and_eq_true] at hcan
      exact hcan.1.1
    refine State.NoteLaws.settleStall ?_
    exact h.transmitted ⟨hq, rfl, rfl, hattached⟩ rfl
  · exact h.of_leaves (fun u => .of_same rfl rfl) ⟨id, rfl, rfl, rfl, id, id⟩ rfl rfl fun _ _ _ => Iff.rfl

/-! ### Credit, the stall timer and attachment (R133, R135, R136) -/

/-- Credit, link and stall timer are no matter of these laws, as long as nothing is owed while ATTACHED. -/
theorem State.NoteLaws.of_queue (h : s.NoteLaws L) (hpool : t.pool = s.pool) (hqueue : t.port.queue = s.port.queue)
    (howed : t.port.allStopOwed = s.port.allStopOwed)
    (hattached : t.port.attached = s.port.attached ∨ s.port.allStopOwed = false) : t.NoteLaws L := by
  obtain ⟨htail, hstop⟩ := h.allStop
  refine h.of_leaves_of_port (fun u => .of_same (by unfold State.voice; rw [hpool]) hqueue) (fun he => ?_)
    ⟨hqueue ▸ htail, fun ho => ?_⟩ (hqueue ▸ h.bound) (by rw [hpool]) (by rw [hpool]) fun _ _ _ => Iff.rfl
  · unfold State.Ended at he ⊢
    rwa [howed, hqueue] at he
  · rw [howed] at ho
    rcases hattached with ha | hnone
    · rw [hqueue, ha]
      exact hstop ho
    · exact absurd (ho.symm.trans hnone) nofun

/-- An owed ALL_STOP is placed at the head: the queue was ended by it already (R136, R140). -/
theorem State.NoteLaws.placeAllStop (h : s.NoteLaws L) (howed : s.port.allStopOwed = true) :
    s.connected.placeAllStop.NoteLaws L := by
  obtain ⟨-, hstop⟩ := h.allStop
  obtain ⟨hnone, -⟩ := hstop howed
  have hroom := s.connected.makeRoom_moves.queues
  have hrequeues := State.Requeues.makeRoom s.connected
  have hnone' : VoiceRecord.allStop ∉ s.connected.makeRoom.port.queue := fun hm => hnone (hroom.mem hm)
  have hleaves (u : VoiceIx) : s.Leaves u s.connected.makeRoom :=
    have hup : s.Leaves u s.connected := .of_same rfl rfl
    hup.trans (s.connected.makeRoom_leaves u)
  unfold State.placeAllStop State.enqueueHead
  dsimp only
  split
  next hspace =>
    refine h.of_leaves_of_port (fun u => ⟨(hleaves u).alike, ?_⟩) (fun _ => .inl howed) ⟨hnone', nofun⟩ hspace
      hrequeues.ageList hrequeues.releaseList fun _ _ _ => Iff.rfl
    exact (hleaves u).thinned
  · exact h.of_leaves_of_port (fun u => ⟨(hleaves u).alike, (hleaves u).thinned⟩) (fun _ => .inl howed)
      ⟨fun hm => hnone' (List.mem_of_mem_tail hm), nofun⟩ (hroom.length h.bound) hrequeues.ageList hrequeues.releaseList
      fun _ _ _ => Iff.rfl

theorem State.NoteLaws.attach (h : s.NoteLaws L) : s.attach.NoteLaws L := by
  cases hdown : s.port.attached with
  | true =>
    rw [State.attach, if_pos hdown]
    exact h
  | false =>
    rw [State.attach_of_detached hdown]
    refine State.NoteLaws.settleStall (State.NoteLaws.raise ?_ _)
    unfold State.connectedPlaced
    split
    next howed => exact h.placeAllStop howed
    next howed => exact h.of_queue rfl rfl rfl (.inr (Bool.eq_false_of_not_eq_true howed))

theorem State.NoteLaws.stallExpiry (h : s.NoteLaws L) : s.stallExpiry.NoteLaws L := by
  unfold State.stallExpiry
  split
  · exact h
  · have hstarted : State.NoteLaws L
        { s with port := { s.port with stallTimer := some s.responder.engine.stallTime } } :=
      h.of_queue rfl rfl rfl (.inl rfl)
    exact hstarted.raise _

theorem State.NoteLaws.addCredit (h : s.NoteLaws L) (n : Nat) : (s.addCredit n).NoteLaws L :=
  State.NoteLaws.settleStall (h.of_queue rfl rfl rfl (.inl rfl))

/-! ### The flush (R121) -/

/-- A flush leaves nothing for the laws to speak of: no voice is in use, and the queue holds an ALL_STOP alone, or
nothing with one owed. -/
theorem State.FlushedTo.noteLaws {place : Bool} (h : s.FlushedTo t place) (hplace : place = false → s.port.attached = false)
    (hL : ∀ i, L i = []) : t.NoteLaws L := by
  obtain ⟨hvoice, hage, hrelease, -, hqueue, howed, -, hattached, -, -, -⟩ := h
  refine ⟨⟨by simp [hage], by simp [hrelease], fun u => ?_, fun u => ?_, fun u => ?_⟩, fun i k u => ?_, fun u => ?_, ⟨?_, ?_⟩,
    ?_⟩
  · simp [hage, hvoice]
  · simp [hrelease, hvoice]
  · rw [hvoice]
    exact ⟨iff_of_false nofun nofun, iff_of_false nofun nofun, nofun, nofun, nofun⟩
  · simp [hL, hvoice]
  · refine .idle (by rw [hvoice]) ?_
    rw [hqueue]
    split <;> rfl
  · rw [hqueue]
    split <;> nofun
  · intro ho
    rw [howed] at ho
    obtain rfl : place = false := by simpa using ho
    exact ⟨by simp [hqueue], hattached.trans (hplace rfl)⟩
  · rw [hqueue]
    split <;> simp

end

end Sys2Proof.Machine

/-! Every step keeps the laws of the pool and the queue. -/

namespace Sys2Proof.Machine

open Sys2Proof

section
variable {s t : State} {i : SlotIx}

/-! ### What leaves the layer lists as they are -/

theorem State.NoteLaws.of_slots (h : s.NoteLaws fun j => (s.slot j).layers) (hpool : t.pool = s.pool)
    (hport : t.port = s.port) (hslot : ∀ j, (t.slot j).layers = (s.slot j).layers) :
    t.NoteLaws fun j => (t.slot j).layers :=
  (h.of_same hpool hport).congr fun j k u => by rw [hslot]

/-- SET_SLOT writes settings, and no layers (R7, R8). -/
theorem Slot.layers_applySettings (x : Slot) (ps : List (Nat × Half)) : (x.applySettings ps).layers = x.layers := by
  have one (y : Slot) (n : Nat) (v : Int) : (y.writeSetting n v).layers = y.layers := by
    unfold Slot.writeSetting
    split <;> rfl
  have all (y : Slot) (vs : List (Nat × Half)) : (y.writeSettings vs).layers = y.layers := by
    unfold Slot.writeSettings
    induction vs generalizing y with
    | nil => rfl
    | cons p vs ih => exact (ih _).trans (one y _ _)
  refine Eq.trans ?_ (all x ps)
  unfold Slot.applySettings Slot.fitThreshold
  split <;> rfl

/-- A swap switches banks, and no layers (R152). -/
theorem State.layers_verificationCompletes (s : State) (j : SlotIx) :
    (s.verificationCompletes.slot j).layers = (s.slot j).layers := by
  have hswap (u : State) (b : BankIx) : ((u.swap b).slot j).layers = (u.slot j).layers := by
    unfold State.swap
    rw [(State.drain_reads _).1, State.slot_switchAll, (State.promote_reads u b).1]
  unfold State.verificationCompletes
  dsimp only
  split
  · split
    · split
      · simp
      · rw [(State.startWork_reads _ _).1, (State.completeOk_reads _ _ _).1, hswap]
        rfl
    · rfl
  · rfl

/-! ### Flush, PANIC, RESTART and detachment (R94, R121, R137, R172) -/

theorem State.flushedTo_voiceFlush (s : State) (place : Bool) : s.FlushedTo (s.voiceFlush place) place :=
  .of_flushPool (s.voiceFlush_sweeps place).pool (s.voiceFlush_sweeps place).ports.port rfl rfl rfl

/-- A flush leaves no slot with layers (R94). -/
theorem State.layers_voiceFlush (h : ∀ j : SlotIx, (s.slot j).phase = .sounding ∨ (s.slot j).layers = []) (place : Bool)
    (j : SlotIx) : ((s.voiceFlush place).slot j).layers = [] := by
  rw [State.slot_voiceFlush]
  unfold Slot.afterFlush
  split
  · rfl
  next hp => exact (h j).resolve_left (by simp [hp])
  next hp _ => exact (h j).resolve_left hp

namespace State.Voiced

theorem voiceFlush (h : s.Voiced) {place : Bool} (hplace : place = false → s.port.attached = false) :
    (s.voiceFlush place).Voiced := by
  have hnil := State.layers_voiceFlush h.silent place
  refine ⟨(s.flushedTo_voiceFlush place).noteLaws hplace hnil, fun j => .inr (hnil j), fun j => ?_, fun b j => ?_⟩
  · rw [hnil]
    exact Nat.zero_le 4
  · have hshallow : ((s.flushPool place).bank b).voicings[j].layers.length ≤ 4 := h.shallow b j
    rcases (s.voiceFlush_sweeps place).banks b with hb | ⟨-, hb⟩ <;> rw [hb] <;> exact hshallow

theorem warmRestart (h : s.Voiced) : s.warmRestart.NoteLaws fun j => (s.warmRestart.slot j).layers := by
  have hsilent (j : SlotIx) : (s.abandonWork.slot j).phase = .sounding ∨ (s.abandonWork.slot j).layers = [] := by
    rw [(State.abandonWork_reads s).1]
    exact h.silent j
  have hflushed := s.abandonWork.flushedTo_voiceFlush true
  have hnil := State.layers_voiceFlush hsilent true
  have hsweep : (s.abandonWork.voiceFlush true).Sweeps
      ((List.finRange 8).foldl State.restartSlot (s.abandonWork.voiceFlush true)) :=
    .foldl State.restartSlot_sweeps _ _
  have hslot (j : SlotIx) : (((List.finRange 8).foldl State.restartSlot (s.abandonWork.voiceFlush true)).slot j).layers =
      [] := by
    rw [State.slot_foldl_sweep State.restartSlot_sweeps State.slot_restartSlot _ (List.nodup_finRange 8) j,
      if_pos (List.mem_finRange j)]
    unfold Slot.afterRestart
    split
    · exact hnil j
    · rfl
  have hlaws := (hflushed.noteLaws (L := fun _ => []) nofun fun _ => rfl).of_same hsweep.pool hsweep.ports.port
  unfold State.warmRestart
  dsimp only
  generalize List.foldl State.restartSlot _ _ = u at hslot hlaws ⊢
  have hlisted : u.NoteLaws fun j => (u.slot j).layers := hlaws.congr fun j k v => by rw [hslot]
  exact hlisted.of_slots rfl rfl fun _ => rfl

theorem detach (h : s.Voiced) : s.detach.Voiced := by
  cases hattached : s.port.attached with
  | false =>
    rw [State.detach, if_neg (by simp [hattached])]
    exact h
  | true =>
    rw [State.detach_of_attached hattached]
    obtain ⟨-, howed⟩ := h.notes.allStop
    have hnone : s.port.allStopOwed = false :=
      Bool.eq_false_of_not_eq_true fun ho => absurd (hattached.symm.trans (howed ho).2) nofun
    have hunplugged : s.unplugged.Voiced :=
      ⟨h.notes.of_queue (t := s.unplugged) rfl rfl rfl (.inr hnone), h.silent, h.short, h.shallow⟩
    exact (hunplugged.voiceFlush fun _ => rfl).raise _

theorem attach (h : s.Voiced) : s.attach.Voiced := by
  obtain ⟨hslots, hbanks⟩ : (∀ j, s.attach.slot j = s.slot j) ∧ ∀ b, s.attach.bank b = s.bank b := by
    simp [State.slot, State.bank]
  exact h.of_notes hslots hbanks h.notes.attach

/-! ### Every step -/

theorem of_answer {r : Request} (h : s.Voiced) (k : Answer r s t) : t.NoteLaws fun j => (t.slot j).layers := by
  have reply {u : State} (hu : u.NoteLaws fun j => (u.slot j).layers) (st : Status) (pl : List Byte) :
      (u.reply r st pl).NoteLaws fun j => ((u.reply r st pl).slot j).layers :=
    hu.of_slots (by simp) (by simp) (by simp)
  cases k with
  | bind i t => exact reply (h.bind i t).notes _ _
  | unbind i => exact reply (h.unbind i).notes _ _
  | settings i ps st =>
    exact reply (h.modSlot (Slot.layers_applySettings _ ps)
      ((s.slot i).keeps_applySettings ps).sounding).notes _ _
  | panic => exact reply (h.voiceFlush (place := true) nofun).notes _ _
  | restart => exact reply h.warmRestart _ _
  | _ => exact h.notes.of_slots (by simp) (by simp) (by simp [State.slot])

theorem of_linkMoves (h : s.Voiced) (k : LinkMoves s t) : t.Voiced := by
  induction k with
  | refl => exact h
  | tail _ hmove ih =>
    cases hmove with
    | attach => exact ih.attach
    | detach => exact ih.detach
    | cut l => exact ih.raise _
    | _ => exact ⟨ih.notes.of_same rfl rfl, ih.silent, ih.short, ih.shallow⟩

theorem of_happens (h : s.Voiced) (k : Happens s t) : t.NoteLaws fun j => (t.slot j).layers := by
  cases k with
  | powerOn =>
    obtain ⟨-, -, -, -, -, -, -, hpool, hlayers, hstarts, hstops, hqueue, hbounds, -⟩ := lawsHoldAtReset
    exact (State.noteLaws_of_laws hpool hlayers hstarts hstops hbounds.1 hqueue).of_slots rfl rfl fun _ => rfl
  | sense fields p i => exact (h.takePacket p).notes
  | served r x rest =>
    refine of_answer ?_ (carryOut_answer _ _)
    exact ⟨h.notes.of_same rfl rfl, h.silent, h.short, h.shallow⟩
  | takes p rest x xs =>
    refine of_answer ?_ (carryOut_answer _ _)
    exact ⟨h.notes.of_same rfl rfl, h.silent, h.short, h.shallow⟩
  | lossExpiry i => exact (h.lossExpiry i).notes
  | releaseExpiry v => exact (h.notes.releaseExpiry v).congr fun j k u => by simp
  | stallExpiry => exact h.notes.stallExpiry.congr fun j k u => by simp
  | transmit => exact h.notes.transmit.congr fun j k u => by simp
  | grant n => exact (h.notes.addCredit n).congr fun j k u => by simp
  | freed v g => exact (h.notes.freedReport v g).congr fun j k u => by simp
  | verificationCompletes => exact h.notes.of_slots (by simp) (by simp) s.layers_verificationCompletes
  | hears l xs => exact (h.of_linkMoves (s.hearAll_moves l xs)).notes
  | cut l xs => exact (h.of_linkMoves (s.packetCut_moves l xs)).notes
  | _ => exact h.notes.of_slots (by simp) (by simp) (by simp [State.slot])

end State.Voiced

end

/-- Settles O58: for each voice the queue holds what its state and its dn state allow, and every event moves the voices
one at a time, with a queue that keeps the records of every other voice. -/
theorem poolLawsKept : Obligations.PoolLawsKept := by
  unfold Obligations.PoolLawsKept
  intro s t hslots hranges hpool hlayers hstarts hstops hbounds hqueue hstep
  have hvoiced : s.Voiced := by
    refine ⟨State.noteLaws_of_laws hpool hlayers hstarts hstops hbounds.1 hqueue, fun j => ?_, fun j => ?_, fun b j => ?_⟩
    · obtain ⟨-, -, -, -, -, -, hsilent, -⟩ := hslots j
      exact hsilent
    · obtain ⟨-, -, -, -, -, -, hshort⟩ := hranges.2 j
      exact hshort
    · obtain ⟨-, -, hvoicings⟩ := hranges.1 b
      obtain ⟨-, hshallow, -⟩ := hvoicings j
      exact hshallow
  exact (kept_of_happens (P := State.Voiced) (Q := fun u => u.NoteLaws fun j => (u.slot j).layers)
    (fun _ _ h => ⟨h.notes.of_same rfl rfl, h.silent, h.short, h.shallow⟩) (fun _ h => h.notes)
    (fun _ _ h k => h.of_happens k) hvoiced hstep).laws

end Sys2Proof.Machine
